-- ==== Sys2Proof/Word.lean ====
section
/-! DEFINITION. The words of the machine: bytes on the bus, tones, drives, and how a bus transaction can
break off. -/

namespace Sys2Proof

/-- One byte of the SPI bus or of the SDRAM. -/
abbrev Byte := BitVec 8

/-- A run of bytes, the first sent first. -/
abbrev Bytes := List Byte

/-- A panel grey level, an integer 0..15: 0 black, 15 white (Terms, 00_scope). -/
abbrev Tone := Fin 16

/-- The tone a byte field gives: a value above 15 is taken as 15 (R171). -/
def Tone.clamp (n : Nat) : Tone := ⟨min n 15, by omega⟩

/-- The action on one pixel for one frame (R76). -/
inductive Drive where
  | none
  | darken
  | lighten
  deriving DecidableEq, Repr, Inhabited

/-- How a transaction with a framing error broke off (R153). -/
inductive FramingCut where
  /-- CS_N rose before the fourth byte: `counted` says that CS_N fell while RESET_N was released
  (R152), `first` is the first byte where it was received in full. -/
  | beforeHeader (counted : Bool) (first : Option Byte)
  /-- CS_N rose after the header was decoded, at the wrong byte count or inside a byte; `clocked` whole
  body bytes had been clocked. -/
  | afterHeader (clocked : Nat)
  deriving DecidableEq, Repr

end Sys2Proof
end

