-- ==== Sys2Proof/Syntax.lean ====
section
/-! DEFINITION. The commands of the block: one constructor for each row of spec/opcode_table.json, in the
table's order. A dispatch row (FILL, TEXT, … SLEEP_DEEP) has no operand: the record it dispatches, with its
body bytes, stands at the head of the intake queue (R158; log 14). -/

namespace Sys2Proof

/-- One command: an event at the station's pins, the end of one of its timed operations, or the dispatch of
the record at the intake head. -/
inductive Instr where
  | pinReset
  | resetNRelease (addr0 addr1 : Bool)
  | startingEnd
  | headerDecode (counted : Bool) (target kind : Byte) (length : BitVec 16)
  | recordReceived (body : Bytes)
  | framingError (cut : FramingCut)
  | unknownKind
  | fill
  | text
  | hilite
  | copy
  | clippush
  | clippop
  | clipreset
  | drawEnd
  | fontdef
  | fontdrop
  | glyphput
  | glyphWriteEnd
  | glyphdrop
  | kernload
  | styleset
  | wavebegin
  | waveput
  | wavecommit
  | update
  | admissionPass
  | latchEnd
  | frameEnd
  | cancel (body : Bytes)
  | halt (body : Bytes)
  | panelset
  | reinitEnd
  | railctlOff
  | railctlClear
  | pgoodAsserted
  | pgoodLost
  | riseTimerExpiry
  | holdTimerExpiry
  | fallTimerExpiry
  | tempsetFixed
  | tempsetSensor
  | sampleIntervalExpiry
  /-- The two data bytes of the sensor, in the order it sent them (R92). -/
  | sensorReadEnd (raw : Byte × Byte)
  | sensorNoAck
  | sensorReadTimeout
  | evmask
  | evclear
  | readGlyph
  | readGlyphEnd
  | readKern
  | readStyle
  | readWave
  | readResidue
  | readPixels
  | readPixelsEnd
  | sleep
  | sleepDeep
  | wake (body : Bytes)
  | wakingEnd
  | reset (body : Bytes)
  | resetKeepTables (body : Bytes)
  | fetchlive
  | fetchqueue
  | resolutionPixelReadsEnd
  deriving DecidableEq, Repr

end Sys2Proof
end

