-- ==== Sys2Proof/Config.lean ====
section
/-! DEFINITION. What the part fixes at design time, and the free values: constants with no body, so that
nothing in Lean can know them. -/

namespace Sys2Proof

/-- FREE VALUE (log 3). How many pixels a walk in progress gets through before the command that overtakes
it; the argument is the state's `freeCount`, so each use is a fresh value. R15, R58, R114, R118 leave it open. -/
opaque Config.walkProgress : Nat → Nat

/-- FREE VALUE (log 17). The drive of a lookup that R87 says never happens: no matrix under the pinned key,
or UNKNOWN as the shown tone outside CLEAN. The argument is the pixel's key. -/
opaque Config.unstatedDrive : Nat → Drive

/-- Intake queue capacity in bytes (R156). -/
def Config.intakeBytes : Nat := 16384
/-- A record of the largest size, header and body (R157). -/
def Config.largestRecord : Nat := 4100
/-- Largest body length (R152). -/
def Config.maxBody : Nat := 4096
/-- Reply queue capacity (R161). -/
def Config.maxReplies : Nat := 16
/-- Request queue capacity (R111). -/
def Config.maxRequests : Nat := 24
/-- Glyph pool blocks (R21). -/
def Config.poolBlocks : Nat := 16384
/-- Bytes of one pool block (R20). -/
def Config.blockBytes : Nat := 64
/-- Glyph directory capacity (R20). -/
def Config.maxEntries : Nat := 8192
/-- Largest character code (R20). -/
def Config.maxCode : Nat := 0x10FFFF
/-- Kern pairs a slot can hold (R26). -/
def Config.maxKern : Nat := 512
/-- Saved clips the stack can hold (R68). -/
def Config.maxClips : Nat := 7
/-- Frames a bank can hold (R79). -/
def Config.maxFrames : Nat := 1024
/-- Waveform records a bank can hold (R79). -/
def Config.maxRecords : Nat := 40

end Sys2Proof
end

