-- ==== Sys2Proof/Machine/State.lean ====
section
/-! DEFINITION. The state of one UF42 station, block by block as the block table of 00_scope lists it, the
fault and refusal reasons, and the state right after reset. Plain data throughout. -/

namespace Sys2Proof.Machine

/-- No command of this block stops the machine: what goes wrong shows in State (a refused record, an event
flag, the rail state FAULT). Nobody raises a fault (log 25). -/
inductive Fault where
  deriving DecidableEq, Repr

/-- Reasons the model gives a command no outcome. -/
inductive Refusal where
  /-- Raised by `exec`'s arm of a command that has no meaning yet; safe, since no run goes on from it. -/
  | notModelled (mnemonic : String)
  deriving DecidableEq, Repr

/-! ### Codes and geometry -/

/-- A rectangle of global page coordinates (Conventions, R56). -/
structure Rect where
  x : Int
  y : Int
  w : Nat
  h : Nat
  deriving DecidableEq, Repr

/-- The rectangle that covers no pixel, in the one form the model keeps. -/
def Rect.none : Rect := ⟨0, 0, 0, 0⟩

/-- The five update modes (R74). -/
inductive Mode where
  | clean
  | tone16
  | tone4
  | bilevel
  | stroke
  deriving DecidableEq, Repr

/-- The two waveform banks (R77). -/
inductive BankId where
  | bankA
  | bankB
  deriving DecidableEq, Repr

/-- The reasons of a refusal (9.4). -/
inductive Reason where
  | length
  | field
  | noFont
  | storeFull
  | order
  | emptyBank
  | state
  | busy
  | replyFull
  | unknownKind
  deriving DecidableEq, Repr

/-- The outcomes of a request (R129). -/
inductive Ending where
  | done
  | empty
  | cancelled
  | aborted
  | noMode
  deriving DecidableEq, Repr

/-! ### Event and Reply Unit -/

/-- The report of one request's outcome (R129). -/
structure Notice where
  tag : Byte
  ending : Ending
  mode : Option Mode
  band : Option Nat
  promoted : Bool
  taken : Nat
  skipped : Nat
  deriving DecidableEq, Repr

/-- An entry of the reply queue (R161). A readback is its area code and the bytes after its reply header,
fixed when it is made (R173). -/
inductive Reply where
  | notice (n : Notice)
  | readback (area : Byte) (payload : Bytes)
  deriving DecidableEq, Repr

/-- The Event and Reply Unit (R160, R161, R165, R166). Bit positions are those of 10.1. -/
structure Events where
  flags : BitVec 12
  mask : BitVec 12
  replies : List Reply
  lastRefusal : Option (Byte × Reason)
  deriving DecidableEq, Repr

/-! ### Link Port, Intake Queue and Dispatcher -/

/-- What header decode decided for the transaction in progress (R154, R156, R162, R163). -/
inductive Disposition where
  /-- An in-order record whose intake space is reserved. -/
  | reserved
  /-- CANCEL, HALT or RESET, taken at CS_N rise. -/
  | express
  /-- A FETCHLIVE being served this snapshot. -/
  | fetchLive (snapshot : Bytes)
  /-- A FETCHQUEUE being served the head reply, or EMPTY. -/
  | fetchQueue (served : Option Reply)
  /-- A WAKE for the wake matcher. -/
  | wakeMatch
  /-- Discarded in STARTING or WAKING: OVERRUN at CS_N rise. -/
  | overrun
  /-- Ignored without a flag when well formed (a WAKE in RUN or WAKING). -/
  | ignored
  /-- Discarded without a flag (SLEEP and DEEP, R170). -/
  | silent
  deriving DecidableEq, Repr

/-- The frame being received: the header fields, the disposition, and whether the power state at header
decode lets a framing error set FRAMING (R154). -/
structure Rx where
  kind : Byte
  target : Byte
  length : Nat
  flagged : Bool
  disp : Disposition
  deriving DecidableEq, Repr

/-- The Link Port. `miso` holds the bytes MISO carried in the last transaction (log 19). -/
structure Link where
  address : Fin 4
  resetAsserted : Bool
  rx : Option Rx
  miso : Bytes
  deriving DecidableEq, Repr

/-- A whole in-order record of the intake queue (R156). -/
structure Record where
  kind : Byte
  body : Bytes
  deriving DecidableEq, Repr

/-- The four selectors of READ of PIXELS (R164). -/
inductive PixelField where
  | shown
  | target
  | goal
  | owner
  deriving DecidableEq, Repr

/-- A READ of PIXELS that is reading (R14, R15): pixels still to read and the values read so far. -/
structure PixelRead where
  selector : PixelField
  rect : Rect
  truncated : Bool
  todo : List Nat
  values : Bytes
  deriving DecidableEq, Repr

/-- What the Dispatcher is held on (R158). -/
inductive Hold where
  | free
  /-- An UPDATE until its first pass has ended; `begun` once that pass has begun (R110). -/
  | update (begun : Bool)
  /-- A PANELSET until its reinitialization has ended (R9). -/
  | reinit
  /-- A READ of PIXELS, with its reserved reply place (R14). -/
  | readPixels (r : PixelRead)
  /-- A READ of GLYPH that found its entry, with its reserved reply place and the readback it will queue
  (R32). -/
  | readGlyph (payload : Bytes)
  deriving DecidableEq, Repr

/-- The intake queue, oldest record first, and the Dispatcher. -/
structure Intake where
  queue : List Record
  hold : Hold
  deriving DecidableEq, Repr

/-! ### Table Store -/

/-- A pair of a kern list (R26). -/
structure KernPair where
  left : Nat
  right : Nat
  adj : Int
  deriving DecidableEq, Repr

/-- A DEFINED font slot's header and kern list (R17, R26). -/
structure Font where
  missingAdvance : Nat
  fallback : Option Nat
  kern : List KernPair
  deriving DecidableEq, Repr

/-- A glyph entry (R20); its coverage bitmap lies in its pool blocks. -/
structure Entry where
  width : Nat
  height : Nat
  bearingX : Int
  bearingY : Int
  advance : Nat
  blocks : List Nat
  deriving DecidableEq, Repr

/-- Edge kinds of a style (R28). -/
inductive EdgeKind where
  | none
  | underline
  | box
  deriving DecidableEq, Repr

/-- Edge patterns of a style (R28). -/
inductive EdgePattern where
  | solid
  | dotted
  deriving DecidableEq, Repr

/-- A highlight style (R28). -/
structure Style where
  fill : Tone
  edgeKind : EdgeKind
  pattern : EdgePattern
  edgeTone : Tone
  thickness : Nat
  deriving DecidableEq, Repr

/-- The reset value of a style (R28). -/
def Style.initial : Style := ⟨15, .none, .solid, 0, 1⟩

/-- The glyph write in progress: the key, the entry that will join (with the blocks the write holds), and
the packed bitmap (R23, R24). -/
structure GlyphWrite where
  slot : Nat
  code : Nat
  entry : Entry
  bitmap : Bytes
  deriving DecidableEq, Repr

/-- The Table Store. An EMPTY font slot is `none`. `directory` is keyed by `dirKey`, `pool` by byte address;
both are canonical lists (Store.wf). -/
structure Tables where
  fonts : Vector (Option Font) 8
  directory : List (Nat × Entry)
  pool : List Host.Cell
  styles : Vector Style 16
  glyphWrite : Option GlyphWrite
  deriving DecidableEq, Repr

/-! ### Composition Engine -/

/-- A checked TEXT with its clamped fields (R35, R36). -/
structure TextRec where
  slot : Nat
  continued : Bool
  penX : Int
  baseline : Int
  ink : Tone
  kern : Bool
  track : Int
  codes : List Nat
  deriving DecidableEq, Repr

/-- A checked HILITE (R62). -/
structure HiliteRec where
  style : Nat
  rects : List Rect
  deriving DecidableEq, Repr

/-- The draw kinds that take time. A TEXT carries the working pen it ends with (R48), how many of its target
writes the lookups found so far show to have been made (R50), and, for each code still to be found substituted
or missing (R47), how many target writes come before its lookup. -/
inductive DrawKind where
  | fill
  | copy
  | hilite
  | text (endPen : Int) (made : Nat) (misses : List Nat)
  deriving DecidableEq, Repr

/-- The draw record in progress (R55). A TEXT or HILITE whose first lookup is held behind a glyph write
(R24) has written nothing; otherwise `todo` lists the target writes (pixel, tone) in walk order. -/
inductive Draw where
  | textHeld (t : TextRec)
  | hiliteHeld (h : HiliteRec)
  | writing (kind : DrawKind) (todo : List (Nat × Tone))
  deriving DecidableEq, Repr

/-- The Composition Engine (R37, R68). The clip stack has the most recently pushed clip first. -/
structure Compose where
  pen : Int
  clip : Rect
  clipStack : List Rect
  excess : Nat
  heldClip : Option Rect
  draw : Option Draw
  deriving DecidableEq, Repr

/-! ### Pixel Store -/

/-- A pixel record (R1). `shown = none` is UNKNOWN, `owner = none` is NONE. -/
structure PixelRec where
  shown : Option Tone
  target : Tone
  goal : Tone
  owner : Option (Fin 16)
  deriving DecidableEq, Repr

/-- The reinitialized record (R9, R11): what a pixel with no listed record reads as. -/
def PixelRec.initial : PixelRec := ⟨none, 15, 15, none⟩

/-- The PANELSET fields (R6): window, then timing. -/
structure Panel where
  x0 : Nat
  w : Nat
  h : Nat
  framePeriod : Nat
  riseLimit : Nat
  holdTime : Nat
  fallTime : Nat
  sensorAddress : Nat
  sampleInterval : Nat
  residueThreshold : Nat
  deriving DecidableEq, Repr

/-- The pin-reset values of the PANELSET fields (R5, R6). -/
def Panel.initial : Panel := ⟨0, 2048, 1664, 12000, 20, 2000, 10, 0x49, 60, 10⟩

/-- The station window in force (1.2). -/
def Panel.window (p : Panel) : Rect := ⟨p.x0, 0, p.w, p.h⟩

/-- The Pixel Store. `pixels` is a canonical list keyed by `pixelKey`; an unlisted pixel of the window has
the record `PixelRec.initial`. -/
structure PixelStore where
  pixels : List (Nat × PixelRec)
  panel : Panel
  deriving DecidableEq, Repr

/-! ### Waveform Bank Unit -/

/-- Bank states (R77). -/
inductive BankState where
  | empty
  | loading
  | active
  | retired
  deriving DecidableEq, Repr

/-- A waveform record: its frame count and its matrices as received, frame 0 first (R79, R172). -/
structure WaveRec where
  frames : Nat
  drives : Bytes
  deriving DecidableEq, Repr

/-- A bank: its state, header and records (R77 to R79). `records` is a canonical list keyed by `waveKey`. An
EMPTY bank has no bounds and no records. -/
structure Bank where
  state : BankState
  bounds : List Int
  ceiling : Int
  records : List (Nat × WaveRec)
  deriving DecidableEq, Repr

/-- An EMPTY bank. -/
def Bank.initial : Bank := ⟨.empty, [], 0, []⟩

/-- The Waveform Bank Unit. Pin counts are counted from the slots (R86), not stored again. -/
structure Waves where
  bankA : Bank
  bankB : Bank
  deriving DecidableEq, Repr

/-! ### Temperature Unit -/

/-- Temperature sources (R91). -/
inductive Source where
  | sensor
  | fixed
  deriving DecidableEq, Repr

/-- What the Temperature Unit, as controller, puts on its two-wire line in a sensor read (R92, R93). -/
inductive WireEvent where
  /-- A start condition. -/
  | start
  /-- The sensor address, with the read direction; whole from the moment the read begins (log 31). -/
  | address (a : Nat)
  /-- A data byte is acknowledged. -/
  | ack
  /-- A data byte is not acknowledged. -/
  | nack
  /-- A stop condition. -/
  | stop
  /-- Both lines are released without a stop condition. -/
  | release
  deriving DecidableEq, Repr

/-- The Temperature Unit (R91). `readInFlight` is the sensor address of the read in progress, `timer` the
length of the running sample interval in seconds. `wire` is what the unit has put on the two-wire line from the
last start condition on, after the end of a read that the same command cut off (R92 to R94; log 31). -/
structure Thermal where
  source : Source
  current : Int
  failures : Nat
  band : Option Nat
  readInFlight : Option Nat
  timer : Option Nat
  wire : List WireEvent
  deriving DecidableEq, Repr

/-- The pin-reset values of the Temperature Unit (R98). -/
def Thermal.initial : Thermal := ⟨.sensor, 400, 0, none, none, none, []⟩

/-! ### Update Scheduler -/

/-- A pending request (R111): what its UPDATE carried, and the running pass's cursor. -/
structure Request where
  tag : Byte
  rect : Rect
  allowed : List Mode
  skip : Bool
  promote : Bool
  notify : Bool
  /-- The running pass has still to examine it (the MODEL's own field; R113). -/
  due : Bool
  deriving DecidableEq, Repr

/-- The states of a slot that is not FREE (R116). -/
inductive Phase where
  | latching
  | armed
  | running (index : Nat)
  deriving DecidableEq, Repr

/-- The fields of a slot that is not FREE (7.4). -/
structure Slot where
  phase : Phase
  tag : Byte
  notify : Bool
  mode : Mode
  promoted : Bool
  band : Nat
  bank : BankId
  frames : Nat
  rect : Rect
  taken : Nat
  skipped : Nat
  tiles : List Nat
  cancel : Bool
  deriving DecidableEq, Repr

/-- The running admission pass (R112, R113): reading for the DEFER check of the request it examines, reading
for that request's resolution, or waiting on the latch pass of the slot it admitted into. `todo` lists the
pixels still to walk. -/
inductive Pass where
  | deferRead (todo : List Nat) (found : Bool)
  | resolveRead (todo : List Nat) (found : Bool)
  | latching (slot : Fin 16) (todo : List Nat)
  deriving DecidableEq, Repr

/-- The Update Scheduler. A FREE slot is `none`. -/
structure Sched where
  requests : List Request
  slots : Vector (Option Slot) 16
  passDue : Bool
  pass : Option Pass
  deriving DecidableEq, Repr

/-- The Update Scheduler with nothing to do (R111, R116). -/
def Sched.initial : Sched := ⟨[], Vector.replicate 16 none, false, none⟩

/-! ### Rail Sequencer and Power Control -/

/-- Rail states (R138). -/
inductive RailState where
  | off
  | rising
  | on
  | falling
  | fault
  deriving DecidableEq, Repr

/-- The Rail Sequencer: its state, its running timers with the lengths they started with in ms, and the
level of PGOOD (R138). -/
structure Rails where
  state : RailState
  rise : Option Nat
  hold : Option Nat
  fall : Option Nat
  pgood : Bool
  deriving DecidableEq, Repr

/-- Power states (R147); WAKING remembers what it wakes from (R151). -/
inductive Power where
  | starting
  | run
  | sleep
  | deep
  | waking (fromDeep : Bool)
  deriving DecidableEq, Repr

/-! ### The machine -/

/-- One UF42 station. `scan` is the length in µs of the frame in progress (R132); `residue` is a canonical
list of the tiles whose count is not 0 (R105). `freeCount` and `pending` are the MODEL's own. -/
structure State where
  link : Link
  intake : Intake
  ev : Events
  tables : Tables
  comp : Compose
  store : PixelStore
  wave : Waves
  temp : Thermal
  residue : List (Nat × Nat)
  sched : Sched
  scan : Option Nat
  rails : Rails
  power : Power
  /-- Counts the free values used so far (log 3). -/
  freeCount : Nat
  /-- The commands that wait, first in first out. -/
  pending : List Instr
  deriving DecidableEq, Repr

/-- The link-side pin-reset values of the Event and Reply Unit (R169). -/
def Events.initial : Events := ⟨0, 0xFFF, [], none⟩

/-- The pin-reset values of the Table Store (R31) over the SDRAM bytes `pool`. -/
def Tables.emptied (pool : List Host.Cell) : Tables :=
  ⟨Vector.replicate 8 none, [], pool, Vector.replicate 16 Style.initial, none⟩

/-- The pin-reset values of the Composition Engine under a window (R73). -/
def Compose.initial (window : Rect) : Compose := ⟨0, window, [], 0, none, none⟩

/-- The machine right after pin reset is released (R5, R31, R73, R88, R98, R107, R116, R146, R169): STARTING,
with the straps low and PGOOD not asserted (DESIGN CHOICE, log 7). -/
def State.reset : State where
  link := ⟨0, false, none, []⟩
  intake := ⟨[], .free⟩
  ev := Events.initial
  tables := Tables.emptied []
  comp := Compose.initial Panel.initial.window
  store := ⟨[], Panel.initial⟩
  wave := ⟨Bank.initial, Bank.initial⟩
  temp := Thermal.initial
  residue := []
  sched := Sched.initial
  scan := none
  rails := ⟨.off, none, none, none, false⟩
  power := .starting
  freeCount := 0
  pending := []

end Sys2Proof.Machine
end

