-- ==== Sys2Proof/Machine/Store.lean ====
section
/-! DEFINITION. Canonical sparse lists: the one form in which the model keeps the glyph pool's bytes, the
pixel records, the glyph directory, a bank's records and the residue counts. Keys rise strictly, and a list
with a default value lists no entry equal to it. -/

namespace Sys2Proof.Machine

variable {α : Type}

/-- The entry under a key. -/
def Store.get? (m : List (Nat × α)) (k : Nat) : Option α :=
  match m with
  | [] => none
  | (k', v) :: rest => if k' = k then some v else Store.get? rest k

/-- The value at a key, `d` where nothing is listed. -/
def Store.getD (m : List (Nat × α)) (k : Nat) (d : α) : α := (Store.get? m k).getD d

/-- Put a value under a key, keeping the keys rising. -/
def Store.put (m : List (Nat × α)) (k : Nat) (v : α) : List (Nat × α) :=
  match m with
  | [] => [(k, v)]
  | (k', v') :: rest =>
    if k < k' then (k, v) :: (k', v') :: rest
    else if k = k' then (k, v) :: rest
    else (k', v') :: Store.put rest k v

/-- Remove the entry under a key. -/
def Store.drop (m : List (Nat × α)) (k : Nat) : List (Nat × α) := m.filter fun e => e.1 ≠ k

/-- Write a value where an unlisted key reads as `d`: writing `d` removes the entry. -/
def Store.set [DecidableEq α] (d : α) (m : List (Nat × α)) (k : Nat) (v : α) : List (Nat × α) :=
  if v = d then Store.drop m k else Store.put m k v

/-- Apply `f` to every listed value, where unlisted keys hold a `d` that `f` keeps. -/
def Store.mapValues [DecidableEq α] (d : α) (f : Nat → α → α) (m : List (Nat × α)) : List (Nat × α) :=
  (m.map fun e => (e.1, f e.1 e.2)).filter fun e => e.2 ≠ d

/-- The keys rise strictly. -/
abbrev Store.sorted (m : List (Nat × α)) : Prop := m.Pairwise fun a b => a.1 < b.1

/-- The canonical form of a list with a default: rising keys, and no entry equal to the default. -/
abbrev Store.wf [DecidableEq α] (d : α) (m : List (Nat × α)) : Prop :=
  Store.sorted m ∧ ∀ e ∈ m, e.2 ≠ d

/-- Add a number to a rising list of numbers without repeats. -/
def insertKey (ks : List Nat) (k : Nat) : List Nat :=
  match ks with
  | [] => [k]
  | k' :: rest => if k < k' then k :: k' :: rest else if k = k' then k' :: rest else k' :: insertKey rest k

/-! ### The glyph pool's bytes -/

/-- What a pool byte that nothing has written reads as (DESIGN CHOICE, log 8). -/
def poolDefault : Byte := 0

/-- The canonical form of the glyph pool: rising addresses, no listed default byte, every address inside the
16,384 blocks of 64 bytes (R21). -/
abbrev Memory.wf (m : List Host.Cell) : Prop :=
  Store.wf poolDefault m ∧ ∀ e ∈ m, e.1 < Config.poolBlocks * Config.blockBytes

/-- Read one byte of the pool. -/
def Memory.read (m : List Host.Cell) (a : Nat) : Byte := Store.getD m a poolDefault

/-- Write one byte of the pool. An address outside the pool does not exist and is not written. -/
def Memory.write (m : List Host.Cell) (a : Nat) (b : Byte) : List Host.Cell :=
  if a < Config.poolBlocks * Config.blockBytes then Store.set poolDefault m a b else m

/-- The pool address of byte `j` of a bitmap held in `blocks`, in block order (R20). -/
def bitmapAddress (blocks : List Nat) (j : Nat) : Nat :=
  blocks.getD (j / Config.blockBytes) 0 * Config.blockBytes + j % Config.blockBytes

/-- Write a bitmap's bytes, from byte `j` of it on, into its blocks (R24). -/
def Memory.writeBitmap (m : List Host.Cell) (blocks : List Nat) (j : Nat) (bytes : Bytes) : List Host.Cell :=
  match bytes with
  | [] => m
  | b :: rest => Memory.writeBitmap (Memory.write m (bitmapAddress blocks j) b) blocks (j + 1) rest

/-! ### Geometry -/

/-- A rectangle that covers no pixel (R56). -/
def Rect.isEmpty (r : Rect) : Bool := r.w = 0 || r.h = 0

/-- The pixel (x, y) lies in the rectangle. -/
def Rect.has (r : Rect) (x y : Int) : Bool :=
  decide (r.x ≤ x) && decide (x < r.x + r.w) && decide (r.y ≤ y) && decide (y < r.y + r.h)

/-- The intersection of two rectangles; `Rect.none` when they share no pixel (R174). -/
def Rect.inter (a b : Rect) : Rect :=
  let x1 := max a.x b.x
  let y1 := max a.y b.y
  let x2 := min (a.x + a.w) (b.x + b.w)
  let y2 := min (a.y + a.h) (b.y + b.h)
  if x1 < x2 ∧ y1 < y2 then ⟨x1, y1, (x2 - x1).toNat, (y2 - y1).toNat⟩ else Rect.none

/-- The rectangles share at least one pixel (R113). -/
def Rect.meets (a b : Rect) : Bool := !(Rect.inter a b).isEmpty

/-- The key of the pixel at a global column and row: columns stay below 8,192 (R39), so key order is row
order. -/
def pixelKey (x y : Nat) : Nat := y * 8192 + x

/-- The column of a key. -/
def keyX (k : Nat) : Nat := k % 8192

/-- The row of a key. -/
def keyY (k : Nat) : Nat := k / 8192

/-- The keys of a rectangle inside the window, in row order. -/
def Rect.keys (r : Rect) : List Nat :=
  (List.range r.h).flatMap fun j => (List.range r.w).map fun i => pixelKey (r.x.toNat + i) (r.y.toNat + j)

/-- The rectangle covers the pixel of a key. -/
def Rect.hasKey (r : Rect) (k : Nat) : Bool := r.has (keyX k) (keyY k)

/-- The keys of the union of rectangles within a clip, in row order, each once (R63). -/
def unionKeys (clip : Rect) (rects : List Rect) : List Nat :=
  rects.foldl (fun acc r => (Rect.inter r clip).keys.foldl insertKey acc) []

end Sys2Proof.Machine
end

