-- ==== Sys2Proof/Machine/Operands.lean ====
section
/-! DEFINITION. The operand forms: the byte encodings of R171 and R172, the code tables of 10.1, and the
record bodies of 10.4 and of the chapters that own the shorter ones. Readers take the body bytes of a record;
each `encode…` writes the same layout. -/

namespace Sys2Proof.Machine

/-! ### Fields (R171): big-endian, signed fields in two's complement -/

/-- The byte at an offset, as an unsigned number. -/
def u8 (b : Bytes) (i : Nat) : Nat := (b.getD i 0).toNat
/-- Two bytes, unsigned. -/
def u16 (b : Bytes) (i : Nat) : Nat := u8 b i * 256 + u8 b (i + 1)
/-- Three bytes, unsigned. -/
def u24 (b : Bytes) (i : Nat) : Nat := u16 b i * 256 + u8 b (i + 2)
/-- Four bytes, unsigned. -/
def u32 (b : Bytes) (i : Nat) : Nat := u16 b i * 65536 + u16 b (i + 2)

/-- The two's complement reading of an unsigned number of modulus `m`. -/
def signed (m n : Nat) : Int := if n * 2 < m then n else (n : Int) - m

/-- One byte, signed. -/
def s8 (b : Bytes) (i : Nat) : Int := signed 256 (u8 b i)
/-- Two bytes, signed. -/
def s16 (b : Bytes) (i : Nat) : Int := signed 65536 (u16 b i)
/-- Four bytes, signed. -/
def s32 (b : Bytes) (i : Nat) : Int := signed 4294967296 (u32 b i)

/-- A number as one byte. -/
def be8 (n : Nat) : Bytes := [BitVec.ofNat 8 n]
/-- A number as two bytes. -/
def be16 (n : Nat) : Bytes := [BitVec.ofNat 8 (n / 256), BitVec.ofNat 8 n]
/-- A number as three bytes. -/
def be24 (n : Nat) : Bytes := BitVec.ofNat 8 (n / 65536) :: be16 n
/-- A number as four bytes. -/
def be32 (n : Nat) : Bytes := be16 (n / 65536) ++ be16 n
/-- A signed number's two's complement in modulus `m`. -/
def unsigned (m : Nat) (z : Int) : Nat := (z % m).toNat

/-- A value clamped to a range. -/
def clampInt (lo hi z : Int) : Int := if z < lo then lo else if hi < z then hi else z
/-- A count clamped to a range. -/
def clampNat (lo hi n : Nat) : Nat := if n < lo then lo else if hi < n then hi else n

/-! ### Packing (R172) -/

/-- Coverage value `j` of a packed bitmap byte: even values in bits 7..4, odd ones in bits 3..0. -/
def coverageOf (byte : Byte) (j : Nat) : Nat :=
  if j % 2 = 0 then byte.toNat / 16 else byte.toNat % 16

/-- Bytes of a bitmap of `n` coverage values (R20). -/
def bitmapBytes (n : Nat) : Nat := (n + 1) / 2

/-- A bitmap of `n` values without its padding half-byte: stored and returned as 0 (R172). -/
def clearPadding (n : Nat) (bytes : Bytes) : Bytes :=
  match bytes with
  | [] => []
  | [b] => if n % 2 = 1 then [BitVec.ofNat 8 (b.toNat / 16 * 16)] else [b]
  | b :: rest => b :: clearPadding n rest

/-- Drive `d` of a packed matrix starting at byte `at0`; the code 3 is read as NONE (R76, R172). -/
def driveOf (drives : Bytes) (at0 d : Nat) : Drive :=
  match u8 drives (at0 + d / 4) / 4 ^ (3 - d % 4) % 4 with
  | 1 => .darken
  | 2 => .lighten
  | _ => .none

/-! ### Code tables (10.1) -/

/-- The record kinds. -/
inductive RecordKind where
  | fill | text | hilite | copy | clippush | clippop | clipreset
  | fontdef | glyphput | glyphdrop | fontdrop | kernload | styleset
  | wavebegin | waveput | wavecommit
  | update | cancel | halt
  | panelset | railctl | tempset | evmask | evclear | read
  | sleep | wake | reset | fetchlive | fetchqueue
  deriving DecidableEq, Repr

/-- A kind's code. -/
def RecordKind.code : RecordKind → Byte
  | .fill => 0x10 | .text => 0x11 | .hilite => 0x12 | .copy => 0x13
  | .clippush => 0x14 | .clippop => 0x15 | .clipreset => 0x16
  | .fontdef => 0x20 | .glyphput => 0x21 | .glyphdrop => 0x22 | .fontdrop => 0x23
  | .kernload => 0x24 | .styleset => 0x25
  | .wavebegin => 0x30 | .waveput => 0x31 | .wavecommit => 0x32
  | .update => 0x40 | .cancel => 0x41 | .halt => 0x42
  | .panelset => 0x50 | .railctl => 0x51 | .tempset => 0x52
  | .evmask => 0x60 | .evclear => 0x61 | .read => 0x62
  | .sleep => 0x70 | .wake => 0x71 | .reset => 0x72
  | .fetchlive => 0x7E | .fetchqueue => 0x7F

/-- Every kind, in the order of the kind table. -/
def RecordKind.all : List RecordKind :=
  [.fill, .text, .hilite, .copy, .clippush, .clippop, .clipreset, .fontdef, .glyphput, .glyphdrop, .fontdrop,
   .kernload, .styleset, .wavebegin, .waveput, .wavecommit, .update, .cancel, .halt, .panelset, .railctl,
   .tempset, .evmask, .evclear, .read, .sleep, .wake, .reset, .fetchlive, .fetchqueue]

/-- The kind of a code, none outside the kind table. -/
def RecordKind.ofCode (c : Byte) : Option RecordKind := RecordKind.all.find? fun k => k.code = c

/-- The code of a refusal reason. -/
def Reason.code : Reason → Byte
  | .length => 0x01 | .field => 0x02 | .noFont => 0x03 | .storeFull => 0x04 | .order => 0x05
  | .emptyBank => 0x06 | .state => 0x07 | .busy => 0x08 | .replyFull => 0x09 | .unknownKind => 0x0A

/-- The code of a mode (R74). -/
def Mode.code : Mode → Nat
  | .clean => 0 | .tone16 => 1 | .tone4 => 2 | .bilevel => 3 | .stroke => 4

/-- The mode of a code. -/
def Mode.ofCode : Nat → Option Mode
  | 0 => some .clean | 1 => some .tone16 | 2 => some .tone4 | 3 => some .bilevel | 4 => some .stroke
  | _ => none

/-- The five modes in code order. -/
def Mode.all : List Mode := [.clean, .tone16, .tone4, .bilevel, .stroke]

/-- The code of a notice outcome. -/
def Ending.code : Ending → Nat
  | .done => 0 | .empty => 1 | .cancelled => 2 | .aborted => 3 | .noMode => 4

/-- The code of a power state. -/
def Power.code : Power → Nat
  | .starting => 0 | .run => 1 | .sleep => 2 | .deep => 3 | .waking _ => 4

/-- The code of a rail state. -/
def RailState.code : RailState → Nat
  | .off => 0 | .rising => 1 | .on => 2 | .falling => 3 | .fault => 4

/-- The code of a bank state. -/
def BankState.code : BankState → Nat
  | .empty => 0 | .loading => 1 | .active => 2 | .retired => 3

/-- The code of a bank. -/
def BankId.code : BankId → Nat
  | .bankA => 0 | .bankB => 1

/-- The code of a temperature source. -/
def Source.code : Source → Nat
  | .sensor => 0 | .fixed => 1

/-- The code of an edge kind (R29). -/
def EdgeKind.code : EdgeKind → Nat
  | .none => 0 | .underline => 1 | .box => 2

/-- The code of an edge pattern (R29). -/
def EdgePattern.code : EdgePattern → Nat
  | .solid => 0 | .dotted => 1

/-- The code of a pixel field selector (R164). -/
def PixelField.ofCode : Nat → Option PixelField
  | 0 => some .shown | 1 => some .target | 2 => some .goal | 3 => some .owner | _ => none

/-- The selector's code. -/
def PixelField.code : PixelField → Nat
  | .shown => 0 | .target => 1 | .goal => 2 | .owner => 3

/-- A byte field that is none is sent as 0xFF (10.1). -/
def orNone (n : Option Nat) : Nat := n.getD 0xFF

/-! ### Record bodies -/

/-- What a record's own checks find: the fields, or the reason of the refusal. -/
inductive Checked (α : Type) where
  | ok (fields : α)
  | refuse (r : Reason)
  deriving DecidableEq, Repr

/-- A rectangle of 8 bytes (R56, R171). -/
def rectAt (b : Bytes) (i : Nat) : Rect := ⟨s16 b i, s16 b (i + 2), u16 b (i + 4), u16 b (i + 6)⟩

/-- A rectangle's 8 bytes. -/
def encodeRect (r : Rect) : Bytes :=
  be16 (unsigned 65536 r.x) ++ be16 (unsigned 65536 r.y) ++ be16 r.w ++ be16 r.h

/-- FILL: rectangle and tone (R57). -/
def parseFill (b : Bytes) : Checked (Rect × Tone) :=
  if b.length ≠ 9 then .refuse .length else .ok (rectAt b 0, Tone.clamp (u8 b 8))

/-- A COPY's fields: source rectangle, destination column and row. -/
structure CopyRec where
  src : Rect
  dx : Int
  dy : Int
  deriving DecidableEq, Repr

/-- COPY (R59). -/
def parseCopy (b : Bytes) : Checked CopyRec :=
  if b.length ≠ 12 then .refuse .length else .ok ⟨rectAt b 0, s16 b 8, s16 b 10⟩

/-- CLIPPUSH (R69). -/
def parseClippush (b : Bytes) : Checked Rect :=
  if b.length ≠ 8 then .refuse .length else .ok (rectAt b 0)

/-- A record with no body (R70, R71, R84). -/
def parseEmpty (b : Bytes) : Checked Unit := if b.length ≠ 0 then .refuse .length else .ok ()

/-- The codes of a TEXT from offset `i` on. -/
def codesAt (b : Bytes) (i n : Nat) : List Nat := (List.range n).map fun j => u24 b (i + 3 * j)

/-- TEXT, checks 1 to 3 of R35 and the clamping of R36. -/
def parseText (b : Bytes) : Checked TextRec :=
  let n := u8 b 14
  if b.length < 15 ∨ n = 0 ∨ 250 < n ∨ b.length ≠ 15 + 3 * n then .refuse .length
  else if 7 < u8 b 0 ∨ 1 < u8 b 1 ∨ 1 < u8 b 9 ∨ s16 b 6 < -256 ∨ 2047 < s16 b 6 ∨
      (u8 b 1 = 0 ∧ (s32 b 2 < -8192 ∨ 65535 < s32 b 2)) then .refuse .field
  else if (codesAt b 15 n).any (fun c => decide (Config.maxCode < c)) then .refuse .field
  else .ok ⟨u8 b 0, u8 b 1 = 1, s32 b 2, s16 b 6, Tone.clamp (u8 b 8), u8 b 9 = 1,
    clampInt (-64) 63 (s32 b 10), codesAt b 15 n⟩

/-- A TEXT body in the layout of 10.4. -/
def encodeText (t : TextRec) : Bytes :=
  be8 t.slot ++ be8 (if t.continued then 1 else 0) ++ be32 (unsigned 4294967296 t.penX) ++
  be16 (unsigned 65536 t.baseline) ++ be8 t.ink.val ++ be8 (if t.kern then 1 else 0) ++
  be32 (unsigned 4294967296 t.track) ++ be8 t.codes.length ++ t.codes.flatMap be24

/-- HILITE, the checks of R62. -/
def parseHilite (b : Bytes) : Checked HiliteRec :=
  let n := u8 b 1
  if b.length < 2 ∨ n = 0 ∨ 32 < n ∨ b.length ≠ 2 + 8 * n then .refuse .length
  else if 15 < u8 b 0 then .refuse .field
  else .ok ⟨u8 b 0, (List.range n).map fun j => rectAt b (2 + 8 * j)⟩

/-- A HILITE body in the layout of 10.4. -/
def encodeHilite (h : HiliteRec) : Bytes :=
  be8 h.style ++ be8 h.rects.length ++ h.rects.flatMap encodeRect

/-- A FONTDEF's fields. -/
structure FontdefRec where
  slot : Nat
  missingAdvance : Nat
  fallback : Option Nat
  deriving DecidableEq, Repr

/-- FONTDEF (R18). -/
def parseFontdef (b : Bytes) : Checked FontdefRec :=
  if b.length ≠ 7 then .refuse .length
  else if 7 < u8 b 0 ∨ 4095 < u16 b 1 ∨ 1 < u8 b 3 then .refuse .field
  else if u8 b 3 = 1 ∧ Config.maxCode < u24 b 4 then .refuse .field
  else .ok ⟨u8 b 0, u16 b 1, if u8 b 3 = 1 then some (u24 b 4) else none⟩

/-- FONTDROP (R19): the slot. -/
def parseFontdrop (b : Bytes) : Checked Nat :=
  if b.length ≠ 1 then .refuse .length else if 7 < u8 b 0 then .refuse .field else .ok (u8 b 0)

/-- GLYPHDROP (R25): slot and code. -/
def parseGlyphdrop (b : Bytes) : Checked (Nat × Nat) :=
  if b.length ≠ 4 then .refuse .length
  else if 7 < u8 b 0 ∨ Config.maxCode < u24 b 1 then .refuse .field
  else .ok (u8 b 0, u24 b 1)

/-- Pairs `i` to `i + n − 1` of a kern list body, at 7 bytes each from offset `base`. -/
def kernPairsAt (b : Bytes) (base n : Nat) : List KernPair :=
  (List.range n).map fun j => ⟨u24 b (base + 7 * j), u24 b (base + 7 * j + 3), s8 b (base + 7 * j + 6)⟩

/-- A pair's 7 bytes. -/
def encodeKernPair (p : KernPair) : Bytes := be24 p.left ++ be24 p.right ++ be8 (unsigned 256 p.adj)

/-- The order of a kern list: by left code, then by right code (R26). -/
def KernPair.before (p q : KernPair) : Bool :=
  decide (p.left < q.left) || (decide (p.left = q.left) && decide (p.right < q.right))

/-- Check 5 of R27: one walk in record order; the first failing pair decides, its code first. -/
def kernWalk (prev : Option KernPair) (ps : List KernPair) : Option Reason :=
  match ps with
  | [] => none
  | p :: rest =>
    if Config.maxCode < p.left ∨ Config.maxCode < p.right then some .field
    else if prev.any (fun q => !q.before p) then some .order
    else kernWalk (some p) rest

/-- STYLESET (R29): index and clamped style. -/
def parseStyleset (b : Bytes) : Checked (Nat × Style) :=
  if b.length ≠ 6 then .refuse .length
  else if 15 < u8 b 0 ∨ 2 < u8 b 2 ∨ 1 < u8 b 3 then .refuse .field
  else .ok (u8 b 0, ⟨Tone.clamp (u8 b 1),
    if u8 b 2 = 0 then .none else if u8 b 2 = 1 then .underline else .box,
    if u8 b 3 = 0 then .solid else .dotted, Tone.clamp (u8 b 4), clampNat 1 4 (u8 b 5)⟩)

/-- A style's five bytes (10.5). -/
def encodeStyle (s : Style) : Bytes :=
  be8 s.fill.val ++ be8 s.edgeKind.code ++ be8 s.pattern.code ++ be8 s.edgeTone.val ++ be8 s.thickness

/-- A WAVEBEGIN's header: bounds and ceiling. -/
structure WaveHeader where
  bounds : List Int
  ceiling : Int
  deriving DecidableEq, Repr

/-- Bounds strictly ascending (R78). -/
def ascending : List Int → Bool
  | a :: b :: rest => decide (a < b) && ascending (b :: rest)
  | _ => true

/-- WAVEBEGIN, the checks of R80. -/
def parseWavebegin (b : Bytes) : Checked WaveHeader :=
  let n := u8 b 0
  let bounds := (List.range n).map fun j => s8 b (1 + j)
  let ceiling := s8 b (1 + n)
  if b.length < 1 then .refuse .length
  else if n = 0 ∨ 8 < n then .refuse .field
  else if b.length ≠ 2 + n then .refuse .length
  else if bounds.any (fun z => decide (z < -40) || decide (85 < z)) || !ascending bounds then .refuse .field
  else if ceiling < bounds.getLastD 0 ∨ 85 < ceiling then .refuse .field
  else .ok ⟨bounds, ceiling⟩

/-- Bytes of one matrix of a mode: 16 drives for CLEAN, 256 for the others, four to a byte (R76). -/
def matrixBytes (m : Mode) : Nat := if m = .clean then 4 else 64

/-- An UPDATE's fields (R109). -/
structure UpdateRec where
  tag : Byte
  rect : Rect
  allowed : List Mode
  skip : Bool
  promote : Bool
  notify : Bool
  deriving DecidableEq, Repr

/-- The modes of an allowed-set byte: bit k for mode code k (R171). -/
def modesOf (n : Nat) : List Mode := Mode.all.filter fun m => n / 2 ^ m.code % 2 = 1

/-- The allowed-set byte of a list of modes. -/
def modeSetByte (ms : List Mode) : Nat :=
  (Mode.all.map fun m => if m ∈ ms then 2 ^ m.code else 0).sum

/-- UPDATE, the checks of R109. -/
def parseUpdate (b : Bytes) : Checked UpdateRec :=
  if b.length ≠ 12 then .refuse .length
  else if u8 b 9 = 0 ∨ 31 < u8 b 9 then .refuse .field
  else if 1 < u8 b 10 then .refuse .field
  else if 3 < u8 b 11 then .refuse .field
  else .ok ⟨b.getD 0 0, rectAt b 1, modesOf (u8 b 9), u8 b 10 = 1, u8 b 11 % 2 = 1, u8 b 11 / 2 % 2 = 1⟩

/-- An UPDATE body in the layout of 10.4. -/
def encodeUpdate (u : UpdateRec) : Bytes :=
  [u.tag] ++ encodeRect u.rect ++ be8 (modeSetByte u.allowed) ++ be8 (if u.skip then 1 else 0) ++
  be8 ((if u.promote then 1 else 0) + (if u.notify then 2 else 0))

/-- PANELSET (R6): length, then the window fields; timing fields clamped, the sensor address from its low 7
bits. -/
def parsePanelset (b : Bytes) : Checked Panel :=
  if b.length ≠ 16 then .refuse .length
  else if 6144 < u16 b 0 ∨ u16 b 0 % 8 ≠ 0 ∨ u16 b 2 < 64 ∨ 2048 < u16 b 2 ∨ u16 b 2 % 8 ≠ 0 ∨
      u16 b 4 < 64 ∨ 1664 < u16 b 4 then .refuse .field
  else .ok ⟨u16 b 0, u16 b 2, u16 b 4, clampNat 8000 40000 (u16 b 6), clampNat 1 100 (u8 b 8),
    clampNat 0 10000 (u16 b 9), clampNat 1 100 (u8 b 11), u8 b 12 % 128, clampNat 1 600 (u16 b 13),
    clampNat 1 15 (u8 b 15)⟩

/-- A PANELSET body in the layout of 10.4. -/
def encodePanelset (p : Panel) : Bytes :=
  be16 p.x0 ++ be16 p.w ++ be16 p.h ++ be16 p.framePeriod ++ be8 p.riseLimit ++ be16 p.holdTime ++
  be8 p.fallTime ++ be8 p.sensorAddress ++ be16 p.sampleInterval ++ be8 p.residueThreshold

/-- A flag field of EVMASK and EVCLEAR: two bytes, the four positions that name no flag refused (R166, R167). -/
def parseFlags (b : Bytes) : Checked (BitVec 12) :=
  if b.length ≠ 2 then .refuse .length
  else if 0xFFF < u16 b 0 then .refuse .field
  else .ok (BitVec.ofNat 12 (u16 b 0))

/-- The areas of a READ (R164). -/
inductive Area where
  | glyph
  | kern
  | style
  | wave
  | residue
  | pixels
  deriving DecidableEq, Repr

/-- An area's code. -/
def Area.code : Area → Nat
  | .glyph => 0 | .kern => 1 | .style => 2 | .wave => 3 | .residue => 4 | .pixels => 5

/-- The body length of a READ of an area (R164). -/
def Area.bodyLength : Area → Nat
  | .glyph => 5 | .kern => 4 | .style => 1 | .wave => 2 | .residue => 5 | .pixels => 10

end Sys2Proof.Machine
end

