-- ==== Sys2Proof/Machine/Flags.lean ====
section
/-! DEFINITION. Every flag and line the spec has: the twelve event flags (R165), refusals and the last
refusal (R160), the reply queue's room (R161) and notices (R130), the intake space (R156), and the lines HOLD
(R157), ATTN (R166) and RAIL_EN (R138). -/

namespace Sys2Proof.Machine

/-- The twelve event flags (9.7). -/
inductive Flag where
  | done
  | refused
  | framing
  | overrun
  | collide
  | glyphmiss
  | clipfault
  | temprange
  | tempfail
  | railfault
  | noticelost
  | wake
  deriving DecidableEq, Repr

/-- A flag's position (10.1). -/
def Flag.bit : Flag → Nat
  | .done => 0 | .refused => 1 | .framing => 2 | .overrun => 3 | .collide => 4 | .glyphmiss => 5
  | .clipfault => 6 | .temprange => 7 | .tempfail => 8 | .railfault => 9 | .noticelost => 10 | .wake => 11

/-- The flag is set. -/
def State.flag (s : State) (f : Flag) : Bool := s.ev.flags.getLsbD f.bit

/-- Set a flag; a flag already set stays set (R165). -/
def State.setFlag (s : State) (f : Flag) : State :=
  { s with ev := { s.ev with flags := s.ev.flags ||| BitVec.twoPow 12 f.bit } }

/-- Set a flag when a condition holds. -/
def State.setFlagIf (s : State) (c : Bool) (f : Flag) : State := if c then s.setFlag f else s

/-- Refuse a record: REFUSED is set and (kind, reason) becomes the last refusal (R160). -/
def State.refuse (s : State) (kind : Byte) (r : Reason) : State :=
  { s with ev := { s.ev with
      flags := s.ev.flags ||| BitVec.twoPow 12 Flag.refused.bit
      lastRefusal := some (kind, r) } }

/-! ### Replies -/

/-- Reply places that a READ in progress holds reserved (R161): at most one. -/
def State.reserved (s : State) : Nat :=
  match s.intake.hold with
  | .readPixels _ => 1
  | .readGlyph _ => 1
  | _ => 0

/-- The reply queue holds 16 replies, counting a reserved place (R130, R161). -/
def State.repliesFull (s : State) : Bool := decide (Config.maxReplies ≤ s.ev.replies.length + s.reserved)

/-- A reply joins the tail (R161). -/
def State.putReply (s : State) (r : Reply) : State :=
  { s with ev := { s.ev with replies := s.ev.replies ++ [r] } }

/-- A notice is queued and sets DONE, or is dropped with NOTICELOST; a request without NOTIFY queues none
(R130). -/
def State.notify (s : State) (wanted : Bool) (n : Notice) : State :=
  if !wanted then s
  else if s.repliesFull then s.setFlag .noticelost
  else (s.putReply (.notice n)).setFlag .done

/-- The bytes of a notice (10.5). -/
def Notice.bytes (n : Notice) : Bytes :=
  [n.tag] ++ be8 n.ending.code ++ be8 (orNone (n.mode.map Mode.code)) ++ be8 (orNone n.band) ++
  be32 n.taken ++ be16 n.skipped ++ be8 (if n.promoted then 1 else 0) ++ be8 0

/-- The bytes of a reply: reply header, then contents (10.5, R173). -/
def Reply.bytes : Reply → Bytes
  | .notice n => be8 1 ++ be8 0 ++ be16 16 ++ n.bytes
  | .readback area payload => be8 2 ++ [area] ++ be16 (4 + payload.length) ++ payload

/-- The EMPTY reply (R162, R173). -/
def emptyReply : Bytes := be8 0 ++ be8 0 ++ be16 4

/-- What MISO carries in `n` body bytes: the bytes served, then 0x00 (R162, R163). -/
def misoBytes (served : Bytes) (n : Nat) : Bytes :=
  served.take n ++ List.replicate (n - served.length) 0

/-! ### Intake space and the lines -/

/-- Intake bytes used: 4 + body length for each record, and the space reserved for a record in reception
(R156). -/
def State.intakeUsed (s : State) : Nat :=
  (s.intake.queue.map fun r => 4 + r.body.length).sum +
    match s.link.rx with
    | some ⟨_, _, len, _, .reserved⟩ => 4 + len
    | _ => 0

/-- Intake bytes free (R156). -/
def State.intakeFree (s : State) : Nat := Config.intakeBytes - s.intakeUsed

/-- The power state keeps every flag as it is (R149, R165). -/
def Power.asleep (p : Power) : Bool := p = .sleep || p = .deep

/-- The station asserts HOLD (R157, R169). -/
def State.holdLine (s : State) : Bool :=
  s.link.resetAsserted ||
  match s.power with
  | .starting => true
  | .waking _ => true
  | .run => decide (s.intakeFree < Config.largestRecord)
  | .sleep => false
  | .deep => false

/-- The station asserts ATTN: a set flag is enabled (R166); released during pin reset (R169). -/
def State.attnLine (s : State) : Bool := !s.link.resetAsserted && decide (s.ev.flags &&& s.ev.mask ≠ 0)

/-- RAIL_EN is driven on in RISING and ON (R138). -/
def State.railEn (s : State) : Bool :=
  match s.rails.state with
  | .rising => true
  | .on => true
  | _ => false

end Sys2Proof.Machine
end

