-- ==== Sys2Proof/Machine/Ops.lean ====
section
/-! DEFINITION. The shared operations the meanings are written over: pixel records, the Dispatcher's head,
slots and their ends, residue reports, frames, rails, the temperature unit, banks, and the lookups of the
Table Store. -/

namespace Sys2Proof.Machine

/-! ### Pixel records (R1 to R3) -/

/-- The window in force. -/
def State.window (s : State) : Rect := s.store.panel.window

/-- The record at a key in a pixel list. -/
def pixelAt (m : List (Nat × PixelRec)) (k : Nat) : PixelRec := Store.getD m k PixelRec.initial

/-- The record of a pixel. -/
def State.pixel (s : State) (k : Nat) : PixelRec := pixelAt s.store.pixels k

/-- Replace the pixel list. -/
def State.setPixels (s : State) (m : List (Nat × PixelRec)) : State :=
  { s with store := { s.store with pixels := m } }

/-- Write one pixel record. -/
def State.setPixel (s : State) (k : Nat) (p : PixelRec) : State :=
  s.setPixels (Store.set PixelRec.initial s.store.pixels k p)

/-- Write one target tone; shown, goal and owner stay (R3). -/
def writeTarget (m : List (Nat × PixelRec)) (k : Nat) (t : Tone) : List (Nat × PixelRec) :=
  Store.set PixelRec.initial m k { pixelAt m k with target := t }

/-- Write target tones one after another. -/
def writeTargets (m : List (Nat × PixelRec)) (ws : List (Nat × Tone)) : List (Nat × PixelRec) :=
  ws.foldl (fun m w => writeTarget m w.1 w.2) m

/-- Change every record that slot `i` owns. -/
def mapOwned (i : Fin 16) (f : PixelRec → PixelRec) (m : List (Nat × PixelRec)) : List (Nat × PixelRec) :=
  Store.mapValues PixelRec.initial (fun _ p => if p.owner = some i then f p else p) m

/-! ### The Dispatcher's head (R158, R159) -/

/-- The body of the record at the intake head, where the Dispatcher can hand it on: in RUN, not held, and of
the kind named. -/
def State.headBody (s : State) (k : RecordKind) : Option Bytes :=
  if s.power = .run ∧ s.intake.hold = .free then
    match s.intake.queue with
    | [] => none
    | r :: _ => if r.kind = k.code then some r.body else none
  else none

/-- Run a dispatch when a record of the kind is at the head; otherwise the event cannot occur and nothing
changes (log 2). -/
def State.withHead (s : State) (k : RecordKind) (f : Bytes → State) : State :=
  match s.headBody k with
  | none => s
  | some body => f body

/-- The head record leaves the intake queue and frees its bytes (R156, R158). -/
def State.pop (s : State) : State := { s with intake := { s.intake with queue := s.intake.queue.tail } }

/-- The head record is refused: it leaves the queue (R158) and the refusal is noted (R160). -/
def State.refuseHead (s : State) (k : RecordKind) (r : Reason) : State := s.pop.refuse k.code r

/-- Set what the Dispatcher is held on. -/
def State.setHold (s : State) (h : Hold) : State := { s with intake := { s.intake with hold := h } }

/-! ### Slots (R116) -/

/-- The slot numbers, ascending. -/
def slotIds : List (Fin 16) := List.finRange 16

/-- A slot; none is FREE. -/
def State.slot (s : State) (i : Fin 16) : Option Slot := s.sched.slots[i]

/-- Set a slot. -/
def State.setSlot (s : State) (i : Fin 16) (o : Option Slot) : State :=
  { s with sched := { s.sched with slots := s.sched.slots.set i o } }

/-- The slot is ARMED. -/
def Slot.isArmed (sl : Slot) : Bool := sl.phase = .armed

/-- The slot is RUNNING. -/
def Slot.isRunning (sl : Slot) : Bool :=
  match sl.phase with
  | .running _ => true
  | _ => false

/-- Some slot that is not FREE satisfies `p`. -/
def State.anySlot (s : State) (p : Slot → Bool) : Bool := slotIds.any fun i => (s.slot i).any p

/-- A slot is LATCHING, ARMED or RUNNING. -/
def State.anyBusy (s : State) : Bool := s.anySlot fun _ => true

/-- A slot is ARMED. -/
def State.anyArmed (s : State) : Bool := s.anySlot Slot.isArmed

/-- A slot is ARMED or RUNNING. -/
def State.anyDriving (s : State) : Bool := s.anySlot fun sl => sl.isArmed || sl.isRunning

/-- The number of slots that are not FREE and satisfy `p`. -/
def State.countSlots (s : State) (p : Slot → Bool) : Nat := (slotIds.filter fun i => (s.slot i).any p).length

/-- The FREE slot of lowest number (R115). -/
def State.freeSlot? (s : State) : Option (Fin 16) := slotIds.find? fun i => (s.slot i).isNone

/-- The pin count of a bank: the slots that are not FREE and were resolved against it (R86). -/
def State.pins (s : State) (b : BankId) : Nat := s.countSlots fun sl => sl.bank = b

/-- A checked PANELSET stands at the intake head (R7): passes are suspended from then until it has been
taken (log 29). -/
def State.panelsetWaits (s : State) : Bool :=
  match s.headBody .panelset with
  | none => false
  | some body =>
    match parsePanelset body with
    | .ok _ => true
    | .refuse _ => false

/-- Admission passes are suspended (R112): in FAULT, while a PANELSET waits, and while its reinitialization
runs. -/
def State.suspended (s : State) : Bool :=
  decide (s.rails.state = .fault) || s.panelsetWaits || decide (s.intake.hold = .reinit)

/-- An event triggers an admission pass (R112): it starts none while passes are suspended, since the end of the
suspension triggers one of its own. -/
def State.trigger (s : State) : State :=
  { s with sched := { s.sched with passDue := s.sched.passDue || !s.suspended } }

/-- A suspension ends: a PANELSET has taken effect or the rails have left FAULT (R112). That triggers a pass, before
the record behind can begin to wait, but none in FAULT. -/
def State.endSuspension (s : State) : State :=
  { s with sched := { s.sched with passDue := s.sched.passDue || decide (s.rails.state ≠ .fault) } }

/-- Set the running pass. -/
def State.setPass (s : State) (p : Option Pass) : State := { s with sched := { s.sched with pass := p } }

/-- The running pass is over: no request is left for it to examine. One that a trigger asked for meanwhile follows it
only where passes are not suspended (R112). -/
def State.dropPass (s : State) : State :=
  { s with sched := { s.sched with
      pass := none, passDue := s.sched.passDue && !s.suspended
      requests := s.sched.requests.map fun r => { r with due := false } } }

/-! ### Residue Map (R105, R106) -/

/-- Tile columns of the window. -/
def Panel.tileCols (p : Panel) : Nat := (p.w + 63) / 64

/-- Tile rows of the window. -/
def Panel.tileRows (p : Panel) : Nat := (p.h + 63) / 64

/-- Tiles of the window. -/
def Panel.tiles (p : Panel) : Nat := p.tileCols * p.tileRows

/-- The tile number of a pixel. -/
def Panel.tileOf (p : Panel) (k : Nat) : Nat := keyY k / 64 * p.tileCols + (keyX k - p.x0) / 64

/-- The part of a tile that lies inside the window. -/
def Panel.tileRect (p : Panel) (n : Nat) : Rect :=
  Rect.inter ⟨p.x0 + 64 * (n % p.tileCols : Nat), 64 * (n / p.tileCols : Nat), 64, 64⟩ p.window

/-- A rectangle that covers pixels lies wholly within another. -/
def Rect.within (a b : Rect) : Bool := decide (Rect.inter a b = a)

/-- The residue count of a tile. -/
def State.residueOf (s : State) (n : Nat) : Nat := Store.getD s.residue n 0

/-- The residue weight of a mode (R74). -/
def Mode.weight : Mode → Nat
  | .clean => 0 | .tone16 => 0 | .tone4 => 1 | .bilevel => 2 | .stroke => 3

/-- The report of a completed slot to the Residue Map (R106). -/
def residueReport (p : Panel) (m : Mode) (rect : Rect) (tiles : List Nat) (res : List (Nat × Nat)) :
    List (Nat × Nat) :=
  match m with
  | .clean =>
    Store.mapValues 0 (fun n c => if (p.tileRect n).within rect then 0 else if n ∈ tiles then c / 2 else c) res
  | .tone16 => Store.mapValues 0 (fun n c => if n ∈ tiles then c / 2 else c) res
  | .tone4 | .bilevel | .stroke =>
    tiles.foldl (fun r n => Store.set 0 r n (min 15 (Store.getD r n 0 + m.weight))) res

/-! ### The ends of slots (R122, R123, R129, R130) -/

/-- The notice of a request that a slot took. -/
def Slot.notice (sl : Slot) (e : Ending) : Notice :=
  ⟨sl.tag, e, some sl.mode, some sl.band, sl.promoted, sl.taken, sl.skipped⟩

/-- The notice of a request that no slot took. -/
def Request.notice (r : Request) (e : Ending) (band : Option Nat) : Notice :=
  ⟨r.tag, e, none, band, false, 0, 0⟩

/-- The slot becomes FREE, its pin is released, and its outcome is reported. -/
def State.endSlot (s : State) (i : Fin 16) (sl : Slot) (e : Ending) : State :=
  (s.setSlot i none).notify sl.notify (sl.notice e)

/-- A completed pixel: its goal becomes its shown tone (R122). -/
def PixelRec.completed (p : PixelRec) : PixelRec := { p with shown := some p.goal, owner := none }

/-- An aborted pixel: UNKNOWN (R123). -/
def PixelRec.aborted (p : PixelRec) : PixelRec := { p with shown := none, owner := none }

/-- A released pixel keeps its shown tone (R123). -/
def PixelRec.released (p : PixelRec) : PixelRec := { p with owner := none }

/-- A slot completes (R122). -/
def State.completeSlot (s : State) (i : Fin 16) (sl : Slot) : State :=
  let s := s.setPixels (mapOwned i PixelRec.completed s.store.pixels)
  State.endSlot { s with residue := residueReport s.store.panel sl.mode sl.rect sl.tiles s.residue } i sl .done

/-- A RUNNING slot is aborted (R123). -/
def State.abortSlot (s : State) (i : Fin 16) (sl : Slot) : State :=
  (s.setPixels (mapOwned i PixelRec.aborted s.store.pixels)).endSlot i sl .aborted

/-- A LATCHING or ARMED slot is released (R123), or freed EMPTY at its latch end (R119). -/
def State.releaseSlot (s : State) (i : Fin 16) (sl : Slot) (e : Ending) : State :=
  (s.setPixels (mapOwned i PixelRec.released s.store.pixels)).endSlot i sl e

/-- A slot is ended as a HALT or a rail FAULT ends it (R126, R127). -/
def State.cutSlot (s : State) (i : Fin 16) : State :=
  match s.slot i with
  | none => s
  | some sl => if sl.isRunning then s.abortSlot i sl else s.releaseSlot i sl .cancelled

/-! ### Walks in progress (R15, R117, R118; log 3) -/

/-- The tone quantized to a mode's level set (R75). -/
def quantize (m : Mode) (t : Tone) : Tone :=
  match m with
  | .clean | .tone16 => t
  | .tone4 => Tone.clamp ((t.val + 2) / 5 * 5)
  | .bilevel | .stroke => if t.val < 8 then 0 else 15

/-- The latch takes a pixel that no slot owns and that is not skipped (R117). -/
def takesPixel (m : Mode) (p : PixelRec) (g : Tone) : Bool :=
  m = .clean || (decide (p.shown ≠ some g) && (decide (m ≠ .stroke) || decide (g = 0)))

/-- A latch pass judges one pixel (R117). -/
def latchPixel (i : Fin 16) (s : State) (k : Nat) : State :=
  match s.slot i with
  | none => s
  | some sl =>
    let p := s.pixel k
    if p.owner.isSome || (p.shown.isNone && decide (sl.mode ≠ .clean)) then
      s.setSlot i (some { sl with skipped := min 65535 (sl.skipped + 1) })
    else
      let g := quantize sl.mode p.target
      if takesPixel sl.mode p g then
        (s.setPixel k { p with goal := g, owner := some i }).setSlot i
          (some { sl with taken := sl.taken + 1, tiles := insertKey sl.tiles (s.store.panel.tileOf k) })
      else s

/-- The walk of the running pass judges its next `n` pixels. A latch walk waits for the draw record that was
in progress when its slot became LATCHING (R118). -/
def State.advancePass (s : State) (n : Nat) : State :=
  match s.sched.pass with
  | none => s
  | some (.deferRead todo found) =>
    s.setPass (some (.deferRead (todo.drop n) (found || (todo.take n).any fun k => (s.pixel k).owner.isSome)))
  | some (.resolveRead todo found) =>
    s.setPass (some (.resolveRead (todo.drop n)
      (found || (todo.take n).any fun k => (s.pixel k).owner.isNone && (s.pixel k).shown.isNone)))
  | some (.latching i todo) =>
    if s.comp.draw.isSome then s
    else ((todo.take n).foldl (latchPixel i) s).setPass (some (.latching i (todo.drop n)))

/-- The next free value. -/
def State.useFree (s : State) : State := { s with freeCount := s.freeCount + 1 }

/-- The running pass's walk gets on by a free number of pixels. -/
def State.freeAdvancePass (s : State) : State :=
  match s.sched.pass with
  | none => s
  | some _ => s.useFree.advancePass (Config.walkProgress s.freeCount)

/-- The code of a pixel's field in a readback (R174). -/
def fieldCode (f : PixelField) (p : PixelRec) : Byte :=
  match f with
  | .shown => BitVec.ofNat 8 (orNone (p.shown.map Fin.val))
  | .target => BitVec.ofNat 8 p.target.val
  | .goal => BitVec.ofNat 8 p.goal.val
  | .owner => BitVec.ofNat 8 (orNone (p.owner.map Fin.val))

/-- A READ of PIXELS reads its next pixel. A latch walk in progress may get on before it (log 28). -/
def State.readOne (s : State) : State :=
  let s := s.freeAdvancePass
  match s.intake.hold with
  | .readPixels r =>
    match r.todo with
    | [] => s
    | k :: rest =>
      s.setHold (.readPixels { r with todo := rest, values := r.values ++ [fieldCode r.selector (s.pixel k)] })
  | _ => s

/-- A READ of PIXELS reads `n` pixels. -/
def State.readMany : Nat → State → State
  | 0, s => s
  | n + 1, s => State.readMany n s.readOne

/-- A READ of PIXELS in progress gets on by a free number of pixels (R15). -/
def State.freeAdvanceRead (s : State) : State :=
  match s.intake.hold with
  | .readPixels r => State.readMany (min (Config.walkProgress s.freeCount) r.todo.length) s.useFree
  | _ => s

/-- Set the draw record in progress. -/
def State.setDraw (s : State) (d : Option Draw) : State := { s with comp := { s.comp with draw := d } }

/-- The codes of the TEXT in progress still to be found substituted or missing, each as the number of target
writes made before its lookup. -/
def State.missesLeft (s : State) : List Nat :=
  match s.comp.draw with
  | some (.writing (.text _ _ misses) _) => misses
  | _ => []

/-- The next `n` of them are found: each sets GLYPHMISS (R47), and the target writes before it have been made,
since each step of one code ends before the next step begins (3.3). -/
def State.findMisses (s : State) (n : Nat) : State :=
  match s.comp.draw with
  | some (.writing (.text pen made misses) todo) =>
    (s.setDraw (some (.writing (.text pen ((misses.take n).getLastD made) (misses.drop n)) todo))).setFlagIf
      (!(misses.take n).isEmpty) .glyphmiss
  | _ => s

/-- The target writes of a draw record that are known to have been made. -/
def DrawKind.made : DrawKind → Nat
  | .fill => 0
  | .copy => 0
  | .hilite => 0
  | .text _ made _ => made

/-- Before a command that reads or clears the flags, the TEXT in progress gets through a free number of its
lookups (R47; log 18). -/
def State.freeMisses (s : State) : State :=
  if s.missesLeft = [] then s else s.useFree.findMisses (Config.walkProgress s.freeCount)

/-- What a wake from DEEP rebuilds and empties (R11, R31, R73, R151): pixel records, fonts, directory, pool
and kern lists, pen and clip state; the styles stay. -/
def State.rebuildAfterDeep (s : State) : State :=
  { s.setPixels [] with
    tables := { Tables.emptied s.tables.pool with styles := s.tables.styles }
    comp := Compose.initial s.window }

/-- Within WAKING from DEEP the rebuild may or may not have been made (R151; log 6). -/
def State.freeRebuild (s : State) : State :=
  match s.power with
  | .waking true => if Config.walkProgress s.freeCount = 0 then s.useFree else s.useFree.rebuildAfterDeep
  | _ => s

/-- Before the live status is taken, what it shows of operations in progress gets on freely (R47, R151). -/
def State.advanceShown (s : State) : State := s.freeMisses.freeRebuild

/-- Before a command that changes shown or owner, every walk in progress gets on by a free number of pixels:
the pixels it reached before the command are judged as they stood then (R15, R114, R118). -/
def State.advanceWalks (s : State) : State := s.freeAdvanceRead.freeAdvancePass

/-- Every slot that is not FREE is ended, in ascending slot number (R126, R127). -/
def State.cutSlots (s : State) : State :=
  if s.anyBusy then slotIds.foldl State.cutSlot s.advanceWalks else s

/-! ### Frames and rails (R132, R138 to R144) -/

/-- An ARMED slot becomes RUNNING with frame index 0 (R120). -/
def Slot.start (sl : Slot) : Slot := if sl.isArmed then { sl with phase := .running 0 } else sl

/-- A frame starts, with the frame period in force (R132, R133). -/
def State.startFrame (s : State) : State :=
  { s with
    scan := some s.store.panel.framePeriod
    sched := { s.sched with slots := s.sched.slots.map (Option.map Slot.start) } }

/-- RAIL_EN goes off and the fall timer starts: FALLING (R141, R145, R146). -/
def State.enterFalling (s : State) : State :=
  { s with rails := { s.rails with
      state := .falling, rise := none, hold := none, fall := some s.store.panel.fallTime } }

/-- The hold timer starts; with a hold time of 0 it expires as it starts (R141). -/
def State.startHold (s : State) : State :=
  if s.store.panel.holdTime = 0 then s.enterFalling
  else { s with rails := { s.rails with hold := some s.store.panel.holdTime } }

/-- The rails reach ON: a frame starts if a slot is ARMED, else the hold timer does (R140). -/
def State.reachOn (s : State) : State :=
  let s := { s with rails := { s.rails with state := .on, rise := none } }
  if s.anyArmed then s.startFrame else s.startHold

/-- RAIL_EN goes on and the rise timer starts; PGOOD already asserted counts at once (R139, R140, R143). -/
def State.enterRising (s : State) : State :=
  let s := { s with rails := { s.rails with state := .rising, rise := some s.store.panel.riseLimit } }
  if s.rails.pgood then s.reachOn else s

/-- What the rails and the scanner do when a slot becomes ARMED (R119, R132, R139, R140, R141, R143). -/
def State.onArmed (s : State) : State :=
  match s.rails.state with
  | .off => s.enterRising
  | .on =>
    let s := { s with rails := { s.rails with hold := none } }
    if s.scan.isNone then s.startFrame else s
  | .rising => s
  | .falling => s
  | .fault => s

/-- The hold timer starts when the last ARMED or RUNNING slot has left those states with the rails ON;
`before` says one was in them (R141). -/
def State.holdIfLeft (s : State) (before : Bool) : State :=
  if before && !s.anyDriving && decide (s.rails.state = .on) then s.startHold else s

/-- An UPDATE waiting for its first pass counts as taken when the pass ends (R110); `always` also frees one
whose first pass has not begun (a fault, log 10). -/
def State.freeUpdate (s : State) (always : Bool) : State :=
  match s.intake.hold with
  | .update begun => if begun || always then s.setHold .free else s
  | _ => s

/-- The rails enter FAULT (R144): timers stop, RAILFAULT is set, the frame is cut, every slot is ended and a
running pass ends, with any that was triggered (R112, R127). -/
def State.enterFault (s : State) : State :=
  let s := { s with rails := { s.rails with state := .fault, rise := none, hold := none, fall := none } }
  let s := (s.setFlag .railfault).cutSlots
  (State.dropPass { s with scan := none }).freeUpdate true

/-! ### Waveform Bank Unit (R77 to R87) -/

/-- The other bank. -/
def BankId.other : BankId → BankId
  | .bankA => .bankB
  | .bankB => .bankA

/-- A bank. -/
def State.bank (s : State) (b : BankId) : Bank :=
  match b with
  | .bankA => s.wave.bankA
  | .bankB => s.wave.bankB

/-- Set a bank. -/
def State.setBank (s : State) (b : BankId) (v : Bank) : State :=
  match b with
  | .bankA => { s with wave := { s.wave with bankA := v } }
  | .bankB => { s with wave := { s.wave with bankB := v } }

/-- The bank in a state, bank A first. -/
def State.bankIn (s : State) (st : BankState) : Option BankId :=
  if s.wave.bankA.state = st then some .bankA else if s.wave.bankB.state = st then some .bankB else none

/-- The ACTIVE bank. -/
def State.activeBank (s : State) : Option BankId := s.bankIn .active

/-- The key of a waveform record: ascending keys are ascending modes, then bands (R79, R89). -/
def waveKey (m : Mode) (band : Nat) : Nat := m.code * 8 + band

/-- Total frames of a bank (R79). -/
def Bank.frames (b : Bank) : Nat := (b.records.map fun r => r.2.frames).sum

/-- The record of a mode in a band. -/
def Bank.record (b : Bank) (m : Mode) (band : Nat) : Option WaveRec := Store.get? b.records (waveKey m band)

/-- The drive of matrix `k` for a pixel (R87). -/
def Bank.lookup (b : Bank) (m : Mode) (band k : Nat) (key : Nat) (p : PixelRec) : Drive :=
  match b.record m band with
  | none => Config.unstatedDrive key
  | some r =>
    if r.frames ≤ k then Config.unstatedDrive key
    else if m = .clean then driveOf r.drives (k * matrixBytes m) p.goal.val
    else
      match p.shown with
      | none => Config.unstatedDrive key
      | some t => driveOf r.drives (k * matrixBytes m) (16 * t.val + p.goal.val)

/-- The drive of the pixel with a key in the frame in progress (R134). -/
def State.drive (s : State) (k : Nat) : Drive :=
  if s.scan.isNone then .none
  else
    let p := s.pixel k
    match p.owner with
    | none => .none
    | some i =>
      match s.slot i with
      | none => .none
      | some sl =>
        match sl.phase with
        | .running index => (s.bank sl.bank).lookup sl.mode sl.band index k p
        | .latching => .none
        | .armed => .none

/-- The drive on source output `col` while gate line `row` is driven: outputs beyond the window receive NONE
(R4, R134). -/
def State.outputDrive (s : State) (col row : Nat) : Drive :=
  if col < s.store.panel.w ∧ row < s.store.panel.h then s.drive (pixelKey (s.store.panel.x0 + col) row)
  else .none

/-! ### Temperature Unit (R92 to R97) -/

/-- A sensor read begins with a start condition and the address in force, and with it its interval (R92, R94);
`lead` is the end of the read that the same command cut off. DESIGN CHOICE (log 31): the whole address stands on the
line as the read begins, so a read that is cut off or times out always shows it sent; the spec does not say how much
of it had gone out by then. -/
def State.startRead (s : State) (lead : List WireEvent) : State :=
  { s with temp := { s.temp with
      readInFlight := some s.store.panel.sensorAddress, timer := some s.store.panel.sampleInterval
      wire := lead ++ [.start, .address s.store.panel.sensorAddress] } }

/-- A sensor read begins where the source is SENSOR (R94). -/
def State.startReadIfSensor (s : State) (lead : List WireEvent) : State :=
  if s.temp.source = .sensor then s.startRead lead else s

/-- The read in flight ends, with these last events on the line (R92, R93). -/
def State.endRead (s : State) (events : List WireEvent) : State :=
  { s with temp := { s.temp with readInFlight := none, wire := s.temp.wire ++ events } }

/-- How a read that is cut short ends on the line (R93, R94): the acknowledge bits of the data bytes received so
far, a free number of them, then both lines are released (log 31). -/
def State.cutEvents (s : State) : List WireEvent :=
  [WireEvent.ack, .nack].take (Config.walkProgress s.freeCount) ++ [.release]

/-- Any read in flight is abandoned, without a result, and the interval timer stops (R94). -/
def State.abandonRead (s : State) : State :=
  let s : State := if s.temp.readInFlight.isSome then s.useFree.endRead s.cutEvents else s
  { s with temp := { s.temp with timer := none } }

/-- What `abandonRead` puts on the line. -/
def State.abandonEvents (s : State) : List WireEvent :=
  if s.temp.readInFlight.isSome then s.cutEvents else []

/-- A read fails, with these last events on the line (R93): TEMPFAIL when the count reaches 3. -/
def State.failRead (s : State) (events : List WireEvent) : State :=
  let n := min 255 (s.temp.failures + 1)
  let s := s.endRead events
  ({ s with temp := { s.temp with failures := n } }).setFlagIf (n = 3) .tempfail

/-- The band of a whole temperature under a header, and whether it is clamped (R96). -/
def bandOf (bounds : List Int) (ceiling d : Int) : Nat × Bool :=
  if d < bounds.headD 0 then (0, true)
  else if ceiling < d then (bounds.length - 1, true)
  else ((bounds.filter fun b => decide (b ≤ d)).length - 1, false)

/-- The band is recomputed against the ACTIVE header (R96, R97). -/
def State.recomputeBand (s : State) : State :=
  match s.activeBank with
  | none => s
  | some b =>
    let r := bandOf (s.bank b).bounds (s.bank b).ceiling (s.temp.current / 16)
    ({ s with temp := { s.temp with band := some r.1 } }).setFlagIf r.2 .temprange

/-- A temperature in range (R92, R95). -/
def clampTemp (z : Int) : Int := clampInt (-640) 1360 z

/-! ### Table Store lookups (R16, R20, R21, R30) -/

/-- The key of a glyph entry. -/
def dirKey (slot code : Nat) : Nat := slot * 2097152 + code

/-- A font slot. -/
def Tables.font (t : Tables) (n : Nat) : Option Font := (t.fonts[n]?).join

/-- The entry under (slot, code). -/
def Tables.entry (t : Tables) (slot code : Nat) : Option Entry := Store.get? t.directory (dirKey slot code)

/-- A style. -/
def Tables.style (t : Tables) (n : Nat) : Style := (t.styles[n]?).getD Style.initial

/-- The adjustment of a pair in a slot's kern list (R26). -/
def Tables.kernOf (t : Tables) (slot left right : Nat) : Option Int :=
  (t.font slot).bind fun f => (f.kern.find? fun p => p.left = left && p.right = right).map KernPair.adj

/-- The blocks that entries and the glyph write hold (R21). -/
def Tables.held (t : Tables) : List Nat :=
  (t.directory.flatMap fun e => e.2.blocks) ++ (t.glyphWrite.map fun g => g.entry.blocks).getD []

/-- The number of free pool blocks (R21). -/
def Tables.freeBlocks (t : Tables) : Nat := Config.poolBlocks - t.held.length

/-- Pool blocks a bitmap of w × h needs (R20). -/
def blocksNeeded (w h : Nat) : Nat := (bitmapBytes (w * h) + 63) / 64

/-- The `n` lowest-numbered blocks from `next` on that are not held (log 8), searching `fuel` blocks. -/
def takeBlocks : Nat → Nat → Nat → List Nat → List Nat
  | 0, _, _, _ => []
  | _ + 1, _, 0, _ => []
  | fuel + 1, next, n + 1, held =>
    if next ∈ held then takeBlocks fuel (next + 1) (n + 1) held
    else next :: takeBlocks fuel (next + 1) n held

/-- The bitmap bytes an entry's blocks hold. -/
def Tables.bitmap (t : Tables) (e : Entry) : Bytes :=
  (List.range (bitmapBytes (e.width * e.height))).map fun j => Memory.read t.pool (bitmapAddress e.blocks j)

/-- Coverage value `j` of an entry, read from its blocks (R172). -/
def Tables.coverage (t : Tables) (e : Entry) (j : Nat) : Nat :=
  coverageOf (Memory.read t.pool (bitmapAddress e.blocks (j / 2))) j

/-- The draw record in progress is a TEXT or a HILITE. -/
def Draw.usesTables : Draw → Bool
  | .textHeld _ => true
  | .hiliteHeld _ => true
  | .writing kind _ =>
    match kind with
    | .text _ _ _ => true
    | .hilite => true
    | .fill => false
    | .copy => false

/-- The Table Store is busy (R16). -/
def State.tableBusy (s : State) : Bool :=
  s.tables.glyphWrite.isSome ||
  (match s.intake.hold with
    | .readGlyph _ => true
    | _ => false) ||
  s.comp.draw.any Draw.usesTables

/-- A latch pass runs. -/
def State.latching (s : State) : Bool :=
  match s.sched.pass with
  | some (.latching _ _) => true
  | _ => false

/-- A draw record at the head waits (R55). -/
def State.drawWaits (s : State) : Bool := s.comp.draw.isSome || s.latching

end Sys2Proof.Machine
end

