-- ==== Sys2Proof/Machine/Event.lean ====
section
/-! DEFINITION. EVMASK and EVCLEAR (09, 9.7). ATTN follows the flags and the mask (State.attnLine). -/

namespace Sys2Proof.Machine

open Host (Outcome)

/-- EVMASK (R166): the whole mask is replaced. -/
def execEvmask (s : State) : Outcome State Fault Refusal :=
  .next (s.withHead .evmask fun body =>
    match parseFlags body with
    | .refuse r => s.refuseHead .evmask r
    | .ok m => { s.pop with ev := { s.ev with mask := m } })

/-- EVCLEAR (R167): every flag its body names is cleared. A TEXT in progress may have set GLYPHMISS by then. -/
def execEvclear (s : State) : Outcome State Fault Refusal :=
  .next (s.withHead .evclear fun body =>
    match parseFlags body with
    | .refuse r => s.refuseHead .evclear r
    | .ok m =>
      let s := s.freeMisses
      { s.pop with ev := { s.ev with flags := s.ev.flags &&& ~~~m } })

end Sys2Proof.Machine
end

