-- ==== Sys2Proof/Machine/Bus.lean ====
section
/-! DEFINITION. Shared operations of the Link Port: addressing, framing errors, the rise of CS_N, and the live
status snapshot. -/

namespace Sys2Proof.Machine

/-- The broadcast target (9.1). -/
def broadcast : Byte := 0x0F

/-- A target byte addresses this station (R152). -/
def State.addressed (s : State) (target : Byte) : Bool :=
  decide (target = BitVec.ofNat 8 s.link.address.val) || decide (target = broadcast)

/-- Set the transaction in progress. -/
def State.setRx (s : State) (rx : Option Rx) : State := { s with link := { s.link with rx := rx } }

/-- What MISO carried in the transaction. -/
def State.setMiso (s : State) (b : Bytes) : State := { s with link := { s.link with miso := b } }

/-- FRAMING is set where the power state lets the Link Port set flags (R154); never while asleep (log 11). -/
def State.framing (s : State) (allowed : Bool) : State := s.setFlagIf (allowed && !s.power.asleep) .framing

/-- A record kind that travels the in-order path: every code but those of the express kinds and WAKE (R155,
R158, 10.1). -/
def inOrder (kind : Byte) : Bool :=
  match RecordKind.ofCode kind with
  | some .cancel | some .halt | some .reset | some .wake | some .fetchlive | some .fetchqueue => false
  | _ => true

/-- A well-formed transaction that no rule lets the station take ends (R154). -/
def State.endUntaken (s : State) (rx : Rx) : State :=
  match rx.disp with
  | .overrun => s.setFlag .overrun
  | _ => s

/-- CS_N rises on a transaction in progress whose kind satisfies `isKind`, with the body clocked: a body of
another length than the header gave is a framing error (R153; log 15); otherwise `f` acts on the state with
the transaction over. Where no such transaction is in progress the event cannot occur (log 2). -/
def State.csRise (s : State) (isKind : Byte → Bool) (body : Bytes) (f : Rx → State → State) : State :=
  match s.link.rx with
  | none => s
  | some rx =>
    if !isKind rx.kind then s
    else if body.length ≠ rx.length then (s.setRx none).framing rx.flagged
    else f rx (s.setRx none)

/-- CS_N rises on an express record of kind `k` (R155): `f` acts when the record is taken. -/
def State.express (s : State) (k : RecordKind) (body : Bytes) (f : State → State) : State :=
  s.csRise (fun c => decide (c = k.code)) body fun rx s =>
    match rx.disp with
    | .express => f s
    | _ => s.endUntaken rx

/-! ### Live status (R163, R175) -/

/-- A bit as a number. -/
def bitNat (b : Bool) : Nat := if b then 1 else 0

/-- The 40-byte snapshot. -/
def State.liveStatus (s : State) : Bytes :=
  be8 s.power.code ++ be8 s.rails.state.code ++ be16 s.intakeUsed ++ be8 s.sched.requests.length ++
  be8 (16 - s.countSlots fun _ => true) ++ be8 (s.countSlots fun sl => sl.phase = .latching) ++
  be8 (s.countSlots Slot.isArmed) ++ be8 (s.countSlots Slot.isRunning) ++
  be8 (bitNat s.comp.draw.isSome + 2 * bitNat s.tableBusy) ++
  be8 s.wave.bankA.state.code ++ be8 (s.pins .bankA) ++ be8 s.wave.bankB.state.code ++ be8 (s.pins .bankB) ++
  be8 (orNone (s.activeBank.map BankId.code)) ++
  be8 s.temp.source.code ++ be16 (unsigned 65536 s.temp.current) ++ be8 (orNone s.temp.band) ++
  be8 s.temp.failures ++
  be16 s.ev.flags.toNat ++ be16 s.ev.mask.toNat ++
  (match s.ev.lastRefusal with
    | none => be8 0 ++ be8 0
    | some (kind, r) => [kind, r.code]) ++
  be8 s.comp.clipStack.length ++ be8 s.comp.excess ++ be32 (unsigned 4294967296 s.comp.pen) ++
  be8 s.ev.replies.length ++ be8 s.link.address.val ++
  be16 s.store.panel.x0 ++ be16 s.store.panel.w ++ be16 s.store.panel.h

end Sys2Proof.Machine
end

