-- ==== Sys2Proof/Machine/Link.lean ====
section
/-! DEFINITION. The Link Port's commands: header decode, the rise of CS_N on in-order records and on broken
transactions, the fetches, and the refusal of unknown kinds (09, 9.1 to 9.3, 9.5). -/

namespace Sys2Proof.Machine

open Host (Outcome)

/-- What header decode does with a record addressed to the station by kind and power state (R154, R156). -/
def State.disposition (s : State) (kind : Byte) (length : Nat) : Option Disposition :=
  match RecordKind.ofCode kind with
  | some .fetchlive => some (.fetchLive s.liveStatus)
  | some .fetchqueue =>
    match s.power with
    | .starting => some .overrun
    | _ => some (.fetchQueue s.ev.replies.head?)
  | some .cancel | some .halt | some .reset =>
    match s.power with
    | .run => some .express
    | .starting => some .overrun
    | .waking _ => some .overrun
    | .sleep => some .silent
    | .deep => some .silent
  | some .wake =>
    match s.power with
    | .starting => some .overrun
    | .run => some .ignored
    | .waking _ => some .ignored
    | .sleep => some .wakeMatch
    | .deep => some .wakeMatch
  | _ =>
    match s.power with
    | .run => if 4 + length ≤ s.intakeFree then some .reserved else none
    | .starting => some .overrun
    | .waking _ => some .overrun
    | .sleep => some .silent
    | .deep => some .silent

/-- A fetch addressed by broadcast (R155). -/
def broadcastFetch (target kind : Byte) : Bool :=
  decide (target = broadcast) &&
    (decide (kind = RecordKind.fetchlive.code) || decide (kind = RecordKind.fetchqueue.code))

/-- Header decode in a station whose RESET_N is released, with no transaction in progress (R152 to R156). An
in-order record that finds no room is discarded with OVERRUN at once and not judged again. -/
def State.decodeHeader (s : State) (target kind : Byte) (length : Nat) : State :=
  let s := s.setMiso []
  if !s.addressed target || broadcastFetch target kind then s
  else if Config.maxBody < length then s.framing true
  else
    let s := if kind = RecordKind.fetchlive.code then s.advanceShown else s
    match s.disposition kind length with
    | none => s.setFlag .overrun
    | some d => s.setRx (some ⟨kind, target, length, !s.power.asleep, d⟩)

/-- HEADER_DECODE (R152). While RESET_N is asserted, and for a transaction whose CS_N fell then, nothing is
taken (R169). -/
def execHeaderDecode (counted : Bool) (target kind : Byte) (length : BitVec 16) (s : State) :
    Outcome State Fault Refusal :=
  .next (if s.link.resetAsserted || !counted || s.link.rx.isSome then s
    else s.decodeHeader target kind length.toNat)

/-- RECORD_RECEIVED (R156): an in-order record joins the tail in the reserved space, or is discarded as its
header decode decided (R154, R170). -/
def execRecordReceived (body : Bytes) (s : State) : Outcome State Fault Refusal :=
  .next (s.csRise inOrder body fun rx s =>
    match rx.disp with
    | .reserved => { s with intake := { s.intake with queue := s.intake.queue ++ [⟨rx.kind, body⟩] } }
    | _ => s.endUntaken rx)

/-- What MISO had carried when a transaction broke off after `clocked` body bytes (R153, R162, R163). -/
def Rx.cutMiso (rx : Rx) (clocked : Nat) : Bytes :=
  match rx.disp with
  | .fetchLive snapshot => misoBytes snapshot clocked
  | .fetchQueue none => misoBytes emptyReply clocked
  | .fetchQueue (some r) => misoBytes r.bytes clocked
  | _ => []

/-- FRAMING_ERROR (R153): the record is discarded, its reservation is freed, a fetch removes no reply, and
FRAMING is set where R154 allows. Before the header is decoded the first byte decides who sets FRAMING. -/
def execFramingError (cut : FramingCut) (s : State) : Outcome State Fault Refusal :=
  .next (match cut with
    | .beforeHeader counted first =>
      if s.link.resetAsserted || !counted || s.link.rx.isSome then s
      else if first.all s.addressed then (s.setMiso []).framing true
      else s.setMiso []
    | .afterHeader clocked =>
      match s.link.rx with
      | none => s
      | some rx => ((s.setRx none).setMiso (rx.cutMiso clocked)).framing rx.flagged)

/-- UNKNOWN_KIND (R158): a head record of a code outside the kind table is refused at once. -/
def execUnknownKind (s : State) : Outcome State Fault Refusal :=
  .next (if s.power = .run ∧ s.intake.hold = .free then
    match s.intake.queue with
    | [] => s
    | r :: _ => if (RecordKind.ofCode r.kind).isSome then s else s.pop.refuse r.kind .unknownKind
    else s)

/-- FETCHLIVE (R163, R175): the snapshot of header decode is clocked out, then 0x00. -/
def execFetchlive (s : State) : Outcome State Fault Refusal :=
  .next (match s.link.rx with
    | none => s
    | some rx =>
      match rx.disp with
      | .fetchLive snapshot => (s.setRx none).setMiso (misoBytes snapshot rx.length)
      | _ => s)

/-- A reply served whole leaves the head (R162). -/
def State.dropReply (s : State) : State := { s with ev := { s.ev with replies := s.ev.replies.tail } }

/-- FETCHQUEUE (R162): the head reply, or EMPTY, is clocked out, and the reply is removed when at least its
length was clocked. One discarded in STARTING sets OVERRUN and drives no MISO (R154). -/
def execFetchqueue (s : State) : Outcome State Fault Refusal :=
  .next (match s.link.rx with
    | none => s
    | some rx =>
      match rx.disp with
      | .fetchQueue none => (s.setRx none).setMiso (misoBytes emptyReply rx.length)
      | .fetchQueue (some r) =>
        let s := (s.setRx none).setMiso (misoBytes r.bytes rx.length)
        if r.bytes.length ≤ rx.length then s.dropReply else s
      | _ => if rx.kind = RecordKind.fetchqueue.code then (s.setRx none).endUntaken rx else s)

end Sys2Proof.Machine
end

