-- ==== Sys2Proof/Machine/Update.lean ====
section
/-! DEFINITION. The Update Scheduler (07) and mode resolution (06, 6.4): UPDATE, admission passes, the pixel
reads of a request's examination, latch ends, CANCEL and HALT. -/

namespace Sys2Proof.Machine

open Host (Outcome)

/-! ### Effective rectangles -/

/-- A request's effective rectangle: its rectangle ∩ the window in force (R110, R111). -/
def State.effective (s : State) (r : Request) : Rect := Rect.inter r.rect s.window

/-! ### UPDATE -/

/-- The request an UPDATE makes. -/
def UpdateRec.request (u : UpdateRec) : Request :=
  ⟨u.tag, u.rect, u.allowed, u.skip, u.promote, u.notify, false⟩

/-- The Dispatcher's hold after an UPDATE has joined: until its first pass has ended, but in FAULT the UPDATE
counts as taken at once (R110). -/
def State.updateHold (s : State) : Hold := if s.rails.state = .fault then .free else .update false

/-- An UPDATE joins the tail of the request queue, and its joining triggers a pass, before the record behind it can
begin to wait (R110, R112). -/
def State.joinRequest (s : State) (r : Request) : State :=
  (({ s with sched := { s.sched with requests := s.sched.requests ++ [r] } }).setHold s.updateHold).trigger

/-- UPDATE (R109, R110). -/
def execUpdate (s : State) : Outcome State Fault Refusal :=
  .next (s.withHead .update fun body =>
    match parseUpdate body with
    | .refuse r => s.refuseHead .update r
    | .ok u =>
      let r := u.request
      if (s.effective r).isEmpty then s.pop.notify r.notify (r.notice .empty none)
      else if Config.maxRequests ≤ s.sched.requests.length then s
      else s.pop.joinRequest r)

/-! ### Mode resolution (R99 to R102) -/

/-- A mode is available in the current band: the ACTIVE bank holds its record (R85). -/
def State.available (s : State) (m : Mode) : Bool :=
  match s.activeBank, s.temp.band with
  | some b, some band => ((s.bank b).record m band).isSome
  | _, _ => false

/-- The order of step 4 (R101). -/
def modeOrder : List Mode := [.tone16, .tone4, .bilevel, .stroke, .clean]

/-- The tiles that hold at least one pixel of a rectangle inside the window (R102). -/
def Panel.tilesOf (p : Panel) (r : Rect) : List Nat :=
  (List.range p.tiles).filter fun n => (p.tileRect n).meets r

/-- The largest residue count among the tiles of a rectangle (R102). -/
def State.maxResidue (s : State) (r : Rect) : Nat :=
  (s.store.panel.tilesOf r).foldl (fun m n => max m (s.residueOf n)) 0

/-- The outcome of mode resolution (R99): none is NO_MODE, else the mode and the promoted mark. `unknownSeen`
says that the pixel reads met an unowned UNKNOWN pixel. -/
def State.resolve (s : State) (r : Request) (unknownSeen : Bool) : Option (Mode × Bool) :=
  match s.activeBank with
  | none => none
  | some _ =>
    if unknownSeen then if s.available .clean then some (.clean, false) else none
    else
      match modeOrder.find? fun m => decide (m ∈ r.allowed) && s.available m with
      | none => none
      | some m =>
        if r.promote && decide (0 < m.weight) &&
            decide (s.store.panel.residueThreshold ≤ s.maxResidue (s.effective r)) && s.available .tone16 then
          some (.tone16, true)
        else some (m, false)

/-! ### Admission passes (R112 to R115) -/

/-- The running pass ends, and with it the wait of an UPDATE whose first pass it was (R110). A pass that a trigger
made meanwhile follows before the record behind that UPDATE can begin to wait (log 20). -/
def State.endPass (s : State) : State := s.dropPass.freeUpdate false

/-- The pixels a DEFER read looks at: those of the effective rectangle that lie in the effective rectangle of
a slot that is not FREE (R114). -/
def State.deferKeys (s : State) (r : Rect) : List Nat :=
  r.keys.filter fun k => s.anySlot fun sl => sl.rect.hasKey k

/-- The pass begins the pixel reads of a request's resolution (R99). -/
def State.beginResolve (s : State) (r : Rect) : State := s.setPass (some (.resolveRead r.keys false))

/-- The pass begins to examine a request that steps 1 to 3 let through: the DEFER read where there is
something to read, else the reads of its resolution (R113, R114; log 24). -/
def State.beginReads (s : State) (r : Request) : State :=
  let rect := s.effective r
  if r.skip || (s.deferKeys rect).isEmpty then s.beginResolve rect
  else s.setPass (some (.deferRead (s.deferKeys rect) false))

/-- Replace the request queue. -/
def State.setRequests (s : State) (rs : List Request) : State :=
  { s with sched := { s.sched with requests := rs } }

/-- The pass walks on from the requests `ahead`, which still stand, over the `rest` (R113): it removes
requests that have become empty, leaves those that overlap one ahead, and stops at the first one that needs
pixel reads, at the last one due, or when no slot is FREE. -/
def State.examine (s : State) (ahead rest : List Request) : State :=
  match rest with
  | [] => (s.setRequests ahead).endPass
  | r :: behind =>
    if !r.due then s.examine (ahead ++ [r]) behind
    else if (s.effective r).isEmpty then (s.notify r.notify (r.notice .empty none)).examine ahead behind
    else if s.freeSlot?.isNone then (s.setRequests (ahead ++ r :: behind)).endPass
    else if ahead.any fun q => (s.effective q).meets (s.effective r) then
      s.examine (ahead ++ [{ r with due := false }]) behind
    else (s.setRequests (ahead ++ r :: behind)).beginReads r

/-- The pass goes on with the requests that are still due. -/
def State.continuePass (s : State) : State := s.examine [] s.sched.requests

/-- A pass begins: every request the queue holds is due (R113), and an UPDATE waiting for its first pass is in
it (R110). -/
def State.beginPass (s : State) : State :=
  let s : State := { s with sched := { s.sched with
    passDue := false, requests := s.sched.requests.map fun r : Request => { r with due := true } } }
  match s.intake.hold with
  | .update _ => s.setHold (.update true)
  | _ => s

/-- ADMISSION_PASS (R112, R113): a triggered pass begins where none runs. It was triggered while passes were not
suspended, so a PANELSET that has come to the head since waits for it (log 20); none begins in FAULT or while the
window is reinitialized. It examines the requests that the queue holds now, and it is the first pass of an UPDATE
waiting for one. -/
def execAdmissionPass (s : State) : Outcome State Fault Refusal :=
  .next (if s.sched.passDue ∧ s.sched.pass = none ∧ s.rails.state ≠ .fault ∧ s.intake.hold ≠ .reinit then
    s.beginPass.continuePass else s)

/-- The request the running pass examines: the first one due. -/
def State.examined (s : State) : Option Request := s.sched.requests.find? Request.due

/-- The pass leaves the request it examines where it stands and goes on. -/
def leaveFirstDue (rs : List Request) : List Request :=
  match rs with
  | [] => []
  | r :: rest => if r.due then { r with due := false } :: rest else r :: leaveFirstDue rest

/-- The request the pass examines leaves the queue. -/
def dropFirstDue (rs : List Request) : List Request :=
  match rs with
  | [] => []
  | r :: rest => if r.due then rest else r :: dropFirstDue rest

/-- The FREE slot of lowest number takes a request: it records what 7.4 lists, pins the bank, becomes
LATCHING, and its latch pass begins (R85, R115). -/
def State.enterSlot (s : State) (r : Request) (i : Fin 16) (m : Mode) (promoted : Bool) : State :=
  let bankId := s.activeBank.getD .bankA
  let band := s.temp.band.getD 0
  let frames := (((s.bank bankId).record m band).map WaveRec.frames).getD 0
  let rect := s.effective r
  let slot : Slot :=
    ⟨.latching, r.tag, r.notify, m, promoted, band, bankId, frames, rect, 0, 0, [], false⟩
  ((s.setRequests (dropFirstDue s.sched.requests)).setSlot i (some slot)).setPass
    (some (.latching i rect.keys))

/-- The moment of resolution (R99, R103, R115): NO_MODE removes the request, a mode admits it. -/
def State.resolveAndAdmit (s : State) (r : Request) (unknownSeen : Bool) : State :=
  match s.resolve r unknownSeen, s.freeSlot? with
  | some (m, promoted), some i => s.enterSlot r i m promoted
  | none, _ =>
    let band := s.activeBank.bind fun _ => s.temp.band
    ((s.setRequests (dropFirstDue s.sched.requests)).notify r.notify (r.notice .noMode band)).continuePass
  | some _, none => s.endPass

/-- RESOLUTION_PIXEL_READS_END (R99, R113, R114): the reads of a DEFER check end and the request is held, or
goes on to its resolution's reads; or those end, and its mode is resolved. -/
def execResolutionPixelReadsEnd (s : State) : Outcome State Fault Refusal :=
  .next (match s.sched.pass, s.examined with
    | some (.deferRead todo found), some r =>
      if found || todo.any fun k => (s.pixel k).owner.isSome then
        (s.setRequests (leaveFirstDue s.sched.requests)).continuePass
      else s.beginResolve (s.effective r)
    | some (.resolveRead todo found), some r =>
      s.resolveAndAdmit r
        (found || todo.any fun k => (s.pixel k).owner.isNone && (s.pixel k).shown.isNone)
    | _, _ => s)

/-! ### Latch end (R119) -/

/-- What a latch end does with its slot (R119). -/
def State.endLatch (s : State) (i : Fin 16) : State :=
  match s.slot i with
  | none => s
  | some sl =>
    let s := s.setFlagIf (decide (0 < sl.skipped)) .collide
    if sl.cancel then (s.releaseSlot i sl .cancelled).trigger
    else if sl.taken = 0 then (s.releaseSlot i sl .empty).trigger
    else (s.setSlot i (some { sl with phase := .armed })).onArmed

/-- LATCH_END (R119): the walk ends, its slot becomes ARMED or is freed, and the pass that admitted it goes on.
A walk that still waits for a draw record cannot end (R118). -/
def execLatchEnd (s : State) : Outcome State Fault Refusal :=
  .next (match s.sched.pass with
    | some (.latching i _) =>
      if s.comp.draw.isSome then s
      else
        let s := s.freeAdvanceRead
        match s.sched.pass with
        | some (.latching _ todo) => ((s.advancePass todo.length).endLatch i).continuePass
        | _ => s
    | _ => s)

/-! ### CANCEL and HALT (R124, R126) -/

/-- A CANCEL on one slot with its tag (R124). -/
def State.cancelSlot (tag : Byte) (s : State) (i : Fin 16) : State :=
  match s.slot i with
  | none => s
  | some sl =>
    if sl.tag ≠ tag then s
    else if sl.isArmed then (s.releaseSlot i sl .cancelled).trigger
    else s.setSlot i (some { sl with cancel := true })

/-- A CANCEL on the pending requests with its tag: each is removed in queue order, CANCELLED (R124). -/
def State.cancelRequests (s : State) (tag : Byte) : State :=
  let gone := s.sched.requests.filter fun r => r.tag = tag
  let s := s.setRequests (s.sched.requests.filter fun r => r.tag ≠ tag)
  let s := gone.foldl (fun s r => s.notify r.notify (r.notice .cancelled none)) s
  if gone.isEmpty then s else s.trigger

/-- CANCEL of a tag (R124): slots first, then pending requests. A pass whose examined request was removed goes
on to the next. -/
def State.cancelTag (s : State) (tag : Byte) : State :=
  let driving := s.anyDriving
  let examining := s.sched.pass.isSome && !s.latching && s.examined.any fun r => r.tag = tag
  let s := if s.anySlot fun sl => sl.isArmed && decide (sl.tag = tag) then s.advanceWalks else s
  let s := slotIds.foldl (State.cancelSlot tag) s
  let s := (s.cancelRequests tag).holdIfLeft driving
  if examining then s.continuePass else s

/-- CANCEL (R124, R155). -/
def execCancel (body : Bytes) (s : State) : Outcome State Fault Refusal :=
  .next (s.express .cancel body fun s =>
    if body.length ≠ 1 then s.refuse RecordKind.cancel.code .length else s.cancelTag (body.getD 0 0))

/-- HALT (R126): every slot is ended, which triggers a pass, every pending request is removed, a running pass ends,
and the frame in progress is cut. -/
def State.haltAll (s : State) : State :=
  let driving := s.anyDriving
  let busy := s.anyBusy
  let s := s.cutSlots
  let s := if busy then s.trigger else s
  let gone := s.sched.requests
  let s := gone.foldl (fun s r => s.notify r.notify (r.notice .cancelled none)) (s.setRequests [])
  let s := State.endPass { s with scan := none }
  s.holdIfLeft driving

/-- HALT (R126, R155). -/
def execHalt (body : Bytes) (s : State) : Outcome State Fault Refusal :=
  .next (s.express .halt body fun s =>
    if body.length ≠ 0 then s.refuse RecordKind.halt.code .length else s.haltAll)

end Sys2Proof.Machine
end

