-- ==== Sys2Proof/Machine/Panel.lean ====
section
/-! DEFINITION. PANELSET and the geometry change (01, 1.3, 1.4), the Frame Scanner's frame end (08, 8.1) and
the Rail Sequencer's commands (08, 8.2). -/

namespace Sys2Proof.Machine

open Host (Outcome)

/-! ### PANELSET -/

/-- The two panels have the same window. -/
def Panel.sameWindow (p q : Panel) : Bool := decide (p.x0 = q.x0 ∧ p.w = q.w ∧ p.h = q.h)

/-- The fields of a taken PANELSET take their values (R7, R8). -/
def State.setPanel (s : State) (p : Panel) : State := { s with store := { s.store with panel := p } }

/-- The geometry change of a taken PANELSET (R9): every pixel record reinitialized (log 5), residue counts,
pen and clip state at their values, and the Dispatcher held until the reinitialization ends. -/
def State.geometryChange (s : State) (p : Panel) : State :=
  ({ s with
      store := ⟨[], p⟩
      residue := []
      comp := { Compose.initial p.window with draw := s.comp.draw } }).setHold .reinit

/-- PANELSET (R6, R7): checked first; it waits while a slot is not FREE or a draw record is in progress, and
for a pass that is running (log 9) or was triggered and has not begun (log 20). Without a change of window a pass is
triggered when it is taken (R8, R112). -/
def execPanelset (s : State) : Outcome State Fault Refusal :=
  .next (s.withHead .panelset fun body =>
    match parsePanelset body with
    | .refuse r => s.refuseHead .panelset r
    | .ok p =>
      if s.anyBusy || s.comp.draw.isSome || s.sched.pass.isSome || s.sched.passDue then s
      else if p.sameWindow s.store.panel then (s.pop.setPanel p).endSuspension
      else s.pop.geometryChange p)

/-- REINIT_END (R9): the Dispatcher moves on and an admission pass is triggered. -/
def execReinitEnd (s : State) : Outcome State Fault Refusal :=
  .next (if s.intake.hold = .reinit then (s.setHold .free).endSuspension else s)

/-! ### Frame end -/

/-- The frame end's reaction on one slot (R121): complete, abort or advance. -/
def State.frameSlot (s : State) (i : Fin 16) : State :=
  match s.slot i with
  | none => s
  | some sl =>
    match sl.phase with
    | .latching => s
    | .armed => s
    | .running index =>
      if sl.frames ≤ index + 1 then s.completeSlot i sl
      else if sl.cancel then s.abortSlot i sl
      else s.setSlot i (some { sl with phase := .running (index + 1) })

/-- The scanner after a frame end: the next frame starts at once, or the scanner stops and the hold timer
starts (R132, R135). -/
def State.nextFrame (s : State) : State :=
  if s.anyDriving then s.startFrame else State.startHold { s with scan := none }

/-- FRAME_END (R121, R132, R135): the RUNNING slots in ascending order, then one admission pass is triggered,
and the next frame starts or the scanner stops. -/
def execFrameEnd (s : State) : Outcome State Fault Refusal :=
  .next (if s.scan.isSome then
    ((slotIds.foldl State.frameSlot s.advanceWalks).trigger).nextFrame else s)

/-! ### Rails -/

/-- A RAILCTL at the intake head: ill-formed ones are refused at once, and `f` acts on one whose action is
`action` (R145; log 13). -/
def State.withRailctl (s : State) (action : Nat) (f : State) : State :=
  s.withHead .railctl fun body =>
    if body.length ≠ 1 then s.refuseHead .railctl .length
    else if 1 < u8 body 0 then s.refuseHead .railctl .field
    else if u8 body 0 ≠ action then s
    else f

/-- RAILCTL_OFF (R145): it waits while any slot is busy; rails in RISING or ON go to FALLING. -/
def execRailctlOff (s : State) : Outcome State Fault Refusal :=
  .next (s.withRailctl 0
    (if s.anyBusy then s
      else
        match s.rails.state with
        | .on => s.pop.enterFalling
        | .rising => s.pop.enterFalling
        | .off => s.pop
        | .falling => s.pop
        | .fault => s.pop))

/-- RAILCTL_CLEAR (R144, R145): FAULT becomes OFF, and leaving it triggers a pass, which comes before a PANELSET
behind the record (R112, R127). -/
def execRailctlClear (s : State) : Outcome State Fault Refusal :=
  .next (s.withRailctl 1
    (if s.rails.state = .fault then
      State.endSuspension { s.pop with rails := { s.rails with state := .off } }
      else s.pop))

/-- The level of PGOOD (R138). -/
def State.setPgood (s : State) (level : Bool) : State := { s with rails := { s.rails with pgood := level } }

/-- PGOOD_ASSERTED (R140): in RISING the rails reach ON; elsewhere only the level changes (R138). -/
def execPgoodAsserted (s : State) : Outcome State Fault Refusal :=
  .next (if s.rails.state = .rising then (s.setPgood true).reachOn else s.setPgood true)

/-- PGOOD_LOST (R142): in ON the rails enter FAULT at once; elsewhere only the level changes (R138). -/
def execPgoodLost (s : State) : Outcome State Fault Refusal :=
  .next (if s.rails.state = .on then (s.setPgood false).enterFault else s.setPgood false)

/-- RISE_TIMER_EXPIRY (R140): the rails enter FAULT. -/
def execRiseTimerExpiry (s : State) : Outcome State Fault Refusal :=
  .next (if s.rails.state = .rising ∧ s.rails.rise.isSome then s.enterFault else s)

/-- HOLD_TIMER_EXPIRY (R141): the rails enter FALLING. -/
def execHoldTimerExpiry (s : State) : Outcome State Fault Refusal :=
  .next (if s.rails.state = .on ∧ s.rails.hold.isSome then s.enterFalling else s)

/-- FALL_TIMER_EXPIRY (R143): the rails enter OFF, and rise again at once with a slot ARMED. -/
def execFallTimerExpiry (s : State) : Outcome State Fault Refusal :=
  .next (if s.rails.state = .falling ∧ s.rails.fall.isSome then
    let s := { s with rails := { s.rails with state := .off, fall := none } }
    if s.anyArmed then s.enterRising else s
    else s)

end Sys2Proof.Machine
end

