-- ==== Sys2Proof/Machine/Readback.lean ====
section
/-! DEFINITION. READ and its areas (09, 9.6; 1.7, 2.10, 5.8, R108; layouts 10.5). -/

namespace Sys2Proof.Machine

open Host (Outcome)

/-- A READ at the intake head: the Event and Reply Unit's checks (R164), then `f` on one that names `area`; a
READ of another area is another row's (log 13). -/
def State.withRead (s : State) (area : Area) (f : Bytes → State) : State :=
  s.withHead .read fun body =>
    if body.length = 0 then s.refuseHead .read .length
    else if 5 < u8 body 0 then s.refuseHead .read .field
    else if u8 body 0 ≠ area.code then s
    else if body.length ≠ area.bodyLength then s.refuseHead .read .length
    else f body

/-- The owner's last check and its effect: REPLY_FULL with 16 replies queued, else `f` (R14, R32 to R34, R89,
R108). -/
def State.ifRoom (s : State) (f : State) : State :=
  if s.repliesFull then s.refuseHead .read .replyFull else f

/-- The READ leaves the queue and its readback joins the reply queue at once. -/
def State.answer (s : State) (area : Area) (payload : Bytes) : State :=
  s.pop.putReply (.readback (BitVec.ofNat 8 area.code) payload)

/-! ### GLYPH -/

/-- The bytes of a GLYPH readback (10.5, R32, R174); the padding half-byte is returned as 0 (R172). -/
def Tables.glyphReadback (t : Tables) (slot code : Nat) : Bytes :=
  be8 slot ++ be24 code ++ be8 (if (t.font slot).isSome then 1 else 0) ++
  be8 (if (t.entry slot code).isSome then 1 else 0) ++ be16 t.directory.length ++ be16 t.freeBlocks ++
  (match t.entry slot code with
    | none => []
    | some e => be8 e.width ++ be8 e.height ++ be8 (unsigned 256 e.bearingX) ++ be8 (unsigned 256 e.bearingY) ++
      be32 e.advance ++ clearPadding (e.width * e.height) (t.bitmap e))

/-- READ_GLYPH (R32): queued at once when there is no bitmap to read, else the Dispatcher is held and a reply
place reserved until READ_GLYPH_END. -/
def execReadGlyph (s : State) : Outcome State Fault Refusal :=
  .next (s.withRead .glyph fun body =>
    let slot := u8 body 1
    let code := u24 body 2
    if s.tableBusy then s
    else if 7 < slot ∨ Config.maxCode < code then s.refuseHead .read .field
    else s.ifRoom
      (if ((s.tables.entry slot code).map fun e => e.width * e.height).getD 0 = 0 then
        s.answer .glyph (s.tables.glyphReadback slot code)
      else s.pop.setHold (.readGlyph (s.tables.glyphReadback slot code))))

/-- READ_GLYPH_END (R32): the readback takes the reserved place and the Dispatcher moves on. -/
def execReadGlyphEnd (s : State) : Outcome State Fault Refusal :=
  .next (match s.intake.hold with
    | .readGlyph payload =>
      (s.setHold .free).putReply (.readback (BitVec.ofNat 8 Area.glyph.code) payload)
    | _ => s)

/-! ### KERN and STYLE -/

/-- The bytes of a KERN readback (10.5, R33). -/
def Tables.kernReadback (t : Tables) (slot start : Nat) : Bytes :=
  let list := ((t.font slot).map Font.kern).getD []
  let carried := (list.drop start).take 200
  be8 slot ++ be8 (if (t.font slot).isSome then 1 else 0) ++ be16 list.length ++ be16 start ++
  be8 carried.length ++ carried.flatMap encodeKernPair

/-- READ_KERN (R33). -/
def execReadKern (s : State) : Outcome State Fault Refusal :=
  .next (s.withRead .kern fun body =>
    if s.tableBusy then s
    else if 7 < u8 body 1 then s.refuseHead .read .field
    else s.ifRoom (s.answer .kern (s.tables.kernReadback (u8 body 1) (u16 body 2))))

/-- The bytes of a STYLE readback (10.5, R34). -/
def Tables.styleReadback (t : Tables) : Bytes := t.styles.toList.flatMap encodeStyle

/-- READ_STYLE (R34). -/
def execReadStyle (s : State) : Outcome State Fault Refusal :=
  .next (s.withRead .style fun _ =>
    if s.tableBusy then s else s.ifRoom (s.answer .style s.tables.styleReadback))

/-! ### WAVE -/

/-- The bytes of a WAVE readback (10.5, R89, R174). -/
def State.waveReadback (s : State) (b : BankId) : Bytes :=
  let v := s.bank b
  be8 b.code ++ be8 v.state.code ++ be8 (if v.state = .active then 1 else 0) ++ be8 (s.pins b) ++
  be8 v.bounds.length ++ ((v.bounds.map (unsigned 256)) ++ List.replicate (8 - v.bounds.length) 0).flatMap be8 ++
  be8 (unsigned 256 v.ceiling) ++ be8 v.records.length ++ be16 v.frames ++
  v.records.flatMap fun e => be8 (e.1 / 8) ++ be8 (e.1 % 8) ++ be16 e.2.frames

/-- READ_WAVE (R89). -/
def execReadWave (s : State) : Outcome State Fault Refusal :=
  .next (s.withRead .wave fun body =>
    if 1 < u8 body 1 then s.refuseHead .read .field
    else s.ifRoom (s.answer .wave (s.waveReadback (if u8 body 1 = 0 then .bankA else .bankB))))

/-! ### RESIDUE -/

/-- The bytes of a RESIDUE readback (10.5, R108). -/
def State.residueReadback (s : State) (start n : Nat) : Bytes :=
  let p := s.store.panel
  let carried := min n (p.tiles - start)
  be8 p.tileCols ++ be8 p.tileRows ++ be16 start ++ be16 carried ++
  (List.range carried).flatMap fun j => be8 (s.residueOf (start + j))

/-- READ_RESIDUE (R108). -/
def execReadResidue (s : State) : Outcome State Fault Refusal :=
  .next (s.withRead .residue fun body =>
    s.ifRoom (s.answer .residue (s.residueReadback (u16 body 1) (u16 body 3))))

/-! ### PIXELS -/

/-- The most values a PIXELS readback carries (R15). -/
def maxPixelValues : Nat := 1024

/-- A READ of PIXELS begins to read the rectangle ∩ window (R14, R15). -/
def State.beginPixelRead (s : State) (f : PixelField) (rect : Rect) : State :=
  let r := Rect.inter rect s.window
  s.pop.setHold (.readPixels
    ⟨f, r, decide (maxPixelValues < r.w * r.h), r.keys.take maxPixelValues, []⟩)

/-- READ_PIXELS (R14): it waits while a draw record is in progress, is checked, reserves a reply place and
begins to read. -/
def execReadPixels (s : State) : Outcome State Fault Refusal :=
  .next (s.withRead .pixels fun body =>
    if s.comp.draw.isSome then s
    else
      match PixelField.ofCode (u8 body 9) with
      | none => s.refuseHead .read .field
      | some f => s.ifRoom (s.beginPixelRead f (rectAt body 1)))

/-- The bytes of a PIXELS readback (10.5, R15, R174). -/
def PixelRead.payload (r : PixelRead) : Bytes :=
  be8 r.selector.code ++ be8 (if r.truncated then 1 else 0) ++ encodeRect r.rect ++ be16 r.values.length ++ r.values

/-- READ_PIXELS_END (R15): the last values are read, the readback takes the reserved place and the Dispatcher
moves on. -/
def execReadPixelsEnd (s : State) : Outcome State Fault Refusal :=
  .next (match s.intake.hold with
    | .readPixels r =>
      let s := State.readMany r.todo.length s
      match s.intake.hold with
      | .readPixels r =>
        (s.setHold .free).putReply (.readback (BitVec.ofNat 8 Area.pixels.code) r.payload)
      | _ => s
    | _ => s)

end Sys2Proof.Machine
end

