-- ==== Sys2Proof/Machine/Reset.lean ====
section
/-! DEFINITION. Resets and power states: PIN_RESET and start-up (R147, R169), SLEEP and DEEP (R148, R149),
WAKE (R150, R151), and the soft reset of RESET (R168). -/

namespace Sys2Proof.Machine

open Host (Outcome)

/-! ### Pin reset and start-up -/

/-- PIN_RESET (R147, R169): every operation and transaction is abandoned and every block takes its pin-reset
values (log 21). The PGOOD level, the SDRAM's glyph bytes, the address and the waiting commands are not the
reset's to change. -/
def execPinReset (s : State) : Outcome State Fault Refusal :=
  .next { State.reset with
    link := { State.reset.link with address := s.link.address, resetAsserted := true }
    tables := Tables.emptied s.tables.pool
    rails := { State.reset.rails with pgood := s.rails.pgood }
    temp := { Thermal.initial with wire := s.abandonEvents }
    freeCount := s.abandonRead.freeCount
    pending := s.pending }

/-- The station address that the straps give: ADDR0 the low bit, ADDR1 the high one (R169). -/
def strapAddress (addr0 addr1 : Bool) : Fin 4 :=
  match addr1, addr0 with
  | false, false => 0
  | false, true => 1
  | true, false => 2
  | true, true => 3

/-- RESET_N_RELEASE (R147, R169): the address is sampled, the link side takes its pin-reset values, and
STARTING begins. -/
def execResetNRelease (addr0 addr1 : Bool) (s : State) : Outcome State Fault Refusal :=
  .next (if s.link.resetAsserted then
    { s with
      link := ⟨strapAddress addr0 addr1, false, none, []⟩
      intake := ⟨[], .free⟩
      ev := Events.initial
      power := .starting }
    else s)

/-- STARTING_END (R147): the pixel store is clear, RUN begins, and a sensor read begins in SENSOR. -/
def execStartingEnd (s : State) : Outcome State Fault Refusal :=
  .next (if s.power = .starting ∧ s.link.resetAsserted = false then
    State.startReadIfSensor { s.setPixels [] with power := .run } []
    else s)

/-! ### Sleep and wake -/

/-- A record in reception at the entry to SLEEP or DEEP is discarded without a flag; a fetch is served to its
end (R170). -/
def Rx.silence (rx : Rx) : Rx :=
  match rx.disp with
  | .reserved => { rx with disp := .silent }
  | .express => { rx with disp := .silent }
  | _ => rx

/-- An accepted SLEEP (R148): the intake queue is emptied, the sensor read abandoned and its timer stopped. -/
def State.fallAsleep (s : State) (p : Power) : State :=
  let s := s.abandonRead
  { s with
    link := { s.link with rx := s.link.rx.map Rx.silence }
    intake := { s.intake with queue := [] }
    power := p }

/-- Check 3 of R148: a slot not FREE, a pending request, or the rails in RISING, ON or FALLING. -/
def State.sleepBusy (s : State) : Bool :=
  s.anyBusy || !s.sched.requests.isEmpty ||
  match s.rails.state with
  | .off => false
  | .fault => false
  | .rising => true
  | .on => true
  | .falling => true

/-- A SLEEP at the intake head: it waits while a draw record is in progress or the Table Store is busy, is
checked, and `f` acts on an accepted one whose option is `option` (R148; log 13). -/
def State.withSleep (s : State) (option : Nat) (f : State) : State :=
  s.withHead .sleep fun body =>
    if s.comp.draw.isSome || s.tableBusy then s
    else if body.length ≠ 1 then s.refuseHead .sleep .length
    else if 1 < u8 body 0 then s.refuseHead .sleep .field
    else if u8 body 0 ≠ option then s
    else if s.sleepBusy then s.refuseHead .sleep .busy
    else f

/-- SLEEP (R148): the SDRAM keeps its contents in self-refresh (R11). -/
def execSleep (s : State) : Outcome State Fault Refusal := .next (s.withSleep 0 (s.fallAsleep .sleep))

/-- The SDRAM's contents are lost (R11): pixel records and glyph bytes (log 5, log 8). -/
def State.loseSdram (s : State) : State :=
  { s.setPixels [] with tables := { s.tables with pool := [] } }

/-- SLEEP_DEEP (R148): the SDRAM is powered down. -/
def execSleepDeep (s : State) : Outcome State Fault Refusal :=
  .next (s.withSleep 1 (s.fallAsleep .deep).loseSdram)

/-- The wake pattern for a target byte: A, 255 − A, four times (R150). -/
def wakePattern (a : Byte) : Bytes := [a, ~~~a, a, ~~~a, a, ~~~a, a, ~~~a]

/-- The wake matcher on a body (R150): a match in SLEEP or DEEP begins WAKING (R151). -/
def State.matchWake (s : State) (target : Byte) (body : Bytes) : State :=
  if body = wakePattern target then
    match s.power with
    | .sleep => { s with power := .waking false }
    | .deep => { s with power := .waking true }
    | _ => s
  else s

/-- WAKE (R150, R154). -/
def execWake (body : Bytes) (s : State) : Outcome State Fault Refusal :=
  .next (s.csRise (fun c => decide (c = RecordKind.wake.code)) body fun rx s =>
    match rx.disp with
    | .wakeMatch => s.matchWake rx.target body
    | _ => s.endUntaken rx)

/-- WAKING_END (R151): RUN, the WAKE flag, and a sensor read in SENSOR (log 6). -/
def execWakingEnd (s : State) : Outcome State Fault Refusal :=
  .next (match s.power with
    | .waking fromDeep =>
      let s := if fromDeep then s.rebuildAfterDeep else s
      (State.setFlag { s with power := .run } .wake).startReadIfSensor []
    | _ => s)

/-! ### Soft reset -/

/-- The pixels of a slot that a soft reset ends (R13): UNKNOWN for RUNNING, kept for LATCHING and ARMED. -/
def State.resetSlotPixels (s : State) (i : Fin 16) : State :=
  match s.slot i with
  | none => s
  | some sl =>
    s.setPixels (mapOwned i (if sl.isRunning then PixelRec.aborted else PixelRec.released) s.store.pixels)

/-- The target writes an abandoned draw record has made: a free number of them, in walk order, and at least those
that come before a lookup of a TEXT that has set GLYPHMISS (R50, R58, R60, R67; log 3). -/
def State.abandonDraw (s : State) : State :=
  match s.comp.draw with
  | some (.writing kind writes) =>
    s.useFree.setPixels (writeTargets s.store.pixels
      (writes.take (max kind.made (Config.walkProgress s.freeCount))))
  | _ => s

/-- The rails at a soft reset (R146). -/
def State.resetRails (s : State) : State :=
  match s.rails.state with
  | .rising => s.enterFalling
  | .on => s.enterFalling
  | .falling => s
  | .off => { s with rails := { s.rails with rise := none, hold := none, fall := none } }
  | .fault => { s with rails := { s.rails with state := .off, rise := none, hold := none, fall := none } }

/-- The Table Store, the banks and the band at a soft reset (R31, R88, R98): kept with KEEP_TABLES, but for a
glyph write in progress (R24). -/
def State.resetTables (s : State) (keep : Bool) : State :=
  if keep then { s with tables := { s.tables with glyphWrite := none } }
  else { s with
    tables := Tables.emptied s.tables.pool
    wave := ⟨Bank.initial, Bank.initial⟩
    temp := { s.temp with band := none } }

/-- The sensor at a soft reset: failures 0, the read abandoned, and a new one begun in SENSOR (R94, R98). -/
def State.resetSensor (s : State) : State :=
  let lead := s.abandonEvents
  let s := s.abandonRead
  State.startReadIfSensor { s with temp := { s.temp with failures := 0 } } lead

/-- A soft reset leaves a reinitialization in progress running (R10) and ends every other hold. -/
def Hold.afterReset : Hold → Hold
  | .reinit => .reinit
  | .free => .free
  | .update _ => .free
  | .readPixels _ => .free
  | .readGlyph _ => .free

/-- The soft reset (R168), with or without KEEP_TABLES, in every block: pixels (R13), slots and requests
(R128), frame (R136), rails (R146), intake, replies, flags, mask and last refusal (R168), drawing (R50, R73),
tables and banks (R31, R88), temperature (R98). -/
def State.softReset (s : State) (keep : Bool) : State :=
  let s := if s.anyBusy then s.advanceWalks else s
  let s := (slotIds.foldl State.resetSlotPixels s).abandonDraw
  let s := { s with
    intake := ⟨[], s.intake.hold.afterReset⟩
    ev := Events.initial
    comp := Compose.initial s.window
    sched := Sched.initial
    scan := none }
  ((s.resetRails).resetTables keep).resetSensor

/-- A RESET at CS_N rise (R155, R168): ill-formed ones are refused; one whose option is not `option` is the
other row's (log 13). -/
def State.resetRecord (s : State) (option : Nat) (keep : Bool) (body : Bytes) : State :=
  if body.length = 1 ∧ u8 body 0 ≤ 1 ∧ u8 body 0 ≠ option then s
  else s.express .reset body fun s =>
    if body.length ≠ 1 then s.refuse RecordKind.reset.code .length
    else if 1 < u8 body 0 then s.refuse RecordKind.reset.code .field
    else s.softReset keep

/-- RESET (R168): a soft reset without KEEP_TABLES. -/
def execReset (body : Bytes) (s : State) : Outcome State Fault Refusal := .next (s.resetRecord 0 false body)

/-- RESET_KEEP_TABLES (R168): a soft reset with KEEP_TABLES. -/
def execResetKeepTables (body : Bytes) (s : State) : Outcome State Fault Refusal :=
  .next (s.resetRecord 1 true body)

end Sys2Proof.Machine
end

