-- ==== Sys2Proof/Machine/Draw.lean ====
section
/-! DEFINITION. The Composition Engine: setting text (03), fills, copies, highlights and the clip stack (04).
A timed draw record holds its target writes in walk order until DRAW_END makes them (log 4). -/

namespace Sys2Proof.Machine

open Host (Outcome)

/-- Hand a draw record on to the Composition Engine: it waits while a draw record is in progress or a latch
pass runs (R55). -/
def State.withDraw (s : State) (k : RecordKind) (f : Bytes → State) : State :=
  s.withHead k fun body => if s.drawWaits then s else f body

/-! ### FILL and COPY -/

/-- The target writes of a FILL: its tone at every pixel of the rectangle in the clip, in row order (R57, R58). -/
def fillWrites (clip rect : Rect) (tone : Tone) : List (Nat × Tone) :=
  (Rect.inter rect clip).keys.map fun k => (k, tone)

/-- FILL (R57). -/
def execFill (s : State) : Outcome State Fault Refusal :=
  .next (s.withDraw .fill fun body =>
    match parseFill body with
    | .refuse r => s.refuseHead .fill r
    | .ok (rect, tone) => s.pop.setDraw (some (.writing .fill (fillWrites s.comp.clip rect tone))))

/-- The target a COPY reads at a source pixel: 15 outside the station window (R59). -/
def sourceTone (window : Rect) (pixels : List (Nat × PixelRec)) (x y : Int) : Tone :=
  if window.has x y then (pixelAt pixels (pixelKey x.toNat y.toNat)).target else 15

/-- A COPY walks in row order when the destination lies above the source, or on the same rows and not to its
right; otherwise in reverse row order (R60). -/
def CopyRec.rowOrder (c : CopyRec) : Bool :=
  decide (c.dy < c.src.y) || (decide (c.dy = c.src.y) && decide (c.dx ≤ c.src.x))

/-- The destination pixels of a COPY in the clip, in the walk chosen (R60). -/
def CopyRec.walk (c : CopyRec) (clip : Rect) : List Nat :=
  let keys := (Rect.inter ⟨c.dx, c.dy, c.src.w, c.src.h⟩ clip).keys
  if c.rowOrder then keys else keys.reverse

/-- The tone a COPY writes at a destination pixel, from the pixel list it reads (R59). -/
def CopyRec.toneAt (c : CopyRec) (window : Rect) (pixels : List (Nat × PixelRec)) (k : Nat) : Tone :=
  sourceTone window pixels (c.src.x + (keyX k - c.dx)) (c.src.y + (keyY k - c.dy))

/-- The target writes of a COPY: each destination pixel takes the target its source pixel held when the COPY
began (R59). -/
def copyWrites (c : CopyRec) (clip window : Rect) (pixels : List (Nat × PixelRec)) : List (Nat × Tone) :=
  (c.walk clip).map fun k => (k, c.toneAt window pixels k)

/-- COPY (R59, R60). -/
def execCopy (s : State) : Outcome State Fault Refusal :=
  .next (s.withDraw .copy fun body =>
    match parseCopy body with
    | .refuse r => s.refuseHead .copy r
    | .ok c => s.pop.setDraw (some (.writing .copy (copyWrites c s.comp.clip s.window s.store.pixels))))

/-! ### HILITE -/

/-- The body blend: round(b · f / 15) (R63). -/
def darken (b f : Tone) : Tone := Tone.clamp ((b.val * f.val + 7) / 15)

/-- The body walk of a HILITE: each pixel of the union in the clip once, in row order (R63, R67). -/
def bodyWrites (clip : Rect) (rects : List Rect) (fill : Tone) (pixels : List (Nat × PixelRec)) :
    List (Nat × Tone) :=
  (unionKeys clip rects).map fun k => (k, darken (pixelAt pixels k).target fill)

/-- The pixel (x, y) of a rectangle belongs to its edge of thickness `t` (R65). -/
def onEdge (kind : EdgeKind) (t : Nat) (r : Rect) (x y : Int) : Bool :=
  match kind with
  | .none => false
  | .underline => decide (r.y + r.h - t ≤ y)
  | .box => decide (x < r.x + t) || decide (r.x + r.w - t ≤ x) || decide (y < r.y + t) ||
      decide (r.y + r.h - t ≤ y)

/-- The columns an edge pattern writes (R66). -/
def inPattern (p : EdgePattern) (x : Nat) : Bool :=
  match p with
  | .solid => true
  | .dotted => x / 2 % 2 = 0

/-- The edge walk of a HILITE: rectangles in record order, each one's edge pixels in the clip in row order
(R64, R67). -/
def edgeWrites (clip : Rect) (rects : List Rect) (st : Style) : List (Nat × Tone) :=
  rects.flatMap fun r =>
    ((Rect.inter r clip).keys.filter fun k =>
      onEdge st.edgeKind st.thickness r (keyX k) (keyY k) && inPattern st.pattern (keyX k)).map
      fun k => (k, st.edgeTone)

/-- A HILITE gets its style and begins to write: the body, then the edges (R62 to R67). -/
def State.startHilite (s : State) (h : HiliteRec) : State :=
  let st := s.tables.style h.style
  s.setDraw (some (.writing .hilite
    (bodyWrites s.comp.clip h.rects st.fill s.store.pixels ++ edgeWrites s.comp.clip h.rects st)))

/-- HILITE (R62). Its style question is held while a glyph write is in progress (R24, R30). -/
def execHilite (s : State) : Outcome State Fault Refusal :=
  .next (s.withDraw .hilite fun body =>
    match parseHilite body with
    | .refuse r => s.refuseHead .hilite r
    | .ok h =>
      if s.tables.glyphWrite.isSome then s.pop.setDraw (some (.hiliteHeld h)) else s.pop.startHilite h)

/-! ### TEXT -/

/-- An addition to the working pen saturates (R39). -/
def penAdd (pen z : Int) : Int := clampInt (-262144) 262143 (pen + z)

/-- The nearest integer to n / 15 (R44). -/
def round15 (n : Int) : Int := if 0 ≤ n then (n + 7) / 15 else -((-n + 7) / 15)

/-- The coverage blend: b + round((t − b) · c / 15) (R44). -/
def blend (b t : Tone) (c : Nat) : Tone :=
  Tone.clamp ((b.val : Int) + round15 (((t.val : Int) - b.val) * c)).toNat

/-- The left column of a glyph placed from a pen (R43). -/
def leftColumn (pen bearingX : Int) : Int := (pen + 4) / 8 + bearingX

/-- A run in progress: the working pen, the previous drawn code, the pixels with the run's writes so far, the
writes in order, and, for each code that was substituted or missing, how many writes came before its lookup. -/
structure Run where
  pen : Int
  prev : Option Nat
  pixels : List (Nat × PixelRec)
  writes : List (Nat × Tone)
  misses : List Nat
  deriving DecidableEq, Repr

/-- Blend one bitmap value: nothing for coverage 0 or outside the clip (R44, R45). -/
def Run.blendAt (r : Run) (clip : Rect) (ink : Tone) (c : Nat) (x y : Int) : Run :=
  if c = 0 || !clip.has x y then r
  else
    let k := pixelKey x.toNat y.toNat
    let v := blend (pixelAt r.pixels k).target ink c
    { r with pixels := writeTarget r.pixels k v, writes := r.writes ++ [(k, v)] }

/-- Blend a placed glyph's bitmap values in row order (R43, R44, R49). -/
def Run.blendGlyph (r : Run) (tb : Tables) (clip : Rect) (ink : Tone) (e : Entry) (left top : Int) : Run :=
  (List.range (e.width * e.height)).foldl
    (fun r n => r.blendAt clip ink (tb.coverage e n) (left + (n % e.width : Nat)) (top + (n / e.width : Nat))) r

/-- What the lookup of a code finds: the drawn code, its entry, and whether the fallback stood in (R40). -/
def Tables.lookup (tb : Tables) (f : Font) (slot code : Nat) : Option (Nat × Entry × Bool) :=
  match tb.entry slot code with
  | some e => some (code, e, false)
  | none =>
    match f.fallback with
    | none => none
    | some fb => (tb.entry slot fb).map fun e => (fb, e, true)

/-- The kern adjustment before a drawn code (R42). -/
def Run.kern (r : Run) (tb : Tables) (t : TextRec) (code : Nat) : Int :=
  if t.kern then
    match r.prev with
    | none => r.pen
    | some p => ((tb.kernOf t.slot p code).map (penAdd r.pen)).getD r.pen
  else r.pen

/-- One code of a run: lookup, kerning, placement, blend and advance (R40 to R46, R54). -/
def Run.code (tb : Tables) (clip : Rect) (f : Font) (t : TextRec) (r : Run) (code : Nat) : Run :=
  match tb.lookup f t.slot code with
  | none =>
    { r with
      pen := penAdd (penAdd r.pen f.missingAdvance) t.track
      prev := none
      misses := r.misses ++ [r.writes.length] }
  | some (drawn, e, substituted) =>
    let pen := r.kern tb t drawn
    let misses := if substituted then r.misses ++ [r.writes.length] else r.misses
    let r := r.blendGlyph tb clip t.ink e (leftColumn pen e.bearingX) (t.baseline - e.bearingY)
    { r with
      pen := penAdd (penAdd pen e.advance) t.track
      prev := some drawn
      misses := misses }

/-- The whole run of a TEXT from the pen it starts with (R38, R48). -/
def textRun (tb : Tables) (clip : Rect) (pixels : List (Nat × PixelRec)) (f : Font) (t : TextRec) (pen : Int) :
    Run :=
  t.codes.foldl (Run.code tb clip f t) ⟨if t.continued then pen else t.penX, none, pixels, [], []⟩

/-- The first lookup of a TEXT is answered: NO_FONT for an EMPTY slot (check 4 of R35), else the run begins,
with GLYPHMISS set as its lookups go on (R47; log 18). -/
def State.startText (s : State) (t : TextRec) : State :=
  match s.tables.font t.slot with
  | none => (s.setDraw none).refuse RecordKind.text.code .noFont
  | some f =>
    let r := textRun s.tables s.comp.clip s.store.pixels f t s.comp.pen
    (s.setDraw (some (.writing (.text r.pen 0 r.misses) r.writes))).freeMisses

/-- TEXT (R35). Its first lookup is held while a glyph write is in progress (R24, R52). -/
def execText (s : State) : Outcome State Fault Refusal :=
  .next (s.withDraw .text fun body =>
    match parseText body with
    | .refuse r => s.refuseHead .text r
    | .ok t => if s.tables.glyphWrite.isSome then s.pop.setDraw (some (.textHeld t)) else s.pop.startText t)

/-! ### The end of a draw record -/

/-- DRAW_END (R55): the last target write is done, the Composition Engine is free, and a TEXT writes its
final pen into the pen register (R48); the lookups still to come have been made (R47). -/
def execDrawEnd (s : State) : Outcome State Fault Refusal :=
  .next (match s.comp.draw with
    | some (.writing kind writes) =>
      let s := (s.setPixels (writeTargets s.store.pixels writes)).setDraw none
      match kind with
      | .text pen _ misses =>
        ({ s with comp := { s.comp with pen := pen } }).setFlagIf (!misses.isEmpty) .glyphmiss
      | .fill => s
      | .copy => s
      | .hilite => s
    | _ => s)

/-! ### The clip stack -/

/-- CLIPPUSH on the clip state (R69). -/
def Compose.push (c : Compose) (rect : Rect) : Compose :=
  if c.clipStack.length < Config.maxClips then
    { c with clipStack := c.clip :: c.clipStack, clip := Rect.inter c.clip rect }
  else if c.excess = 0 then { c with clip := Rect.none, excess := 1, heldClip := some c.clip }
  else { c with clip := Rect.none, excess := min 255 (c.excess + 1) }

/-- CLIPPUSH (R69). -/
def execClippush (s : State) : Outcome State Fault Refusal :=
  .next (s.withDraw .clippush fun body =>
    match parseClippush body with
    | .refuse r => s.refuseHead .clippush r
    | .ok rect =>
      ({ s.pop with comp := s.comp.push rect }).setFlagIf
        (decide (Config.maxClips ≤ s.comp.clipStack.length)) .clipfault)

/-- CLIPPOP on the clip state (R70). -/
def Compose.popClip (c : Compose) : Compose :=
  if 1 < c.excess then { c with excess := c.excess - 1 }
  else if c.excess = 1 then { c with excess := 0, clip := c.heldClip.getD Rect.none, heldClip := none }
  else
    match c.clipStack with
    | [] => c
    | top :: rest => { c with clip := top, clipStack := rest }

/-- CLIPPOP (R70). -/
def execClippop (s : State) : Outcome State Fault Refusal :=
  .next (s.withDraw .clippop fun body =>
    match parseEmpty body with
    | .refuse r => s.refuseHead .clippop r
    | .ok _ =>
      ({ s.pop with comp := s.comp.popClip }).setFlagIf
        (decide (s.comp.excess = 0) && s.comp.clipStack.isEmpty) .clipfault)

/-- CLIPRESET (R71). -/
def execClipreset (s : State) : Outcome State Fault Refusal :=
  .next (s.withDraw .clipreset fun body =>
    match parseEmpty body with
    | .refuse r => s.refuseHead .clipreset r
    | .ok _ =>
      { s.pop with comp := { s.comp with clip := s.window, clipStack := [], excess := 0, heldClip := none } })

end Sys2Proof.Machine
end

