-- ==== Sys2Proof/Machine/Table.lean ====
section
/-! DEFINITION. The Table Store's records (02): fonts, glyphs, kern lists and styles. -/

namespace Sys2Proof.Machine

open Host (Outcome)

/-- Hand a table record on to the Table Store: it waits while the Table Store is busy (R16). -/
def State.withTable (s : State) (k : RecordKind) (f : Bytes → State) : State :=
  s.withHead k fun body => if s.tableBusy then s else f body

/-- Set a font slot. -/
def Tables.setFont (t : Tables) (n : Nat) (f : Option Font) : Tables :=
  { t with fonts := t.fonts.setIfInBounds n f }

/-- FONTDEF on the tables (R18): a DEFINED slot keeps its kern list and entries. -/
def Tables.fontdef (t : Tables) (d : FontdefRec) : Tables :=
  t.setFont d.slot (some ⟨d.missingAdvance, d.fallback, ((t.font d.slot).map Font.kern).getD []⟩)

/-- FONTDEF (R18). -/
def execFontdef (s : State) : Outcome State Fault Refusal :=
  .next (s.withTable .fontdef fun body =>
    match parseFontdef body with
    | .refuse r => s.refuseHead .fontdef r
    | .ok d => { s.pop with tables := s.tables.fontdef d })

/-- FONTDROP on the tables (R19): entries removed, blocks returned, kern list and header gone. -/
def Tables.fontdrop (t : Tables) (slot : Nat) : Tables :=
  { t.setFont slot none with directory := t.directory.filter fun e => e.1 / 2097152 ≠ slot }

/-- FONTDROP (R19). -/
def execFontdrop (s : State) : Outcome State Fault Refusal :=
  .next (s.withTable .fontdrop fun body =>
    match parseFontdrop body with
    | .refuse r => s.refuseHead .fontdrop r
    | .ok slot => { s.pop with tables := s.tables.fontdrop slot })

/-- A GLYPHPUT's fields (10.4). -/
structure GlyphputRec where
  slot : Nat
  code : Nat
  width : Nat
  height : Nat
  bearingX : Int
  bearingY : Int
  advance : Int
  bitmap : Bytes
  deriving DecidableEq, Repr

/-- The fields of a GLYPHPUT body of at least 12 bytes. -/
def glyphputFields (b : Bytes) : GlyphputRec :=
  ⟨u8 b 0, u24 b 1, u8 b 4, u8 b 5, s8 b 6, s8 b 7, s32 b 8, b.drop 12⟩

/-- The pool blocks available to a GLYPHPUT under a key: the free ones and those of the entry it replaces
(R22). -/
def Tables.available (t : Tables) (slot code : Nat) : Nat :=
  t.freeBlocks + ((t.entry slot code).map fun e => e.blocks.length).getD 0

/-- The checks of R22, in order. -/
def checkGlyphput (t : Tables) (b : Bytes) : Checked GlyphputRec :=
  let g := glyphputFields b
  if b.length < 12 then .refuse .length
  else if 7 < g.slot ∨ Config.maxCode < g.code then .refuse .field
  else if (t.font g.slot).isNone then .refuse .noFont
  else if 80 < g.width ∨ 80 < g.height ∨ g.bearingX < -64 ∨ 63 < g.bearingX ∨ g.bearingY < -80 ∨
      127 < g.bearingY ∨ g.advance < 0 ∨ 4095 < g.advance then .refuse .field
  else if b.length ≠ 12 + bitmapBytes (g.width * g.height) then .refuse .length
  else if (t.entry g.slot g.code).isNone ∧ Config.maxEntries ≤ t.directory.length then .refuse .storeFull
  else if t.available g.slot g.code < blocksNeeded g.width g.height then .refuse .storeFull
  else .ok g

/-- A glyph write ends (R24): the bitmap stands in its blocks and the entry joins the directory. -/
def Tables.commit (t : Tables) (g : GlyphWrite) : Tables :=
  { t with
    glyphWrite := none
    pool := Memory.writeBitmap t.pool g.entry.blocks 0 g.bitmap
    directory := Store.put t.directory (dirKey g.slot g.code) g.entry }

/-- Acceptance of a GLYPHPUT (R23): an old entry is removed, the blocks needed are taken from the free ones,
and the write begins; a glyph that needs no block ends its write at once (R24). -/
def Tables.accept (t : Tables) (g : GlyphputRec) : Tables :=
  let t := { t with directory := Store.drop t.directory (dirKey g.slot g.code) }
  let blocks := takeBlocks Config.poolBlocks 0 (blocksNeeded g.width g.height) t.held
  let w : GlyphWrite := ⟨g.slot, g.code,
    ⟨g.width, g.height, g.bearingX, g.bearingY, g.advance.toNat, blocks⟩,
    clearPadding (g.width * g.height) g.bitmap⟩
  if blocksNeeded g.width g.height = 0 then t.commit w else { t with glyphWrite := some w }

/-- GLYPHPUT (R22, R23). -/
def execGlyphput (s : State) : Outcome State Fault Refusal :=
  .next (s.withTable .glyphput fun body =>
    match checkGlyphput s.tables body with
    | .refuse r => s.refuseHead .glyphput r
    | .ok g => { s.pop with tables := s.tables.accept g })

/-- GLYPH_WRITE_END (R24): the entry joins, and a TEXT or HILITE whose lookup was held is answered from the
tables as the write leaves them (R30). -/
def execGlyphWriteEnd (s : State) : Outcome State Fault Refusal :=
  .next (match s.tables.glyphWrite with
    | none => s
    | some g =>
      let s := { s with tables := s.tables.commit g }
      match s.comp.draw with
      | some (.textHeld t) => s.startText t
      | some (.hiliteHeld h) => s.startHilite h
      | _ => s)

/-- GLYPHDROP (R25). -/
def execGlyphdrop (s : State) : Outcome State Fault Refusal :=
  .next (s.withTable .glyphdrop fun body =>
    match parseGlyphdrop body with
    | .refuse r => s.refuseHead .glyphdrop r
    | .ok (slot, code) =>
      { s.pop with tables := { s.tables with directory := Store.drop s.tables.directory (dirKey slot code) } })

/-- The checks of R27, in order: the slot and the list. -/
def checkKernload (t : Tables) (b : Bytes) : Checked (Nat × List KernPair) :=
  let n := u16 b 1
  let ps := kernPairsAt b 3 n
  if b.length < 3 ∨ b.length ≠ 3 + 7 * n then .refuse .length
  else if 7 < u8 b 0 then .refuse .field
  else if (t.font (u8 b 0)).isNone then .refuse .noFont
  else if Config.maxKern < n then .refuse .storeFull
  else
    match kernWalk none ps with
    | some r => .refuse r
    | none => .ok (u8 b 0, ps)

/-- Replace the kern list of a DEFINED slot (R27). -/
def Tables.setKern (t : Tables) (slot : Nat) (ps : List KernPair) : Tables :=
  t.setFont slot ((t.font slot).map fun f => { f with kern := ps })

/-- KERNLOAD (R27). -/
def execKernload (s : State) : Outcome State Fault Refusal :=
  .next (s.withTable .kernload fun body =>
    match checkKernload s.tables body with
    | .refuse r => s.refuseHead .kernload r
    | .ok (slot, ps) => { s.pop with tables := s.tables.setKern slot ps })

/-- STYLESET (R29). -/
def execStyleset (s : State) : Outcome State Fault Refusal :=
  .next (s.withTable .styleset fun body =>
    match parseStyleset body with
    | .refuse r => s.refuseHead .styleset r
    | .ok (n, st) =>
      { s.pop with tables := { s.tables with styles := s.tables.styles.setIfInBounds n st } })

end Sys2Proof.Machine
end

