-- ==== Sys2Proof/Machine/Temperature.lean ====
section
/-! DEFINITION. The Temperature Unit (06, 6.1 to 6.3): sensor reads, the sample interval and TEMPSET. -/

namespace Sys2Proof.Machine

open Host (Outcome)

/-- TEMPSET's common part (R95): any read in flight is abandoned, the timer stops, the failures are
forgotten, and the source is set. -/
def State.tempset (s : State) (source : Source) : State :=
  let s := s.abandonRead
  { s with temp := { s.temp with source := source, failures := 0 } }

/-- A TEMPSET at the head of the intake queue: ill-formed ones are refused, and `f` acts on one whose source
byte is `source` (R95; log 13). -/
def State.withTempset (s : State) (source : Source) (f : Int → State) : State :=
  s.withHead .tempset fun body =>
    if body.length ≠ 3 then s.refuseHead .tempset .length
    else if 1 < u8 body 0 then s.refuseHead .tempset .field
    else if u8 body 0 ≠ source.code then s
    else f (s16 body 1)

/-- TEMPSET_FIXED (R95): the clamped value becomes the temperature at once and the band is recomputed. -/
def execTempsetFixed (s : State) : Outcome State Fault Refusal :=
  .next (s.withTempset .fixed fun z =>
    let s := s.pop.tempset .fixed
    State.recomputeBand { s with temp := { s.temp with current := clampTemp z } })

/-- TEMPSET_SENSOR (R95): the temperature is held and a read begins with its interval. -/
def execTempsetSensor (s : State) : Outcome State Fault Refusal :=
  .next (s.withTempset .sensor fun _ => (s.pop.tempset .sensor).startRead s.abandonEvents)

/-- SAMPLE_INTERVAL_EXPIRY (R94): in SENSOR and RUN a new read begins, and with it a new interval. No read is
in flight then (R94; log 30). -/
def execSampleIntervalExpiry (s : State) : Outcome State Fault Refusal :=
  .next (if s.temp.timer.isSome ∧ s.temp.readInFlight = none ∧ s.temp.source = .sensor ∧ s.power = .run then
    s.startRead [] else s)

/-- SENSOR_READ_END (R92): both bytes received, the first acknowledged and the second not, and the read ended
with a stop condition; the clamped count, first byte most significant, becomes the temperature, the failure
count is cleared, and the band is recomputed. -/
def execSensorReadEnd (raw : Byte × Byte) (s : State) : Outcome State Fault Refusal :=
  .next (if s.temp.readInFlight.isSome then
    let s := s.endRead [.ack, .nack, .stop]
    State.recomputeBand { s with temp := { s.temp with
      current := clampTemp (s16 [raw.1, raw.2] 0), failures := 0 } }
    else s)

/-- SENSOR_NO_ACK (R93): the address is not acknowledged, and the read fails at once with a stop condition. -/
def execSensorNoAck (s : State) : Outcome State Fault Refusal :=
  .next (if s.temp.readInFlight.isSome then s.failRead [.stop] else s)

/-- SENSOR_READ_TIMEOUT (R93): the 25 ms expire, both lines are released, and the read fails. How many of the data
bytes had been answered by then is free (log 31). -/
def execSensorReadTimeout (s : State) : Outcome State Fault Refusal :=
  .next (if s.temp.readInFlight.isSome then s.useFree.failRead s.cutEvents else s)

end Sys2Proof.Machine
end

