-- ==== Sys2Proof/Machine/Wave.lean ====
section
/-! DEFINITION. The Waveform Bank Unit's records (05): WAVEBEGIN, WAVEPUT and WAVECOMMIT. -/

namespace Sys2Proof.Machine

open Host (Outcome)

/-- The bank a WAVEBEGIN acts on: the one that is not ACTIVE; with none ACTIVE, the LOADING one or bank A
(R80). -/
def State.beginTarget (s : State) : BankId :=
  match s.activeBank with
  | some b => b.other
  | none => (s.bankIn .loading).getD .bankA

/-- WAVEBEGIN (R80, R81): checked first, then it waits while its target is RETIRED with pins; taken, it clears
the target and makes it LOADING with the new header. -/
def execWavebegin (s : State) : Outcome State Fault Refusal :=
  .next (s.withHead .wavebegin fun body =>
    match parseWavebegin body with
    | .refuse r => s.refuseHead .wavebegin r
    | .ok h =>
      let b := s.beginTarget
      if (s.bank b).state = .retired ∧ 0 < s.pins b then s
      else s.pop.setBank b ⟨.loading, h.bounds, h.ceiling, []⟩)

/-- A checked WAVEPUT: mode, band and record. -/
structure WaveputRec where
  mode : Mode
  band : Nat
  record : WaveRec
  deriving DecidableEq, Repr

/-- The budget of R83: frames and records of the bank, the old record under the key not counted. -/
def Bank.fits (b : Bank) (m : Mode) (band f : Nat) : Bool :=
  let old := (b.record m band).map WaveRec.frames
  decide (b.frames - old.getD 0 + f ≤ Config.maxFrames) &&
    decide (b.records.length - (if old.isSome then 1 else 0) + 1 ≤ Config.maxRecords)

/-- The checks of R82 on the LOADING bank, in order. -/
def checkWaveput (bank : Option Bank) (b : Bytes) : Checked WaveputRec :=
  if b.length < 4 then .refuse .length
  else
    match bank with
    | none => .refuse .state
    | some v =>
      match Mode.ofCode (u8 b 0) with
      | none => .refuse .field
      | some m =>
        if v.bounds.length ≤ u8 b 1 then .refuse .field
        else if u16 b 2 < 1 ∨ 60 < u16 b 2 then .refuse .field
        else if b.length ≠ 4 + matrixBytes m * u16 b 2 then .refuse .length
        else if !v.fits m (u8 b 1) (u16 b 2) then .refuse .storeFull
        else .ok ⟨m, u8 b 1, ⟨u16 b 2, b.drop 4⟩⟩

/-- A record joins a bank, replacing the one under its key (R83). -/
def Bank.putRecord (v : Bank) (r : WaveputRec) : Bank :=
  { v with records := Store.put v.records (waveKey r.mode r.band) r.record }

/-- WAVEPUT (R82, R83). -/
def execWaveput (s : State) : Outcome State Fault Refusal :=
  .next (s.withHead .waveput fun body =>
    match checkWaveput ((s.bankIn .loading).map s.bank) body with
    | .refuse r => s.refuseHead .waveput r
    | .ok r =>
      match s.bankIn .loading with
      | none => s
      | some b => s.pop.setBank b ((s.bank b).putRecord r))

/-- A bank in another state. -/
def Bank.withState (v : Bank) (st : BankState) : Bank := { v with state := st }

/-- The commit of a LOADING bank: it becomes ACTIVE and the ACTIVE one RETIRED, and the band is recomputed
(R84). -/
def State.commitBank (s : State) (b : BankId) : State :=
  let s :=
    match s.activeBank with
    | none => s
    | some old => s.setBank old ((s.bank old).withState .retired)
  (s.setBank b ((s.bank b).withState .active)).recomputeBand

/-- WAVECOMMIT (R84). -/
def execWavecommit (s : State) : Outcome State Fault Refusal :=
  .next (s.withHead .wavecommit fun body =>
    match parseEmpty body with
    | .refuse r => s.refuseHead .wavecommit r
    | .ok _ =>
      match s.bankIn .loading with
      | none => s.refuseHead .wavecommit .state
      | some b =>
        if (s.bank b).records.isEmpty then s.refuseHead .wavecommit .emptyBank else s.pop.commitBank b)

end Sys2Proof.Machine
end

