-- ==== Sys2Proof/Machine/Dispatch.lean ====
section
/-! DEFINITION. One arm per command: each a direct call of its meaning. -/

namespace Sys2Proof.Machine

open Host

def exec (i : Instr) (s : State) : Host.Outcome State Fault Refusal :=
  match i with
  | .pinReset => Sys2Proof.Machine.execPinReset s
  | .resetNRelease addr0 addr1 => Sys2Proof.Machine.execResetNRelease addr0 addr1 s
  | .startingEnd => Sys2Proof.Machine.execStartingEnd s
  | .headerDecode counted target kind length => Sys2Proof.Machine.execHeaderDecode counted target kind length s
  | .recordReceived body => Sys2Proof.Machine.execRecordReceived body s
  | .framingError cut => Sys2Proof.Machine.execFramingError cut s
  | .unknownKind => Sys2Proof.Machine.execUnknownKind s
  | .fill => Sys2Proof.Machine.execFill s
  | .text => Sys2Proof.Machine.execText s
  | .hilite => Sys2Proof.Machine.execHilite s
  | .copy => Sys2Proof.Machine.execCopy s
  | .clippush => Sys2Proof.Machine.execClippush s
  | .clippop => Sys2Proof.Machine.execClippop s
  | .clipreset => Sys2Proof.Machine.execClipreset s
  | .drawEnd => Sys2Proof.Machine.execDrawEnd s
  | .fontdef => Sys2Proof.Machine.execFontdef s
  | .fontdrop => Sys2Proof.Machine.execFontdrop s
  | .glyphput => Sys2Proof.Machine.execGlyphput s
  | .glyphWriteEnd => Sys2Proof.Machine.execGlyphWriteEnd s
  | .glyphdrop => Sys2Proof.Machine.execGlyphdrop s
  | .kernload => Sys2Proof.Machine.execKernload s
  | .styleset => Sys2Proof.Machine.execStyleset s
  | .wavebegin => Sys2Proof.Machine.execWavebegin s
  | .waveput => Sys2Proof.Machine.execWaveput s
  | .wavecommit => Sys2Proof.Machine.execWavecommit s
  | .update => Sys2Proof.Machine.execUpdate s
  | .admissionPass => Sys2Proof.Machine.execAdmissionPass s
  | .latchEnd => Sys2Proof.Machine.execLatchEnd s
  | .frameEnd => Sys2Proof.Machine.execFrameEnd s
  | .cancel body => Sys2Proof.Machine.execCancel body s
  | .halt body => Sys2Proof.Machine.execHalt body s
  | .panelset => Sys2Proof.Machine.execPanelset s
  | .reinitEnd => Sys2Proof.Machine.execReinitEnd s
  | .railctlOff => Sys2Proof.Machine.execRailctlOff s
  | .railctlClear => Sys2Proof.Machine.execRailctlClear s
  | .pgoodAsserted => Sys2Proof.Machine.execPgoodAsserted s
  | .pgoodLost => Sys2Proof.Machine.execPgoodLost s
  | .riseTimerExpiry => Sys2Proof.Machine.execRiseTimerExpiry s
  | .holdTimerExpiry => Sys2Proof.Machine.execHoldTimerExpiry s
  | .fallTimerExpiry => Sys2Proof.Machine.execFallTimerExpiry s
  | .tempsetFixed => Sys2Proof.Machine.execTempsetFixed s
  | .tempsetSensor => Sys2Proof.Machine.execTempsetSensor s
  | .sampleIntervalExpiry => Sys2Proof.Machine.execSampleIntervalExpiry s
  | .sensorReadEnd raw => Sys2Proof.Machine.execSensorReadEnd raw s
  | .sensorNoAck => Sys2Proof.Machine.execSensorNoAck s
  | .sensorReadTimeout => Sys2Proof.Machine.execSensorReadTimeout s
  | .evmask => Sys2Proof.Machine.execEvmask s
  | .evclear => Sys2Proof.Machine.execEvclear s
  | .readGlyph => Sys2Proof.Machine.execReadGlyph s
  | .readGlyphEnd => Sys2Proof.Machine.execReadGlyphEnd s
  | .readKern => Sys2Proof.Machine.execReadKern s
  | .readStyle => Sys2Proof.Machine.execReadStyle s
  | .readWave => Sys2Proof.Machine.execReadWave s
  | .readResidue => Sys2Proof.Machine.execReadResidue s
  | .readPixels => Sys2Proof.Machine.execReadPixels s
  | .readPixelsEnd => Sys2Proof.Machine.execReadPixelsEnd s
  | .sleep => Sys2Proof.Machine.execSleep s
  | .sleepDeep => Sys2Proof.Machine.execSleepDeep s
  | .wake body => Sys2Proof.Machine.execWake body s
  | .wakingEnd => Sys2Proof.Machine.execWakingEnd s
  | .reset body => Sys2Proof.Machine.execReset body s
  | .resetKeepTables body => Sys2Proof.Machine.execResetKeepTables body s
  | .fetchlive => Sys2Proof.Machine.execFetchlive s
  | .fetchqueue => Sys2Proof.Machine.execFetchqueue s
  | .resolutionPixelReadsEnd => Sys2Proof.Machine.execResolutionPixelReadsEnd s

end Sys2Proof.Machine
end

