-- ==== Sys2Proof/Safety.lean ====
section
/-! DEFINITION. What a safe run is, in the terms the statements use: the invariants of the machine, and the
shape in which statements speak of a record at the intake head. -/

namespace Sys2Proof.Machine

/-! ### Records at the intake head -/

/-- The Dispatcher can hand on a record of kind `k` with this body; `rest` stands behind it (R158). -/
def Dispatches (s : State) (k : RecordKind) (body : Bytes) (rest : List Record) : Prop :=
  s.power = .run ∧ s.intake.hold = .free ∧ s.intake.queue = ⟨k.code, body⟩ :: rest

/-- `s` once the head record has left the queue. -/
def taken (s : State) (rest : List Record) : State := { s with intake := ⟨rest, .free⟩ }

/-- `s` once the head record has been refused (R160). -/
def refusedAt (s : State) (k : RecordKind) (r : Reason) (rest : List Record) : State :=
  (taken s rest).refuse k.code r

/-- `s` with the transaction over. -/
def received (s : State) : State := { s with link := { s.link with rx := none } }

/-- `s` once a header has been decoded with disposition `d` (R152, R154). -/
def headerTaken (s : State) (target kind : Byte) (n : Nat) (d : Disposition) : State :=
  { s with link := { s.link with rx := some ⟨kind, target, n, !s.power.asleep, d⟩, miso := [] } }

/-- A whole express record of kind `k` with an `n`-byte body is in reception, to be taken at CS_N rise (R155). -/
def Expressed (s : State) (k : RecordKind) (n : Nat) : Prop :=
  ∃ target flagged, s.link.rx = some ⟨k.code, target, n, flagged, .express⟩

/-- No walk over pixels is in progress: no admission pass and no READ of PIXELS. -/
def NoWalk (s : State) : Prop :=
  s.sched.pass = none ∧ ∀ r, s.intake.hold ≠ .readPixels r

/-- A READ of PIXELS in progress in `s` got on as far as the hold `h` says: it read pixels off the front of its
walk, each as it stood after some number of pixels of a latch walk running meanwhile (R15; log 28). Any other hold
stays. -/
def ReadOn (s : State) (h : Hold) : Prop :=
  ((∀ r, s.intake.hold ≠ .readPixels r) → h = s.intake.hold) ∧
  ∀ r, s.intake.hold = .readPixels r → ∃ (read rest : List Nat) (more : Bytes),
    r.todo = read ++ rest ∧ more.length = read.length ∧
    h = .readPixels { r with todo := rest, values := r.values ++ more } ∧
    ∀ j k : Nat, read[j]? = some k → ∃ n, more[j]? = some (fieldCode r.selector ((s.advancePass n).pixel k))

/-- `u` is `s` with the walks in progress got on: the running pass's by some number of pixels, and a READ of PIXELS
by some number of its own (R15, R114, R118). How far a walk has come when an event falls within it is free (log 3);
with no walk in progress nothing changes. -/
def WalkedOn (s u : State) : Prop :=
  (∃ n, u = { s with
    intake := { s.intake with hold := u.intake.hold }
    store := (s.advancePass n).store, sched := (s.advancePass n).sched, freeCount := u.freeCount }) ∧
  ReadOn s u.intake.hold ∧ (NoWalk s → u = s)

/-- Some pixel of the rectangle `r` lies in the window. -/
def meetsWindow (s : State) (r : Rect) : Prop := ∃ x y : Int, r.has x y = true ∧ s.window.has x y = true

/-- Every pixel of a rectangle lies on the page: columns 0..8,191, rows not negative (R39). -/
def Rect.onPage (r : Rect) : Prop := ∀ x y : Int, r.has x y = true → 0 ≤ x ∧ x < 8192 ∧ 0 ≤ y

/-- Every pixel of a rectangle lies in another. -/
def Rect.Inside (a b : Rect) : Prop := ∀ x y : Int, a.has x y = true → b.has x y = true

/-- A list of target writes stands in row order, no pixel twice. -/
def RowOrder (writes : List (Nat × Tone)) : Prop := writes.Pairwise fun a b => a.1 < b.1

/-- A list of target writes falls on exactly the pixels (x, y) that satisfy `p`. -/
def WritesOn (writes : List (Nat × Tone)) (p : Nat → Nat → Prop) : Prop :=
  ∀ k, (∃ tone, (k, tone) ∈ writes) ↔ ∃ x y, x < 8192 ∧ k = pixelKey x y ∧ p x y

/-- The dispatch rows whose kind has one body length, with that length. -/
def fixedLengths : List (Instr × RecordKind × Nat) :=
  [(.fill, .fill, 9), (.copy, .copy, 12), (.clippush, .clippush, 8), (.clippop, .clippop, 0),
   (.clipreset, .clipreset, 0), (.fontdef, .fontdef, 7), (.fontdrop, .fontdrop, 1), (.glyphdrop, .glyphdrop, 4),
   (.styleset, .styleset, 6), (.wavecommit, .wavecommit, 0), (.update, .update, 12), (.panelset, .panelset, 16),
   (.railctlOff, .railctl, 1), (.railctlClear, .railctl, 1), (.tempsetFixed, .tempset, 3),
   (.tempsetSensor, .tempset, 3), (.evmask, .evmask, 2), (.evclear, .evclear, 2), (.sleep, .sleep, 1),
   (.sleepDeep, .sleep, 1)]

/-- The wait that R159 gives a record of kind `k` before its length is checked: a draw record waits while a draw
record is in progress or a latch pass runs (R55), a table record while the Table Store is busy (R16), and a SLEEP
while a draw record is in progress or the Table Store is busy (R148). No other kind of `fixedLengths` waits before
that check (R6, R109, R145). -/
def lengthWaits (k : RecordKind) (s : State) : Prop :=
  (k ∈ [.fill, .copy, .clippush, .clippop, .clipreset] ∧ (s.comp.draw.isSome = true ∨ s.latching = true)) ∨
  (k ∈ [.fontdef, .fontdrop, .glyphdrop, .styleset] ∧ s.tableBusy = true) ∨
  (k = .sleep ∧ (s.comp.draw.isSome = true ∨ s.tableBusy = true))

/-- Two requests' effective rectangles share at least one pixel (R113). -/
def sharesPixel (s : State) (q r : Request) : Prop :=
  ∃ x y : Int, q.rect.has x y = true ∧ r.rect.has x y = true ∧ s.window.has x y = true

/-! ### Outcomes told -/

/-- What telling a list of outcomes, one after another, leaves in the Event and Reply Unit: each is a request's
NOTIFY and its notice (R130). -/
def told (s : State) (outcomes : List (Bool × Notice)) : Events :=
  (outcomes.foldl (fun s o => s.notify o.1 o.2) s).ev

/-- The outcome of a slot that ended, with the fields it recorded (R129). -/
def slotOutcome (sl : Slot) (e : Ending) : Bool × Notice :=
  (sl.notify, ⟨sl.tag, e, some sl.mode, some sl.band, sl.promoted, sl.taken, sl.skipped⟩)

/-- The outcome of a request that ended before it took a slot (R129). -/
def requestOutcome (r : Request) (e : Ending) : Bool × Notice :=
  (r.notify, ⟨r.tag, e, none, none, false, 0, 0⟩)

/-- The outcomes of the slots that a HALT or a fault ends, in ascending order: ABORTED for a RUNNING slot,
CANCELLED for a LATCHING or ARMED one (R123, R126, R127). -/
def cutOutcomes (s : State) : List (Bool × Notice) :=
  slotIds.filterMap fun i => (s.slot i).map fun sl =>
    slotOutcome sl (match sl.phase with
      | .running _ => .aborted
      | .armed => .cancelled
      | .latching => .cancelled)

/-- The state whose slots a HALT or a fault ends: `s` with a latch walk in progress got on by a free number of
pixels (R118; log 3). -/
def atCut (s : State) : State := if s.anyBusy = true then s.advanceWalks else s

/-- How a read that a command abandons ends on the two-wire line: not at all without one in flight, else with the
acknowledge bits of the data bytes received by then and the release of both lines (R93, R94). How many those are is
free, and that the read shows its whole address as sent, however early it ends, is the model's choice (log 31). -/
def CutOff (s : State) (events : List WireEvent) : Prop :=
  (s.temp.readInFlight = none → events = []) ∧
  (s.temp.readInFlight.isSome = true → ∃ n, events = [WireEvent.ack, .nack].take n ++ [.release])

/-- What the entry to FAULT leaves (R3, R112, R123, R127, R136, R144): in `u` the walks it stops have got on. That
an UPDATE whose first pass has not begun no longer holds the Dispatcher is log 10. -/
def faulted (s t : State) : Prop :=
  (let flagged := State.setFlag { s with rails := t.rails } .railfault
    ∃ u, u = atCut flagged ∧ WalkedOn flagged u ∧ (s.anyBusy = false → u = flagged) ∧
      t.ev = told u (cutOutcomes u) ∧ (∀ k, (t.pixel k).goal = (u.pixel k).goal) ∧
      t.intake.hold = (match s.intake.hold with
        | .update _ => .free
        | _ => u.intake.hold)) ∧
  t.rails = { s.rails with state := .fault, rise := none, hold := none, fall := none, pgood := t.rails.pgood } ∧
  t.railEn = false ∧ t.flag .railfault = true ∧ t.scan = none ∧ t.sched.pass = none ∧ (∀ i, t.slot i = none) ∧
  t.sched.requests = (s.sched.requests.map fun r : Request => { r with due := false }) ∧
  (∀ k, (t.pixel k).owner = none ∧ (t.pixel k).target = (s.pixel k).target) ∧
  (∀ k i sl, (s.pixel k).owner = some i → s.slot i = some sl → sl.isRunning = true → (t.pixel k).shown = none) ∧
  (∀ k, (∀ i sl, (s.pixel k).owner = some i → s.slot i = some sl → sl.isRunning = false) →
    (t.pixel k).shown = (s.pixel k).shown) ∧
  t = { s with
    intake := { s.intake with hold := t.intake.hold }
    store := { s.store with pixels := t.store.pixels }
    sched := { s.sched with slots := t.sched.slots, requests := t.sched.requests, pass := none, passDue := false }
    scan := none, rails := t.rails, ev := t.ev, freeCount := t.freeCount }

/-- What a recomputation of the band leaves (R96, R97). -/
def rebanded (s : State) (current : Int) (failures : Nat) (t : State) : Prop :=
  (∀ b, s.activeBank = some b →
    let r := bandOf (s.bank b).bounds (s.bank b).ceiling (current / 16)
    t.temp.band = some r.1 ∧ t.ev = (if r.2 = true then (s.setFlag .temprange).ev else s.ev)) ∧
  (s.activeBank = none → t.temp.band = s.temp.band ∧ t.ev = s.ev) ∧
  t.temp.current = current ∧ t.temp.failures = failures ∧ t.temp.readInFlight = none

/-- A rectangle the wire can carry (R56). -/
def Rect.onWire (r : Rect) : Prop := -32768 ≤ r.x ∧ r.x ≤ 32767 ∧ -32768 ≤ r.y ∧ r.y ≤ 32767 ∧
  r.w ≤ 65535 ∧ r.h ≤ 65535

/-! ### Invariants -/

/-- Every canonical list is canonical (R21), and the residue counts lie in 0..15 (R105). -/
structure StoresCanonical (s : State) : Prop where
  pixels : Store.wf PixelRec.initial s.store.pixels
  pool : Memory.wf s.tables.pool
  directory : Store.sorted s.tables.directory
  residue : Store.wf 0 s.residue
  counts : ∀ e ∈ s.residue, e.2 ≤ 15
  recordsA : Store.sorted s.wave.bankA.records
  recordsB : Store.sorted s.wave.bankB.records

/-- The PANELSET fields are in their ranges (R6). -/
structure PanelLegal (p : Panel) : Prop where
  origin : p.x0 ≤ 6144 ∧ p.x0 % 8 = 0
  width : 64 ≤ p.w ∧ p.w ≤ 2048 ∧ p.w % 8 = 0
  height : 64 ≤ p.h ∧ p.h ≤ 1664
  framePeriod : 8000 ≤ p.framePeriod ∧ p.framePeriod ≤ 40000
  riseLimit : 1 ≤ p.riseLimit ∧ p.riseLimit ≤ 100
  holdTime : p.holdTime ≤ 10000
  fallTime : 1 ≤ p.fallTime ∧ p.fallTime ≤ 100
  sensorAddress : p.sensorAddress < 128
  sampleInterval : 1 ≤ p.sampleInterval ∧ p.sampleInterval ≤ 600
  residueThreshold : 1 ≤ p.residueThreshold ∧ p.residueThreshold ≤ 15

/-- The clip state is legal (R68): clips lie in the window, and the excess count is above 0 only over a full
stack and an empty clip, with the held clip kept. -/
structure ClipLegal (s : State) : Prop where
  clip : s.comp.clip.Inside s.window
  stack : ∀ c ∈ s.comp.clipStack, c.Inside s.window
  held : ∀ c, s.comp.heldClip = some c → c.Inside s.window
  depth : s.comp.clipStack.length ≤ 7
  excess : s.comp.excess ≤ 255
  deep : 0 < s.comp.excess →
    s.comp.clipStack.length = 7 ∧ s.comp.clip.isEmpty = true ∧ s.comp.heldClip.isSome = true
  shallow : s.comp.excess = 0 → s.comp.heldClip = none

/-- Every queue is within its capacity (R111, R156, R161). -/
structure QueuesBounded (s : State) : Prop where
  intake : s.intakeUsed ≤ 16384
  replies : s.ev.replies.length + s.reserved ≤ 16
  requests : s.sched.requests.length ≤ 24

/-- A bank has at most 8 bounds, strictly ascending in −40..+85 with the ceiling not below the last (R78), is
within its budgets, and holds records of at least one frame (R79). -/
def Bank.inBudget (b : Bank) : Prop :=
  b.bounds.length ≤ 8 ∧ b.frames ≤ 1024 ∧ b.records.length ≤ 40 ∧ (∀ e ∈ b.records, 1 ≤ e.2.frames) ∧
    b.bounds.Pairwise (· < ·) ∧ (∀ z ∈ b.bounds, -40 ≤ z ∧ z ≤ b.ceiling) ∧ -40 ≤ b.ceiling ∧ b.ceiling ≤ 85

/-- At most one bank is ACTIVE and at most one is LOADING (R77), each within its budgets (R78, R79), and an EMPTY
one has no header and no record. Pins lie on the ACTIVE and the RETIRED bank alone, and the record a slot pinned is
in its bank with the frame count the slot recorded (R85, R86); a frame index is below it (R121). -/
structure BanksLegal (s : State) : Prop where
  active : ¬ (s.wave.bankA.state = .active ∧ s.wave.bankB.state = .active)
  loading : ¬ (s.wave.bankA.state = .loading ∧ s.wave.bankB.state = .loading)
  budgets : s.wave.bankA.inBudget ∧ s.wave.bankB.inBudget
  empty : ∀ b, (s.bank b).state = .empty → s.bank b = ⟨.empty, [], 0, []⟩
  pins : ∀ i sl, s.slot i = some sl → (s.bank sl.bank).state = .active ∨ (s.bank sl.bank).state = .retired
  pinned : ∀ i sl, s.slot i = some sl →
    ∃ v, (s.bank sl.bank).record sl.mode sl.band = some v ∧ v.frames = sl.frames ∧ 1 ≤ sl.frames
  index : ∀ i sl k, s.slot i = some sl → sl.phase = .running k → k < sl.frames

/-- The number of pixels a slot owns. -/
def State.owned (s : State) (i : Fin 16) : Nat := (s.store.pixels.filter fun e => e.2.owner = some i).length

/-- Owners and slots (R104, R113, R115, R116, R118): the owner of a pixel is a slot that is not FREE; a slot owns
as many pixels as its taken count says, an ARMED or RUNNING one at least one; an owned UNKNOWN pixel is owned by
a CLEAN slot; the LATCHING slot is the one whose latch pass the running pass waits on; a pass that reads pixels
examines a pending request. -/
structure OwnersLegal (s : State) : Prop where
  owners : ∀ e ∈ s.store.pixels, ∀ i, e.2.owner = some i → (s.slot i).isSome = true
  taken : ∀ i sl, s.slot i = some sl → s.owned i = sl.taken
  driving : ∀ i sl, s.slot i = some sl → sl.phase ≠ .latching → 0 < sl.taken
  unknown : ∀ e ∈ s.store.pixels, ∀ i sl, e.2.owner = some i → e.2.shown = none → s.slot i = some sl →
    sl.mode = .clean
  latching : ∀ i sl, s.slot i = some sl → sl.phase = .latching → ∃ todo, s.sched.pass = some (.latching i todo)
  walking : ∀ i todo, s.sched.pass = some (.latching i todo) → ∃ sl, s.slot i = some sl ∧ sl.phase = .latching
  reading : s.sched.pass.isSome = true → s.latching = false → s.examined.isSome = true

/-- The rails, the scanner and the slots agree (R120, R132, R138 to R144). -/
structure RailsLegal (s : State) : Prop where
  running : ∀ i sl, s.slot i = some sl → sl.isRunning = true → s.rails.state = .on ∧ s.scan.isSome = true
  scanning : s.scan.isSome = true →
    s.rails.state = .on ∧ ∃ i sl, s.slot i = some sl ∧ sl.isRunning = true
  armed : ∀ i sl, s.slot i = some sl → sl.isArmed = true →
    s.rails.state ≠ .off ∧ (s.rails.state = .on → s.scan.isSome = true)
  holding : s.rails.hold.isSome = true ↔ s.rails.state = .on ∧ s.anyDriving = false
  rising : s.rails.rise.isSome = true ↔ s.rails.state = .rising
  falling : s.rails.fall.isSome = true ↔ s.rails.state = .falling
  fault : s.rails.state = .fault → s.sched.pass = none ∧ ∀ i, s.slot i = none

/-- The fields of a glyph entry are in their ranges (R20). -/
def Entry.inRange (e : Entry) : Prop :=
  e.width ≤ 80 ∧ e.height ≤ 80 ∧ -64 ≤ e.bearingX ∧ e.bearingX ≤ 63 ∧ -80 ≤ e.bearingY ∧ e.bearingY ≤ 127 ∧
    e.advance ≤ 4095

/-- Each pool block is free or held once; an entry holds the blocks its bitmap needs; the directory is within
its capacity, and no entry belongs to an EMPTY slot (R17, R20, R21). -/
structure PoolLegal (t : Tables) : Prop where
  sorted : Store.sorted t.directory
  once : t.held.Nodup
  inPool : ∀ b ∈ t.held, b < 16384
  sizes : ∀ e ∈ t.directory, e.2.blocks.length = blocksNeeded e.2.width e.2.height
  ranges : ∀ e ∈ t.directory, e.2.inRange
  fonts : ∀ e ∈ t.directory, (t.font (e.1 / 2097152)).isSome = true
  room : t.directory.length + (if t.glyphWrite.isSome then 1 else 0) ≤ 8192
  writing : ∀ g, t.glyphWrite = some g →
    g.entry.blocks.length = blocksNeeded g.entry.width g.entry.height ∧ t.entry g.slot g.code = none ∧
      g.code ≤ Config.maxCode ∧ (t.font g.slot).isSome = true ∧ g.entry.inRange

/-- Font headers, kern lists and styles are in their ranges (R17, R26, R28): a kern list holds at most 512 pairs,
strictly ascending by left code and then right code. -/
structure FontsLegal (t : Tables) : Prop where
  header : ∀ n f, t.font n = some f →
    f.missingAdvance ≤ 4095 ∧ ∀ c, f.fallback = some c → c ≤ 0x10FFFF
  kernRoom : ∀ n f, t.font n = some f → f.kern.length ≤ 512
  kernOrder : ∀ n f, t.font n = some f →
    f.kern.Pairwise fun p q => p.left < q.left ∨ (p.left = q.left ∧ p.right < q.right)
  kernRange : ∀ n f, t.font n = some f →
    ∀ p ∈ f.kern, p.left ≤ 0x10FFFF ∧ p.right ≤ 0x10FFFF ∧ -128 ≤ p.adj ∧ p.adj ≤ 127
  thickness : ∀ st ∈ t.styles.toList, 1 ≤ st.thickness ∧ st.thickness ≤ 4

/-- Outside RUN nothing is in progress but a start-up or a wake (R147, R148, R154): no record waits or is held,
no slot is busy, no request is pending, the rails are OFF or in FAULT, and no sensor read runs. -/
structure Quiet (s : State) : Prop where
  intake : s.intake = ⟨[], .free⟩
  slots : ∀ i, s.slot i = none
  requests : s.sched.requests = [] ∧ s.sched.pass = none
  drawing : s.comp.draw = none ∧ s.tables.glyphWrite = none
  rails : (s.rails.state = .off ∨ s.rails.state = .fault) ∧ s.scan = none
  sensor : s.temp.readInFlight = none ∧ s.temp.timer = none
  link : ∀ rx, s.link.rx = some rx → rx.disp ≠ .reserved ∧ rx.disp ≠ .express

/-- A pass that was triggered can begin: passes are suspended neither by a fault nor by a reinitialization (R112). An
UPDATE that holds the Dispatcher waits for a pass that is triggered, or for the one that runs (R110). -/
structure PassLegal (s : State) : Prop where
  due : s.sched.passDue = true → s.rails.state ≠ .fault ∧ s.intake.hold ≠ .reinit
  waiting : s.intake.hold = .update false → s.sched.passDue = true
  running : s.intake.hold = .update true → s.sched.pass.isSome = true

/-- The Temperature Unit's values are in their ranges (R91), the band is one a header can have (R78), and the
two-wire line shows the read in flight as begun and every other read as ended (R92 to R94). -/
structure TemperatureLegal (s : State) : Prop where
  current : -640 ≤ s.temp.current ∧ s.temp.current ≤ 1360
  failures : s.temp.failures ≤ 255
  band : ∀ b, s.temp.band = some b → b < 8
  reading : ∀ a, s.temp.readInFlight = some a →
    a < 128 ∧ ∃ lead, s.temp.wire = lead ++ [.start, .address a]
  ended : s.temp.readInFlight = none →
    s.temp.wire = [] ∨ ∃ lead e, s.temp.wire = lead ++ [e] ∧ (e = .stop ∨ e = .release)

/-- A pen of eighths (R37). -/
def penRange (z : Int) : Prop := -262144 ≤ z ∧ z ≤ 262143

/-- The pen register is in its range (R37), and so is the pen that a TEXT in progress ends or starts with. -/
structure PenLegal (s : State) : Prop where
  register : penRange s.comp.pen
  ending : ∀ pen made misses todo, s.comp.draw = some (.writing (.text pen made misses) todo) → penRange pen
  starting : ∀ x, s.comp.draw = some (.textHeld x) → x.continued = false → penRange x.penX

/-- The invariants of the machine together. -/
structure Safe (s : State) : Prop where
  stores : StoresCanonical s
  panel : PanelLegal s.store.panel
  clip : ClipLegal s
  queues : QueuesBounded s
  banks : BanksLegal s
  owners : OwnersLegal s
  rails : RailsLegal s
  pool : PoolLegal s.tables
  quiet : s.power ≠ .run → Quiet s
  asserted : s.link.resetAsserted = true → s.power = .starting
  temperature : TemperatureLegal s
  pen : PenLegal s

end Sys2Proof.Machine
end

