-- ==== Sys2Proof/Certificates/Slice0/Obligations.lean ====
section
/-! DEFINITION. The statements for the provers, in the order of the spec's chapters within each group: the
step and the Link Port, drawing, tables, waveforms, updates, panel and rails, temperature, events and reads,
power and resets, frames, and the invariants every step keeps. A record at the intake head is spoken of through
`Dispatches`; `taken` and `refusedAt` are the state once it has left the queue. Log numbers name the rows of
notes/assumptions. -/

open Sys2Proof Sys2Proof.Machine

/-! ### The step, the pins and the Link Port -/

/-- The block takes the command at the front of its queue and runs it on the state with the queue's rest;
every command answers a next state (log 25) and leaves the waiting commands alone (log 21, log 26). On an empty
queue the block idles. The queue is the model's own (log 1): this is its choice, not a rule of the spec. -/
def Obligations.StepRunsFrontCommand : Prop :=
  (∀ (c : Instr) (rest : List Instr) (s : State), s.pending = c :: rest →
    ∃ t, step s = .next t ∧ exec c { s with pending := rest } = .next t ∧ t.pending = rest) ∧
  ∀ s : State, s.pending = [] → step s = .next s

/-- Pin reset and start-up (R147, R169): while RESET_N is asserted the station holds HOLD, releases ATTN, drives
RAIL_EN off and has no transaction; at its release every block has its pin-reset values (R5, R31, R73, R88, R98,
R107, R116, R146) and STARTING begins at the strapped address. The end of STARTING enters RUN with every pixel
record cleared, no flag set, and a sensor read with its interval in SENSOR (R11, R94). How an abandoned sensor read
ends on its line is log 31. -/
def Obligations.PinResetAndStartSetEveryBlock : Prop :=
  (∀ (s : State) (a0 a1 : Bool), ∃ t u cut,
    exec .pinReset s = .next t ∧ exec (.resetNRelease a0 a1) t = .next u ∧ CutOff s cut ∧
    t.link.resetAsserted = true ∧ t.link.rx = none ∧ t.holdLine = true ∧ t.attnLine = false ∧ t.railEn = false ∧
    u.link.address.val = (if a0 then 1 else 0) + (if a1 then 2 else 0) ∧
    u.link.resetAsserted = false ∧ u.link.rx = none ∧ u.power = .starting ∧
    u.intake = ⟨[], .free⟩ ∧ u.ev = ⟨0, 0xFFF, [], none⟩ ∧
    (∀ n, u.tables.font n = none) ∧ u.tables.directory = [] ∧ u.tables.freeBlocks = 16384 ∧
    (∀ n, u.tables.style n = ⟨15, .none, .solid, 0, 1⟩) ∧ u.tables.glyphWrite = none ∧
    u.comp = ⟨0, ⟨0, 0, 2048, 1664⟩, [], 0, none, none⟩ ∧
    u.store.panel = ⟨0, 2048, 1664, 12000, 20, 2000, 10, 0x49, 60, 10⟩ ∧
    (∀ b, u.bank b = ⟨.empty, [], 0, []⟩ ∧ u.pins b = 0) ∧
    u.temp = ⟨.sensor, 400, 0, none, none, none, cut⟩ ∧ (∀ n, u.residueOf n = 0) ∧
    u.sched.requests = [] ∧ (∀ i, u.slot i = none) ∧ u.sched.pass = none ∧ u.scan = none ∧
    u.rails = ⟨.off, none, none, none, s.rails.pgood⟩ ∧ u.pending = s.pending) ∧
  ∀ s : State, s.power = .starting → s.link.resetAsserted = false →
    ∃ t, exec .startingEnd s = .next t ∧
      (∀ k, t.pixel k = ⟨none, 15, 15, none⟩) ∧
      (s.temp.source = .sensor → t.temp = { s.temp with
        readInFlight := some s.store.panel.sensorAddress, timer := some s.store.panel.sampleInterval
        wire := [.start, .address s.store.panel.sensorAddress] }) ∧
      (s.temp.source = .fixed → t.temp = s.temp) ∧
      t = { s with
        power := .run
        store := { s.store with pixels := t.store.pixels }
        temp := t.temp }

/-- Header decode (R152, R154 to R156) with no transaction in progress, the intake bytes used (R156), and the HOLD
line that follows them in RUN (R157). The snapshot of a FETCHLIVE shows a TEXT in
progress and a wake from DEEP as far as they have come, which the spec leaves open (log 6, log 18). That a
broadcast fetch leaves no trace whatever its length is the model's choice (log 12). A transaction whose CS_N fell
while RESET_N was asserted is not taken. -/
def Obligations.HeaderDecodeFollowsPowerState : Prop :=
  (∀ (s : State) (target kind : Byte) (length : BitVec 16),
    exec (.headerDecode false target kind length) s = .next s ∧
    (s.link.resetAsserted = true → exec (.headerDecode true target kind length) s = .next s)) ∧
  (∀ (s : State) (target kind : Byte) (length : BitVec 16),
    s.link.resetAsserted = false → s.link.rx = none →
    let n := length.toNat
    let quiet : State := { s with link := { s.link with miso := [] } }
    let sees : Prop := target.toNat = s.link.address.val ∨ target = 0x0F
    let fetch : Prop := kind = 0x7E ∨ kind = 0x7F
    -- addressed elsewhere, or a broadcast fetch: no trace
    ((¬ sees ∨ (target = 0x0F ∧ fetch)) → exec (.headerDecode true target kind length) s = .next quiet) ∧
    (sees → ¬ (target = 0x0F ∧ fetch) →
      -- a length above 4,096: FRAMING, but not while asleep
      (4096 < n → exec (.headerDecode true target kind length) s =
        .next (if s.power = .sleep ∨ s.power = .deep then quiet else quiet.setFlag .framing)) ∧
      (n ≤ 4096 →
        (kind = 0x7E → let u := s.advanceShown
          exec (.headerDecode true target kind length) s =
            .next (headerTaken u target kind n (.fetchLive u.liveStatus)) ∧
          (s.missesLeft = [] → s.power ≠ .waking true → u = s) ∧
          (s.power ≠ .waking true → ∃ found, s.missesLeft = found ++ u.missesLeft ∧
            (∀ pen made misses todo, s.comp.draw = some (.writing (.text pen made misses) todo) →
              u.comp = { s.comp with
                draw := some (.writing (.text pen (found.getLastD made) u.missesLeft) todo) }) ∧
            u = { s with
              ev := if found = [] then s.ev else (s.setFlag .glyphmiss).ev
              comp := u.comp, freeCount := u.freeCount }) ∧
          (s.power = .waking true → s.missesLeft = [] → u = { s with freeCount := u.freeCount } ∨
            (u.ev = s.ev ∧ (∀ k, u.pixel k = ⟨none, 15, 15, none⟩) ∧ (∀ n, u.tables.font n = none) ∧
              u.tables.directory = [] ∧ u.tables.freeBlocks = 16384 ∧ u.tables.glyphWrite = none ∧
              u.tables.styles = s.tables.styles ∧ u.tables.pool = s.tables.pool ∧
              u.comp = ⟨0, s.window, [], 0, none, none⟩)) ∧
          u = { s with
            ev := { s.ev with flags := u.ev.flags }, store := { s.store with pixels := u.store.pixels }
            tables := u.tables, comp := u.comp, freeCount := u.freeCount }) ∧
        (kind = 0x7F → exec (.headerDecode true target kind length) s = .next (headerTaken s target kind n
          (if s.power = .starting then .overrun else .fetchQueue s.ev.replies.head?))) ∧
        (kind = 0x41 ∨ kind = 0x42 ∨ kind = 0x72 →
          exec (.headerDecode true target kind length) s = .next (headerTaken s target kind n
            (if s.power = .run then .express
             else if s.power = .sleep ∨ s.power = .deep then .silent else .overrun))) ∧
        (kind = 0x71 → exec (.headerDecode true target kind length) s = .next (headerTaken s target kind n
          (if s.power = .starting then .overrun
           else if s.power = .sleep ∨ s.power = .deep then .wakeMatch else .ignored))) ∧
        -- every other kind, unknown codes included
        (¬ (fetch ∨ kind = 0x41 ∨ kind = 0x42 ∨ kind = 0x72 ∨ kind = 0x71) →
          (s.power = .run → 4 + n ≤ s.intakeFree → ∃ t,
            exec (.headerDecode true target kind length) s = .next t ∧
            t = headerTaken s target kind n .reserved ∧ t.intakeUsed = s.intakeUsed + (4 + n)) ∧
          (s.power = .run → s.intakeFree < 4 + n →
            exec (.headerDecode true target kind length) s = .next (quiet.setFlag .overrun)) ∧
          (s.power ≠ .run → exec (.headerDecode true target kind length) s = .next (headerTaken s target kind n
            (if s.power = .sleep ∨ s.power = .deep then .silent else .overrun))))))) ∧
  ∀ s : State,
    s.intakeUsed = (s.intake.queue.map fun r => 4 + r.body.length).sum +
      (match s.link.rx with
        | some rx => if rx.disp = .reserved then 4 + rx.length else 0
        | none => 0) ∧
    s.intakeFree = 16384 - s.intakeUsed ∧
    (s.holdLine = true ↔ s.link.resetAsserted = true ∨ s.power = .starting ∨ (∃ deep, s.power = .waking deep) ∨
      (s.power = .run ∧ 12284 < s.intakeUsed))

/-- The rise of CS_N on a whole record that is queued or discarded (R154, R156, R170). RECORD_RECEIVED: a reserved
record joins the tail in its reserved space; a record discarded in STARTING or WAKING sets OVERRUN; one discarded in
SLEEP or DEEP leaves nothing. The same of a CANCEL, HALT, RESET or WAKE that is not taken, with a WAKE ignored in RUN
and WAKING, and of a FETCHQUEUE discarded in STARTING. Which of the two RESET rows a whole body belongs to is log 13:
an ill-formed one belongs to both. -/
def Obligations.RecordReceivedJoinsTail : Prop :=
  (∀ (s : State) (kind target : Byte) (flagged : Bool) (d : Disposition) (body : Bytes),
    s.link.rx = some ⟨kind, target, body.length, flagged, d⟩ →
    ¬ (kind = 0x41 ∨ kind = 0x42 ∨ kind = 0x71 ∨ kind = 0x72 ∨ kind = 0x7E ∨ kind = 0x7F) →
    (d = .reserved → ∃ t, exec (.recordReceived body) s = .next t ∧
      t = { received s with intake := { s.intake with queue := s.intake.queue ++ [⟨kind, body⟩] } } ∧
      t.intakeUsed = s.intakeUsed) ∧
    (d = .overrun → exec (.recordReceived body) s = .next ((received s).setFlag .overrun)) ∧
    (d = .silent → exec (.recordReceived body) s = .next (received s))) ∧
  (∀ (s : State) (kind target : Byte) (flagged : Bool) (d : Disposition) (body : Bytes) (c : Instr),
    (c, kind) ∈ ([(.cancel body, 0x41), (.halt body, 0x42), (.reset body, 0x72), (.resetKeepTables body, 0x72),
      (.wake body, 0x71)] : List (Instr × Byte)) →
    (c = .reset body → body ≠ [1]) → (c = .resetKeepTables body → body ≠ [0]) →
    s.link.rx = some ⟨kind, target, body.length, flagged, d⟩ →
    (d = .overrun → exec c s = .next ((received s).setFlag .overrun)) ∧
    (d = .silent ∨ d = .ignored → exec c s = .next (received s))) ∧
  ∀ (s : State) (target : Byte) (n : Nat) (flagged : Bool), s.link.rx = some ⟨0x7F, target, n, flagged, .overrun⟩ →
    exec .fetchqueue s = .next ((received s).setFlag .overrun)

/-- FRAMING_ERROR (R153, R154): the record is discarded and its reservation freed, no reply is removed and no
refusal noted; FRAMING is set where the power state lets it; MISO carried the bytes of a fetch that were clocked by
then, as they were sent, and nothing in any other record. Before the header is decoded, the first byte says who
judges. A transaction whose CS_N fell during pin reset leaves no trace (R152). A record ignored at header decode, or
discarded there with OVERRUN, is not judged again at the rise of CS_N: nothing changes (R156). That a record whose
header was decoded in RUN sets no FRAMING once the station sleeps is the model's choice (log 11). -/
def Obligations.FramingErrorDiscardsRecord : Prop :=
  (∀ (s : State) (rx : Rx) (clocked : Nat), s.link.rx = some rx →
    ∃ t, exec (.framingError (.afterHeader clocked)) s = .next t ∧
      t = { s with link := { s.link with rx := none, miso := t.link.miso }, ev := t.ev } ∧
      t.ev = (if rx.flagged = true ∧ s.power ≠ .sleep ∧ s.power ≠ .deep then (s.setFlag .framing).ev else s.ev) ∧
      (rx.disp = .reserved → t.intakeUsed + (4 + rx.length) = s.intakeUsed) ∧
      let sent : Bytes → Prop := fun served =>
        t.link.miso.length = clocked ∧ ∀ i, i < clocked → t.link.miso[i]? = some (served.getD i 0)
      (∀ snapshot, rx.disp = .fetchLive snapshot → sent snapshot) ∧
      (∀ r : Reply, rx.disp = .fetchQueue (some r) → sent r.bytes) ∧
      (rx.disp = .fetchQueue none → sent [0x00, 0x00, 0x00, 0x04]) ∧
      ((∀ snapshot, rx.disp ≠ .fetchLive snapshot) → (∀ o, rx.disp ≠ .fetchQueue o) → t.link.miso = [])) ∧
  (∀ (s : State) (first : Option Byte), s.link.resetAsserted = false → s.link.rx = none →
    ∃ t, exec (.framingError (.beforeHeader true first)) s = .next t ∧
      t = { s with link := { s.link with miso := [] }, ev := t.ev } ∧
      t.ev = (if (∀ b, first = some b → b.toNat = s.link.address.val ∨ b = 0x0F) ∧
          s.power ≠ .sleep ∧ s.power ≠ .deep then (s.setFlag .framing).ev else s.ev)) ∧
  (∀ (s : State) (first : Option Byte), exec (.framingError (.beforeHeader false first)) s = .next s) ∧
  ∀ (s : State) (clocked : Nat), s.link.rx = none → exec (.framingError (.afterHeader clocked)) s = .next s

/-- Refusals at the intake head (R158, R160): a code outside the kind table is refused UNKNOWN_KIND whatever the
blocks are doing, and a body of the wrong length is refused LENGTH. Only the wait that R159 gives the record's own
kind comes before that check: a draw record's (R55), a table record's (R16), SLEEP's (R148); every other kind here is
refused whatever is in progress (R6, R109, R145). The record leaves the queue, REFUSED and the last refusal are
set, and nothing else changes. -/
def Obligations.HeadRefusalsLeaveTheQueue : Prop :=
  (∀ (s : State) (r : Record) (rest : List Record), s.power = .run → s.intake.hold = .free →
    s.intake.queue = r :: rest → (∀ k : RecordKind, k.code ≠ r.kind) →
    exec .unknownKind s = .next ((taken s rest).refuse r.kind .unknownKind)) ∧
  ∀ e ∈ fixedLengths, ∀ (s : State) (body : Bytes) (rest : List Record),
    Dispatches s e.2.1 body rest → ¬ lengthWaits e.2.1 s → body.length ≠ e.2.2 →
    exec e.1 s = .next (refusedAt s e.2.1 .length rest)

/-- The waits of R159: a head record whose owner cannot take it yet changes nothing. A PANELSET also waits for an
admission pass that runs (R7; log 9) or was triggered before it came to the head (R112; log 20). -/
def Obligations.WaitingHeadsStay : Prop :=
  ∀ (s : State) (body : Bytes) (rest : List Record),
    (∀ e ∈ ([(.fill, .fill), (.text, .text), (.hilite, .hilite), (.copy, .copy), (.clippush, .clippush),
        (.clippop, .clippop), (.clipreset, .clipreset)] : List (Instr × RecordKind)),
      Dispatches s e.2 body rest → (s.comp.draw.isSome = true ∨ s.latching = true) → exec e.1 s = .next s) ∧
    (∀ e ∈ ([(.fontdef, .fontdef), (.fontdrop, .fontdrop), (.glyphput, .glyphput), (.glyphdrop, .glyphdrop),
        (.kernload, .kernload), (.styleset, .styleset)] : List (Instr × RecordKind)),
      Dispatches s e.2 body rest → s.tableBusy = true → exec e.1 s = .next s) ∧
    (Dispatches s .read body rest → s.tableBusy = true →
      (body.length = 5 → u8 body 0 = 0 → exec .readGlyph s = .next s) ∧
      (body.length = 4 → u8 body 0 = 1 → exec .readKern s = .next s) ∧
      (body.length = 1 → u8 body 0 = 2 → exec .readStyle s = .next s)) ∧
    (Dispatches s .read body rest → s.comp.draw.isSome = true → body.length = 10 → u8 body 0 = 5 →
      exec .readPixels s = .next s) ∧
    (∀ u, Dispatches s .update body rest → parseUpdate body = .ok u → meetsWindow s u.rect →
      24 ≤ s.sched.requests.length → exec .update s = .next s) ∧
    (∀ h, Dispatches s .wavebegin body rest → parseWavebegin body = .ok h →
      (s.bank s.beginTarget).state = .retired → 0 < s.pins s.beginTarget → exec .wavebegin s = .next s) ∧
    (∀ p, Dispatches s .panelset body rest → parsePanelset body = .ok p →
      (s.anyBusy = true ∨ s.comp.draw.isSome = true ∨ s.sched.pass.isSome = true ∨ s.sched.passDue = true) →
      exec .panelset s = .next s) ∧
    (Dispatches s .railctl body rest → body.length = 1 → u8 body 0 = 0 → s.anyBusy = true →
      exec .railctlOff s = .next s) ∧
    (Dispatches s .sleep body rest → (s.comp.draw.isSome = true ∨ s.tableBusy = true) →
      exec .sleep s = .next s ∧ exec .sleepDeep s = .next s)

/-! ### Drawing -/

/-- FILL (R57, R58): a body of another length is refused; an accepted FILL holds its target writes in row order, on
every pixel of the rectangle ∩ clip, and at DRAW_END it has written its tone there, and nothing else. That the
writes all land at DRAW_END is the model's choice (log 4). -/
def Obligations.FillPaintsRectangle : Prop :=
  ∀ (s : State) (body : Bytes) (rest : List Record),
    Dispatches s .fill body rest → s.drawWaits = false →
    (body.length ≠ 9 → exec .fill s = .next (refusedAt s .fill .length rest)) ∧
    (body.length = 9 → s.comp.clip.onPage →
      let writes := fillWrites s.comp.clip (rectAt body 0) (Tone.clamp (u8 body 8))
      RowOrder writes ∧
      WritesOn writes (fun x y => (rectAt body 0).has x y = true ∧ s.comp.clip.has x y = true) ∧
      ∃ t u, exec .fill s = .next t ∧
        t = { taken s rest with comp := { s.comp with draw := some (.writing .fill writes) } } ∧
        exec .drawEnd t = .next u ∧
        (∀ x y : Nat, x < 8192 → u.pixel (pixelKey x y) =
          if (rectAt body 0).has x y = true ∧ s.comp.clip.has x y = true then
            { s.pixel (pixelKey x y) with target := Tone.clamp (u8 body 8) }
          else s.pixel (pixelKey x y)) ∧
        u = { taken s rest with store := { s.store with pixels := u.store.pixels } })

/-- COPY (R59, R60): each destination pixel in the clip takes the target that its source pixel held when the COPY
began, 15 for a source pixel outside the window; nothing else changes. An accepted COPY holds its target writes in
row order when its destination lies above its source, or on the same rows and not to its right, and else in the
reverse of it. That the writes all land at DRAW_END is the
model's choice (log 4). -/
def Obligations.CopyTakesOldTargets : Prop :=
  ∀ (s : State) (body : Bytes) (rest : List Record),
    Dispatches s .copy body rest → s.drawWaits = false →
    (body.length ≠ 12 → exec .copy s = .next (refusedAt s .copy .length rest)) ∧
    (body.length = 12 → s.comp.clip.onPage →
      let src := rectAt body 0
      let dx := s16 body 8
      let dy := s16 body 10
      let writes := copyWrites ⟨src, dx, dy⟩ s.comp.clip s.window s.store.pixels
      let first : Prop := dy < src.y ∨ (dy = src.y ∧ dx ≤ src.x)
      (first → RowOrder writes) ∧ (¬ first → RowOrder writes.reverse) ∧
      WritesOn writes (fun x y => dx ≤ x ∧ (x : Int) < dx + src.w ∧ dy ≤ y ∧ (y : Int) < dy + src.h ∧
        s.comp.clip.has x y = true) ∧
      ∃ t u, exec .copy s = .next t ∧
        t = { taken s rest with comp := { s.comp with draw := some (.writing .copy writes) } } ∧
        exec .drawEnd t = .next u ∧
        (∀ x y : Nat, x < 8192 → u.pixel (pixelKey x y) =
          let sx : Int := src.x + ((x : Int) - dx)
          let sy : Int := src.y + ((y : Int) - dy)
          let old : Tone := if s.window.has sx sy = true then (s.pixel (pixelKey sx.toNat sy.toNat)).target else 15
          if dx ≤ x ∧ (x : Int) < dx + src.w ∧ dy ≤ y ∧ (y : Int) < dy + src.h ∧ s.comp.clip.has x y = true then
            { s.pixel (pixelKey x y) with target := old }
          else s.pixel (pixelKey x y)) ∧
        u = { taken s rest with store := { s.store with pixels := u.store.pixels } })

/-- The walk of R60: reading each source pixel from the page as the COPY leaves it so far, in the order R60
chooses, writes what R59 asks, however source and destination overlap. -/
def Obligations.CopyInPlaceWalkAgrees : Prop :=
  ∀ (c : CopyRec) (clip window : Rect) (pixels : List (Nat × PixelRec)),
    clip.onPage → window.onPage →
    (c.walk clip).foldl (fun m k => writeTarget m k (c.toneAt window m k)) pixels =
      writeTargets pixels (copyWrites c clip window pixels)

/-- HILITE (R62 to R67): the checks of R62; the body darkens every pixel of the union in the clip once, then the
edge pixels in the clip take the edge tone; shown, goal and owner stay. An accepted HILITE holds its target writes
in the order of R67: the body in row order, then the rectangles in record order, the edge pixels of each in row
order. That the writes all land at DRAW_END is the model's choice (log 4). -/
def Obligations.HilitePaintsBodyThenEdges : Prop :=
  ∀ (s : State) (body : Bytes) (rest : List Record),
    Dispatches s .hilite body rest → s.drawWaits = false →
    let n := u8 body 1
    let rects := (List.range n).map fun j => rectAt body (2 + 8 * j)
    let st := s.tables.style (u8 body 0)
    (body.length < 2 ∨ n = 0 ∨ 32 < n ∨ body.length ≠ 2 + 8 * n →
      exec .hilite s = .next (refusedAt s .hilite .length rest)) ∧
    (2 ≤ body.length → 1 ≤ n → n ≤ 32 → body.length = 2 + 8 * n →
      (15 < u8 body 0 → exec .hilite s = .next (refusedAt s .hilite .field rest)) ∧
      (u8 body 0 ≤ 15 → s.tables.glyphWrite.isSome = true → ∃ t, exec .hilite s = .next t ∧
        t = { taken s rest with comp := { s.comp with draw := some (.hiliteHeld ⟨u8 body 0, rects⟩) } }) ∧
      (u8 body 0 ≤ 15 → s.tables.glyphWrite = none → s.comp.clip.onPage →
        let k : Int := st.thickness
        let edge : Rect → Nat → Nat → Prop := fun r x y => r.has x y = true ∧
          ((st.edgeKind = .underline ∧ r.y + r.h - k ≤ y) ∨
            (st.edgeKind = .box ∧ (x < r.x + k ∨ r.x + r.w - k ≤ x ∨ y < r.y + k ∨ r.y + r.h - k ≤ y))) ∧
          (st.pattern = .solid ∨ x / 2 % 2 = 0)
        let bodyPart := bodyWrites s.comp.clip rects st.fill s.store.pixels
        let edgePart := edgeWrites s.comp.clip rects st
        RowOrder bodyPart ∧
        WritesOn bodyPart (fun x y => (∃ r ∈ rects, r.has x y = true) ∧ s.comp.clip.has x y = true) ∧
        edgePart = rects.flatMap (fun r => edgeWrites s.comp.clip [r] st) ∧
        (∀ r, RowOrder (edgeWrites s.comp.clip [r] st) ∧
          WritesOn (edgeWrites s.comp.clip [r] st) (fun x y => edge r x y ∧ s.comp.clip.has x y = true)) ∧
        ∃ t u, exec .hilite s = .next t ∧
          t = { taken s rest with comp := { s.comp with
            draw := some (.writing .hilite (bodyPart ++ edgePart)) } } ∧
          t.tableBusy = true ∧ exec .drawEnd t = .next u ∧
          (∀ x y : Nat, x < 8192 → u.pixel (pixelKey x y) =
            let p := s.pixel (pixelKey x y)
            let ground := if rects.any (fun r => r.has x y) = true then
              Tone.clamp ((p.target.val * st.fill.val + 7) / 15) else p.target
            if s.comp.clip.has x y = false then p
            else if ∃ r ∈ rects, edge r x y then { p with target := st.edgeTone }
            else { p with target := ground }) ∧
          u = { taken s rest with store := { s.store with pixels := u.store.pixels } }))

/-- TEXT as a draw record (R35 to R38, R47, R48): checks 1 to 4 in order; then its fields, clamped, run, the codes in
record order from the pen x or, for CONTINUE, from the pen register, with no previous drawn glyph (R38, R42), with the
pen register kept and the Table Store busy, and at DRAW_END the run's targets are written, its final pen is in the
register, and GLYPHMISS has been set if a code was substituted or missing. A held lookup writes nothing. That the
writes all land at DRAW_END is log 4; which lookups have been made before then is free (log 18), and `found` are
those. DRAW_END of any draw record in progress, in whatever state it then finds: each pixel takes the tone of the last
write to it, its shown, goal and owner as they then stand (R3, R49). -/
def Obligations.TextRunsAndSetsPen : Prop :=
  (∀ (s : State) (kind : DrawKind) (todo : List (Nat × Tone)), s.comp.draw = some (.writing kind todo) →
    ∃ u, exec .drawEnd s = .next u ∧
      (∀ k, u.pixel k = match (todo.filter fun w => w.1 = k).getLast? with
        | some w => { s.pixel k with target := w.2 }
        | none => s.pixel k) ∧
      u = { s with
        comp := { s.comp with
          draw := none
          pen := match kind with
            | .text pen _ _ => pen
            | _ => s.comp.pen }
        store := { s.store with pixels := u.store.pixels }
        ev := if s.missesLeft = [] then s.ev else (s.setFlag .glyphmiss).ev }) ∧
  ∀ (s : State) (body : Bytes) (rest : List Record), Dispatches s .text body rest → s.drawWaits = false →
    let n := u8 body 14
    let codes := (List.range n).map fun j => u24 body (15 + 3 * j)
    let whole : Prop := 15 ≤ body.length ∧ 1 ≤ n ∧ n ≤ 250 ∧ body.length = 15 + 3 * n
    let legal : Prop := u8 body 0 ≤ 7 ∧ u8 body 1 ≤ 1 ∧ u8 body 9 ≤ 1 ∧ -256 ≤ s16 body 6 ∧ s16 body 6 ≤ 2047 ∧
      (u8 body 1 = 0 → -8192 ≤ s32 body 2 ∧ s32 body 2 ≤ 65535) ∧ ∀ c ∈ codes, c ≤ 0x10FFFF
    let x : TextRec := ⟨u8 body 0, decide (u8 body 1 = 1), s32 body 2, s16 body 6, Tone.clamp (u8 body 8),
      decide (u8 body 9 = 1), max (-64) (min 63 (s32 body 10)), codes⟩
    (¬ whole → exec .text s = .next (refusedAt s .text .length rest)) ∧
    (whole → ¬ legal → exec .text s = .next (refusedAt s .text .field rest)) ∧
    (whole → legal →
      (s.tables.glyphWrite.isSome = true → ∃ t, exec .text s = .next t ∧
        t = { taken s rest with comp := { s.comp with draw := some (.textHeld x) } }) ∧
      (s.tables.glyphWrite = none → s.tables.font x.slot = none →
        exec .text s = .next (refusedAt s .text .noFont rest)) ∧
      (∀ f, s.tables.glyphWrite = none → s.tables.font x.slot = some f →
        let start : Run := ⟨if u8 body 1 = 1 then s.comp.pen else s32 body 2, none, s.store.pixels, [], []⟩
        let r := codes.foldl (Run.code s.tables s.comp.clip f x) start
        ∃ t u found, exec .text s = .next t ∧ r.misses = found ++ t.missesLeft ∧
          t = { taken s rest with
            comp := { s.comp with
              draw := some (.writing (.text r.pen (found.getLastD 0) t.missesLeft) r.writes) }
            ev := if found = [] then s.ev else (s.setFlag .glyphmiss).ev
            freeCount := t.freeCount } ∧
          t.tableBusy = true ∧ exec .drawEnd t = .next u ∧
          u = { taken s rest with
            comp := { s.comp with pen := r.pen }
            store := { s.store with pixels := r.pixels }
            ev := if r.misses = [] then s.ev else (s.setFlag .glyphmiss).ev
            freeCount := u.freeCount }))

/-- One code of a run, by the table of R54: lookup, fallback and miss (R40), kerning (R42), the placement of the
drawn glyph from the kerned pen, its bearings and the baseline (R43), the saturating additions (R39), and the
previous drawn glyph. A substituted or missing code notes how many writes came before its lookup (R47). -/
def Obligations.TextCodeFollowsTable : Prop :=
  ∀ (tb : Tables) (clip : Rect) (f : Font) (x : TextRec) (r : Run) (code : Nat),
    let sat : Int → Int := fun z => max (-262144) (min 262143 z)
    let t := Run.code tb clip f x r code
    let kerned : Nat → Int := fun drawn =>
      match x.kern, r.prev with
      | true, some p =>
        match tb.kernOf x.slot p drawn with
        | some adj => sat (r.pen + adj)
        | none => r.pen
      | _, _ => r.pen
    let drawnAs : Nat → Entry → Prop := fun drawn e =>
      let placed := r.blendGlyph tb clip x.ink e ((kerned drawn + 4) / 8 + e.bearingX) (x.baseline - e.bearingY)
      t.pixels = placed.pixels ∧ t.writes = placed.writes ∧
        t.pen = sat (sat (kerned drawn + e.advance) + x.track) ∧ t.prev = some drawn
    (∀ e, tb.entry x.slot code = some e → drawnAs code e ∧ t.misses = r.misses) ∧
    (∀ fb e, tb.entry x.slot code = none → f.fallback = some fb → tb.entry x.slot fb = some e →
      drawnAs fb e ∧ t.misses = r.misses ++ [r.writes.length]) ∧
    (tb.entry x.slot code = none → (∀ fb, f.fallback = some fb → tb.entry x.slot fb = none) →
      t.pen = sat (sat (r.pen + f.missingAdvance) + x.track) ∧ t.prev = none ∧
        t.misses = r.misses ++ [r.writes.length] ∧ t.pixels = r.pixels ∧ t.writes = r.writes)

/-- A placed glyph (R43 to R45, R49): every pixel of its bitmap in the clip with coverage above 0 is blended once,
and no other pixel changes; its target writes follow those made before it, in row order; the left column; and the
blend itself, from the old tone at coverage 0 to the ink at 15, rounded to the nearest between. -/
def Obligations.GlyphBlendsCoverage : Prop :=
  (∀ (tb : Tables) (clip : Rect) (ink : Tone) (e : Entry) (left top : Int) (r : Run) (x y : Nat),
    clip.onPage → x < 8192 →
    let old := pixelAt r.pixels (pixelKey x y)
    let c := tb.coverage e (((y : Int) - top).toNat * e.width + ((x : Int) - left).toNat)
    pixelAt (r.blendGlyph tb clip ink e left top).pixels (pixelKey x y) =
      if left ≤ x ∧ (x : Int) < left + e.width ∧ top ≤ y ∧ (y : Int) < top + e.height ∧
          clip.has x y = true ∧ 0 < c then { old with target := blend old.target ink c }
      else old) ∧
  (∀ (tb : Tables) (clip : Rect) (ink : Tone) (e : Entry) (left top : Int) (r : Run), clip.onPage →
    ∃ writes, (r.blendGlyph tb clip ink e left top).writes = r.writes ++ writes ∧
      (r.blendGlyph tb clip ink e left top).pixels = writeTargets r.pixels writes ∧
      RowOrder writes ∧
      WritesOn writes (fun x y => left ≤ x ∧ (x : Int) < left + e.width ∧ top ≤ y ∧ (y : Int) < top + e.height ∧
        clip.has x y = true ∧
        0 < tb.coverage e (((y : Int) - top).toNat * e.width + ((x : Int) - left).toNat))) ∧
  (∀ pen bearing : Int, 8 * (leftColumn pen bearing - bearing) ≤ pen + 4 ∧
    pen + 4 < 8 * (leftColumn pen bearing - bearing) + 8) ∧
  ∀ (b t : Tone) (c : Nat), c ≤ 15 →
    2 * ((15 : Int) * ((blend b t c).val - b.val) - ((t.val : Int) - b.val) * c).natAbs < 15

/-- CLIPPUSH (R69) and CLIPPOP (R70), row by row of their tables, and CLIPRESET (R71). -/
def Obligations.ClipRecordsFollowTables : Prop :=
  (∀ (s : State) (body : Bytes) (rest : List Record),
    Dispatches s .clippush body rest → s.drawWaits = false →
    (body.length ≠ 8 → exec .clippush s = .next (refusedAt s .clippush .length rest)) ∧
    (body.length = 8 → ∃ t, exec .clippush s = .next t ∧
      t = { taken s rest with comp := t.comp, ev := t.ev } ∧ t.comp.pen = s.comp.pen ∧ t.comp.draw = none ∧
      (s.comp.clipStack.length < 7 → s.comp.excess = 0 →
        (∀ x y : Int, t.comp.clip.has x y = (s.comp.clip.has x y && (rectAt body 0).has x y)) ∧
        t.comp.clipStack = s.comp.clip :: s.comp.clipStack ∧ t.comp.excess = 0 ∧
        t.comp.heldClip = s.comp.heldClip ∧ t.ev = s.ev) ∧
      (s.comp.clipStack.length = 7 → t.comp.clipStack = s.comp.clipStack ∧ t.comp.clip.isEmpty = true ∧
        t.comp.excess = min 255 (s.comp.excess + 1) ∧
        t.comp.heldClip = (if s.comp.excess = 0 then some s.comp.clip else s.comp.heldClip) ∧
        t.ev = (s.setFlag .clipfault).ev))) ∧
  (∀ (s : State) (body : Bytes) (rest : List Record),
    Dispatches s .clippop body rest → s.drawWaits = false →
    (body.length ≠ 0 → exec .clippop s = .next (refusedAt s .clippop .length rest)) ∧
    (body.length = 0 → ∃ t, exec .clippop s = .next t ∧
      t = { taken s rest with comp := t.comp, ev := t.ev } ∧
      (2 ≤ s.comp.excess → t.comp = { s.comp with excess := s.comp.excess - 1 } ∧ t.ev = s.ev) ∧
      (∀ c, s.comp.excess = 1 → s.comp.heldClip = some c →
        t.comp = { s.comp with excess := 0, clip := c, heldClip := none } ∧ t.ev = s.ev) ∧
      (∀ c cs, s.comp.excess = 0 → s.comp.clipStack = c :: cs →
        t.comp = { s.comp with clip := c, clipStack := cs } ∧ t.ev = s.ev) ∧
      (s.comp.excess = 0 → s.comp.clipStack = [] → t.comp = s.comp ∧ t.ev = (s.setFlag .clipfault).ev))) ∧
  ∀ (s : State) (body : Bytes) (rest : List Record),
    Dispatches s .clipreset body rest → s.drawWaits = false →
    (body.length ≠ 0 → exec .clipreset s = .next (refusedAt s .clipreset .length rest)) ∧
    (body.length = 0 → exec .clipreset s = .next { taken s rest with
      comp := ⟨s.comp.pen, s.window, [], 0, none, none⟩ })

/-! ### The Table Store -/

/-- FONTDEF (R18): the checks, then the header of the slot; a kern list, the entries and every other slot stay. -/
def Obligations.FontdefDefinesSlot : Prop :=
  ∀ (s : State) (body : Bytes) (rest : List Record),
    Dispatches s .fontdef body rest → s.tableBusy = false →
    (body.length ≠ 7 → exec .fontdef s = .next (refusedAt s .fontdef .length rest)) ∧
    (body.length = 7 →
      let bad : Prop := 7 < u8 body 0 ∨ 4095 < u16 body 1 ∨ 1 < u8 body 3 ∨
        (u8 body 3 = 1 ∧ 0x10FFFF < u24 body 4)
      (bad → exec .fontdef s = .next (refusedAt s .fontdef .field rest)) ∧
      (¬ bad → ∃ t, exec .fontdef s = .next t ∧
        t.tables.font (u8 body 0) = some ⟨u16 body 1, if u8 body 3 = 1 then some (u24 body 4) else none,
          match s.tables.font (u8 body 0) with
          | some f => f.kern
          | none => []⟩ ∧
        (∀ n, n ≠ u8 body 0 → t.tables.font n = s.tables.font n) ∧
        t = { taken s rest with tables := { s.tables with fonts := t.tables.fonts } }))

/-- FONTDROP (R19) and GLYPHDROP (R25): the entries go, their blocks return to the free blocks, and no pool byte
and no other entry changes; a FONTDROP empties the slot as well. -/
def Obligations.DropsReturnBlocks : Prop :=
  (∀ (s : State) (body : Bytes) (rest : List Record),
    Dispatches s .fontdrop body rest → s.tableBusy = false → PoolLegal s.tables →
    (body.length ≠ 1 → exec .fontdrop s = .next (refusedAt s .fontdrop .length rest)) ∧
    (body.length = 1 → 7 < u8 body 0 → exec .fontdrop s = .next (refusedAt s .fontdrop .field rest)) ∧
    (body.length = 1 → u8 body 0 ≤ 7 → ∃ t, exec .fontdrop s = .next t ∧
      t.tables.font (u8 body 0) = none ∧ (s.tables.font (u8 body 0) = none → t.tables = s.tables) ∧
      (∀ n, n ≠ u8 body 0 → t.tables.font n = s.tables.font n) ∧
      (∀ slot code, code ≤ 0x10FFFF → t.tables.entry slot code =
        if slot = u8 body 0 then none else s.tables.entry slot code) ∧
      t.tables.freeBlocks = s.tables.freeBlocks +
        ((s.tables.directory.filter fun e => e.1 / 2097152 = u8 body 0).map fun e => e.2.blocks.length).sum ∧
      t = { taken s rest with
        tables := { s.tables with fonts := t.tables.fonts, directory := t.tables.directory } })) ∧
  ∀ (s : State) (body : Bytes) (rest : List Record),
    Dispatches s .glyphdrop body rest → s.tableBusy = false → PoolLegal s.tables →
    (body.length ≠ 4 → exec .glyphdrop s = .next (refusedAt s .glyphdrop .length rest)) ∧
    (body.length = 4 → 7 < u8 body 0 ∨ 0x10FFFF < u24 body 1 →
      exec .glyphdrop s = .next (refusedAt s .glyphdrop .field rest)) ∧
    (body.length = 4 → u8 body 0 ≤ 7 → u24 body 1 ≤ 0x10FFFF → ∃ t, exec .glyphdrop s = .next t ∧
      (∀ slot code, code ≤ 0x10FFFF → t.tables.entry slot code =
        if slot = u8 body 0 ∧ code = u24 body 1 then none else s.tables.entry slot code) ∧
      (s.tables.entry (u8 body 0) (u24 body 1) = none → t.tables = s.tables) ∧
      (∀ e, s.tables.entry (u8 body 0) (u24 body 1) = some e →
        t.tables.freeBlocks = s.tables.freeBlocks + e.blocks.length) ∧
      t = { taken s rest with tables := { s.tables with directory := t.tables.directory } })

/-- GLYPHPUT (R22 to R24): the seven checks in order; an accepted one removes the old entry and holds the blocks it
needs, all of them inside the pool and held by no entry, and the free blocks and the blocks taken add up to the
blocks available; a glyph with no coverage value joins at once. A refused one leaves the tables. Which blocks are
taken is the model's choice (log 8) and is not stated. -/
def Obligations.GlyphputTakesBlocks : Prop :=
  ∀ (s : State) (body : Bytes) (rest : List Record),
    Dispatches s .glyphput body rest → s.tableBusy = false →
    let slot := u8 body 0
    let code := u24 body 1
    let w := u8 body 4
    let h := u8 body 5
    let bytes := (w * h + 1) / 2
    let needed := (bytes + 63) / 64
    let available := s.tables.freeBlocks +
      match s.tables.entry slot code with
      | some old => old.blocks.length
      | none => 0
    let entry : List Nat → Entry := fun blocks => ⟨w, h, s8 body 6, s8 body 7, (s32 body 8).toNat, blocks⟩
    let c2 : Prop := slot ≤ 7 ∧ code ≤ 0x10FFFF
    let c4 : Prop := w ≤ 80 ∧ h ≤ 80 ∧ -64 ≤ s8 body 6 ∧ s8 body 6 ≤ 63 ∧ -80 ≤ s8 body 7 ∧ s8 body 7 ≤ 127 ∧
      0 ≤ s32 body 8 ∧ s32 body 8 ≤ 4095
    let full : Prop := s.tables.entry slot code = none ∧ 8192 ≤ s.tables.directory.length
    let refused : Reason → Prop := fun r => exec .glyphput s = .next (refusedAt s .glyphput r rest)
    (body.length < 12 → refused .length) ∧
    (12 ≤ body.length → ¬ c2 → refused .field) ∧
    (12 ≤ body.length → c2 → s.tables.font slot = none → refused .noFont) ∧
    (12 ≤ body.length → c2 → (s.tables.font slot).isSome = true → ¬ c4 → refused .field) ∧
    (12 ≤ body.length → c2 → (s.tables.font slot).isSome = true → c4 → body.length ≠ 12 + bytes →
      refused .length) ∧
    (c2 → (s.tables.font slot).isSome = true → c4 → body.length = 12 + bytes →
      (full ∨ available < needed → refused .storeFull) ∧
      (¬ full → needed ≤ available → PoolLegal s.tables → ∃ t, exec .glyphput s = .next t ∧
        (∀ slot' code', code' ≤ 0x10FFFF → ¬ (slot' = slot ∧ code' = code) →
          t.tables.entry slot' code' = s.tables.entry slot' code') ∧
        t.tables.freeBlocks + needed = available ∧
        (needed = 0 → t.tables.glyphWrite = none ∧ t.tables.entry slot code = some (entry [])) ∧
        (0 < needed → t.tables.entry slot code = none ∧ ∃ g, t.tables.glyphWrite = some g ∧
          g.slot = slot ∧ g.code = code ∧ g.entry = entry g.entry.blocks ∧
          g.entry.blocks.length = needed ∧ g.entry.blocks.Nodup ∧ (∀ b ∈ g.entry.blocks, b < 16384) ∧
          (∀ e ∈ t.tables.directory, ∀ b ∈ g.entry.blocks, b ∉ e.2.blocks) ∧
          g.bitmap.length = bytes ∧
          ∀ j, j < w * h → coverageOf (g.bitmap.getD (j / 2) 0) j = coverageOf (body.getD (12 + j / 2) 0) j) ∧
        t = { taken s rest with tables :=
          { s.tables with directory := t.tables.directory, glyphWrite := t.tables.glyphWrite } }))

/-- The end of a glyph write (R24, R172): the entry joins the directory, its coverage values read as the
GLYPHPUT sent them, and no pool byte outside the bitmap's bytes and no other entry changes; the lookup of a
held TEXT or HILITE is then answered from these tables (R30): a TEXT whose slot is EMPTY is refused NO_FONT, another
runs, and a HILITE begins its walks, as TextRunsAndSetsPen and HilitePaintsBodyThenEdges say of records that are not
held. Which lookups of the TEXT have been made is free (log 18). -/
def Obligations.GlyphWriteEndStoresBitmap : Prop :=
  ∀ (s : State) (g : GlyphWrite), s.tables.glyphWrite = some g → PoolLegal s.tables →
    g.bitmap.length = bitmapBytes (g.entry.width * g.entry.height) →
    ∃ u : State, u = { s with tables := { s.tables with
        glyphWrite := none, directory := u.tables.directory, pool := u.tables.pool } } ∧
      u.tables.entry g.slot g.code = some g.entry ∧
      (∀ slot code, code ≤ 0x10FFFF → ¬ (slot = g.slot ∧ code = g.code) →
        u.tables.entry slot code = s.tables.entry slot code) ∧
      (∀ j, j < g.entry.width * g.entry.height →
        u.tables.coverage g.entry j = coverageOf (g.bitmap.getD (j / 2) 0) j) ∧
      (∀ a, (∀ j, j < g.bitmap.length → a ≠ bitmapAddress g.entry.blocks j) →
        Memory.read u.tables.pool a = Memory.read s.tables.pool a) ∧
      ((∀ x, s.comp.draw ≠ some (.textHeld x)) → (∀ h, s.comp.draw ≠ some (.hiliteHeld h)) →
        exec .glyphWriteEnd s = .next u) ∧
      (∀ x, s.comp.draw = some (.textHeld x) → exec .glyphWriteEnd s = .next (u.startText x)) ∧
      (∀ h, s.comp.draw = some (.hiliteHeld h) → exec .glyphWriteEnd s = .next (u.startHilite h)) ∧
      (∀ x, s.comp.draw = some (.textHeld x) → s.tables.font x.slot = none → exec .glyphWriteEnd s =
        .next (State.refuse { u with comp := { s.comp with draw := none } } 0x11 .noFont)) ∧
      (∀ x f, s.comp.draw = some (.textHeld x) → s.tables.font x.slot = some f →
        let start : Run := ⟨if x.continued = true then s.comp.pen else x.penX, none, s.store.pixels, [], []⟩
        let r := x.codes.foldl (Run.code u.tables s.comp.clip f x) start
        ∃ t found, exec .glyphWriteEnd s = .next t ∧ r.misses = found ++ t.missesLeft ∧
          t = { u with
            comp := { s.comp with
              draw := some (.writing (.text r.pen (found.getLastD 0) t.missesLeft) r.writes) }
            ev := if found = [] then s.ev else (s.setFlag .glyphmiss).ev
            freeCount := t.freeCount }) ∧
      (∀ h, s.comp.draw = some (.hiliteHeld h) →
        let st := s.tables.style h.style
        exec .glyphWriteEnd s = .next { u with comp := { s.comp with draw := some (.writing .hilite
          (bodyWrites s.comp.clip h.rects st.fill s.store.pixels ++ edgeWrites s.comp.clip h.rects st)) } })

/-- KERNLOAD (R26, R27): the checks in order, the fifth as one walk in which the first failing pair decides, its
code first; an accepted list is the pairs of the record in order and replaces the whole list of its slot; a refused
one changes no table. -/
def Obligations.KernloadReplacesList : Prop :=
  ∀ (s : State) (body : Bytes) (rest : List Record),
    Dispatches s .kernload body rest → s.tableBusy = false →
    let n := u16 body 1
    let pairs := (List.range n).map fun j =>
      (⟨u24 body (3 + 7 * j), u24 body (6 + 7 * j), s8 body (9 + 7 * j)⟩ : KernPair)
    let coded : Nat → Prop := fun j => ∀ p, pairs[j]? = some p → p.left ≤ 0x10FFFF ∧ p.right ≤ 0x10FFFF
    let rising : Nat → Prop := fun j => ∀ p q, pairs[j]? = some p → pairs[j + 1]? = some q →
      p.left < q.left ∨ (p.left = q.left ∧ p.right < q.right)
    let refused : Reason → Prop := fun r => exec .kernload s = .next (refusedAt s .kernload r rest)
    (body.length < 3 ∨ body.length ≠ 3 + 7 * n → refused .length) ∧
    (3 ≤ body.length → body.length = 3 + 7 * n →
      (7 < u8 body 0 → refused .field) ∧
      (u8 body 0 ≤ 7 → s.tables.font (u8 body 0) = none → refused .noFont) ∧
      (∀ f, s.tables.font (u8 body 0) = some f →
        (512 < n → refused .storeFull) ∧
        (n ≤ 512 →
          (∀ j, j < n → (∀ i, i < j → coded i) → (∀ i, i + 1 < j → rising i) →
            (¬ coded j → refused .field) ∧ (coded j → 0 < j → ¬ rising (j - 1) → refused .order)) ∧
          ((∀ j, j < n → coded j) → (∀ j, j + 1 < n → rising j) → ∃ t, exec .kernload s = .next t ∧
            t.tables.font (u8 body 0) = some { f with kern := pairs } ∧
            (∀ m, m ≠ u8 body 0 → t.tables.font m = s.tables.font m) ∧
            t = { taken s rest with tables := { s.tables with fonts := t.tables.fonts } }))))

/-- STYLESET (R29): the checks, then all five fields of the one style after clamping. -/
def Obligations.StylesetWritesStyle : Prop :=
  ∀ (s : State) (body : Bytes) (rest : List Record),
    Dispatches s .styleset body rest → s.tableBusy = false →
    (body.length ≠ 6 → exec .styleset s = .next (refusedAt s .styleset .length rest)) ∧
    (body.length = 6 →
      (15 < u8 body 0 ∨ 2 < u8 body 2 ∨ 1 < u8 body 3 →
        exec .styleset s = .next (refusedAt s .styleset .field rest)) ∧
      (u8 body 0 ≤ 15 → u8 body 2 ≤ 2 → u8 body 3 ≤ 1 → ∃ t, exec .styleset s = .next t ∧
        (t.tables.style (u8 body 0)).fill.val = min 15 (u8 body 1) ∧
        (t.tables.style (u8 body 0)).edgeKind.code = u8 body 2 ∧
        (t.tables.style (u8 body 0)).pattern.code = u8 body 3 ∧
        (t.tables.style (u8 body 0)).edgeTone.val = min 15 (u8 body 4) ∧
        (t.tables.style (u8 body 0)).thickness = max 1 (min 4 (u8 body 5)) ∧
        (∀ n, n ≠ u8 body 0 → t.tables.style n = s.tables.style n) ∧
        t = { taken s rest with tables := { s.tables with styles := t.tables.styles } }))

/-! ### The Waveform Bank Unit -/

/-- WAVEBEGIN (R80, R81): the five checks in order; a checked record acts on the bank that is not ACTIVE, with none
ACTIVE on the LOADING one or bank A; it waits while that bank is RETIRED with pins, and taken it clears the bank
and makes it LOADING with the record's header. -/
def Obligations.WavebeginClearsTarget : Prop :=
  ∀ (s : State) (body : Bytes) (rest : List Record), Dispatches s .wavebegin body rest →
    let n := u8 body 0
    let bounds := (List.range n).map fun j => s8 body (1 + j)
    let ceiling := s8 body (1 + n)
    let legal : Prop := (∀ z ∈ bounds, -40 ≤ z ∧ z ≤ 85) ∧ bounds.Pairwise (· < ·) ∧
      (∀ z ∈ bounds, z ≤ ceiling) ∧ ceiling ≤ 85
    let refused : Reason → Prop := fun r => exec .wavebegin s = .next (refusedAt s .wavebegin r rest)
    (body = [] → refused .length) ∧
    (body ≠ [] → n = 0 ∨ 8 < n → refused .field) ∧
    (1 ≤ n → n ≤ 8 → body.length ≠ 2 + n → refused .length) ∧
    (1 ≤ n → n ≤ 8 → body.length = 2 + n → ¬ legal → refused .field) ∧
    (1 ≤ n → n ≤ 8 → body.length = 2 + n → legal → BanksLegal s → ∀ b : BankId,
      ((s.bank b.other).state = .active ∨
        ((s.bank .bankA).state ≠ .active ∧ (s.bank .bankB).state ≠ .active ∧
          ((s.bank b).state = .loading ∨ (b = .bankA ∧ (s.bank .bankB).state ≠ .loading)))) →
      ((s.bank b).state = .retired → 0 < s.pins b → exec .wavebegin s = .next s) ∧
      (¬ ((s.bank b).state = .retired ∧ 0 < s.pins b) → ∃ t, exec .wavebegin s = .next t ∧
        t.bank b = ⟨.loading, bounds, ceiling, []⟩ ∧ t.bank b.other = s.bank b.other ∧
        t = { taken s rest with wave := t.wave }))

/-- WAVEPUT (R82, R83): the seven checks in order, the last of them the budget of frames and records; a checked
record joins the LOADING bank under its key, replacing the old one; the other records of the bank and the other
bank stay. -/
def Obligations.WaveputAddsRecord : Prop :=
  ∀ (s : State) (body : Bytes) (rest : List Record), Dispatches s .waveput body rest →
    let refused : Reason → Prop := fun r => exec .waveput s = .next (refusedAt s .waveput r rest)
    (body.length < 4 → refused .length) ∧
    (4 ≤ body.length → (s.bank .bankA).state ≠ .loading → (s.bank .bankB).state ≠ .loading → refused .state) ∧
    (∀ b : BankId, 4 ≤ body.length → BanksLegal s → StoresCanonical s → (s.bank b).state = .loading →
      let v := s.bank b
      let band := u8 body 1
      let f := u16 body 2
      (4 < u8 body 0 → refused .field) ∧
      (u8 body 0 ≤ 4 → v.bounds.length ≤ band → refused .field) ∧
      (u8 body 0 ≤ 4 → band < v.bounds.length → f = 0 ∨ 60 < f → refused .field) ∧
      (∀ m : Mode, m.code = u8 body 0 → band < v.bounds.length → 1 ≤ f → f ≤ 60 →
        (body.length ≠ (if m = .clean then 4 + 4 * f else 4 + 64 * f) → refused .length) ∧
        (body.length = (if m = .clean then 4 + 4 * f else 4 + 64 * f) →
          let old := v.record m band
          let frames := v.frames - (old.map WaveRec.frames).getD 0 + f
          let records := if old.isSome then v.records.length else v.records.length + 1
          ((1024 < frames ∨ 40 < records) → refused .storeFull) ∧
          (frames ≤ 1024 → records ≤ 40 → ∃ t, exec .waveput s = .next t ∧
            (t.bank b).record m band = some ⟨f, body.drop 4⟩ ∧
            (∀ m' band', band' < 8 → ¬ (m' = m ∧ band' = band) →
              (t.bank b).record m' band' = v.record m' band') ∧
            (t.bank b).frames = frames ∧ (t.bank b).records.length = records ∧
            t.bank b = { v with records := (t.bank b).records } ∧ t.bank b.other = s.bank b.other ∧
            t = { taken s rest with wave := t.wave }))))

/-- WAVECOMMIT (R84, R97): refused with no LOADING bank or with an empty one; else in one step the LOADING bank
becomes ACTIVE, the ACTIVE one RETIRED with its header and records, and the band is recomputed, TEMPRANGE set
when it is clamped. -/
def Obligations.WavecommitSwitchesBanks : Prop :=
  ∀ (s : State) (body : Bytes) (rest : List Record) (b : BankId),
    Dispatches s .wavecommit body rest → BanksLegal s →
    (body.length ≠ 0 → exec .wavecommit s = .next (refusedAt s .wavecommit .length rest)) ∧
    (body.length = 0 → (s.bank .bankA).state ≠ .loading → (s.bank .bankB).state ≠ .loading →
      exec .wavecommit s = .next (refusedAt s .wavecommit .state rest)) ∧
    (body.length = 0 → (s.bank b).state = .loading → (s.bank b).records = [] →
      exec .wavecommit s = .next (refusedAt s .wavecommit .emptyBank rest)) ∧
    (body.length = 0 → (s.bank b).state = .loading → (s.bank b).records ≠ [] →
      let r := bandOf (s.bank b).bounds (s.bank b).ceiling (s.temp.current / 16)
      ∃ t, exec .wavecommit s = .next t ∧
        t.bank b = { s.bank b with state := .active } ∧
        ((s.bank b.other).state = .active → t.bank b.other = { s.bank b.other with state := .retired }) ∧
        ((s.bank b.other).state ≠ .active → t.bank b.other = s.bank b.other) ∧
        t.temp = { s.temp with band := some r.1 } ∧
        t.ev = (if r.2 = true then (s.setFlag .temprange).ev else s.ev) ∧
        t = { taken s rest with wave := t.wave, temp := t.temp, ev := t.ev })

/-! ### The Update Scheduler -/

/-- UPDATE (R109, R110): checks 2 to 4 are refused FIELD (check 1 stands with the LENGTH refusals); a request with
no pixel in the window ends EMPTY at once; with 24 requests pending it waits; else it joins the tail, triggers a
pass, before the record behind it can begin to wait, and holds the Dispatcher until its first pass has ended, but in
FAULT it triggers none and counts as taken at once (R112). -/
def Obligations.UpdateJoinsOrEndsEmpty : Prop :=
  ∀ (s : State) (body : Bytes) (rest : List Record), Dispatches s .update body rest → body.length = 12 →
    let legal : Prop := 1 ≤ u8 body 9 ∧ u8 body 9 ≤ 31 ∧ u8 body 10 ≤ 1 ∧ u8 body 11 ≤ 3
    let r : Request := ⟨body.getD 0 0, rectAt body 1,
      [Mode.clean, .tone16, .tone4, .bilevel, .stroke].filter fun m => (u8 body 9).testBit m.code,
      decide (u8 body 10 = 1), (u8 body 11).testBit 0, (u8 body 11).testBit 1, false⟩
    (¬ legal → exec .update s = .next (refusedAt s .update .field rest)) ∧
    (legal → ¬ meetsWindow s r.rect →
      exec .update s = .next { taken s rest with ev := told s [requestOutcome r .empty] }) ∧
    (legal → meetsWindow s r.rect → 24 ≤ s.sched.requests.length → exec .update s = .next s) ∧
    (legal → meetsWindow s r.rect → s.sched.requests.length < 24 → exec .update s = .next { s with
      intake := ⟨rest, if s.rails.state = .fault then .free else .update false⟩
      sched := { s.sched with
        requests := s.sched.requests ++ [r], passDue := s.sched.passDue || decide (s.rails.state ≠ .fault) } })

/-- Notices (R129, R130, R173): a request without NOTIFY tells nothing; one with NOTIFY queues its notice at the
tail and sets DONE, or, with 16 replies queued or reserved, sets NOTICELOST; and the 16 bytes of a notice. -/
def Obligations.NoticesQueueAndEncode : Prop :=
  (∀ (s : State) (n : Notice),
    told s [(false, n)] = s.ev ∧
    (s.ev.replies.length + s.reserved < 16 → told s [(true, n)] = { s.ev with
      flags := s.ev.flags ||| 0x001, replies := s.ev.replies ++ [.notice n] }) ∧
    (16 ≤ s.ev.replies.length + s.reserved → told s [(true, n)] = { s.ev with
      flags := s.ev.flags ||| 0x400 }) ∧
    ∀ outcomes more, told s (outcomes ++ more) = told { s with ev := told s outcomes } more) ∧
  ∀ n : Notice, (∀ b, n.band = some b → b < 8) → n.taken < 4294967296 → n.skipped ≤ 65535 →
    let bytes := (Reply.notice n).bytes
    bytes.length = 16 ∧ u8 bytes 0 = 1 ∧ u8 bytes 1 = 0 ∧ u16 bytes 2 = 16 ∧ u8 bytes 4 = n.tag.toNat ∧
    u8 bytes 5 = (match n.ending with
      | .done => 0 | .empty => 1 | .cancelled => 2 | .aborted => 3 | .noMode => 4) ∧
    u8 bytes 6 = (match n.mode with
      | none => 0xFF | some .clean => 0 | some .tone16 => 1 | some .tone4 => 2 | some .bilevel => 3
      | some .stroke => 4) ∧
    u8 bytes 7 = n.band.getD 0xFF ∧ u32 bytes 8 = n.taken ∧ u16 bytes 12 = n.skipped ∧
    u8 bytes 14 = (if n.promoted = true then 1 else 0) ∧ u8 bytes 15 = 0

/-- Admission passes (R112, R113, R110): passes are suspended in FAULT, while a PANELSET that passes its check waits
at the intake head, and while its reinitialization runs (R7, R9); that the wait counts from the moment the record is
at the head, even one that could be taken at once, is log 29. A trigger made while they are suspended starts none
(each event's own statement says so). A triggered pass begins where none runs, with every request the queue holds,
and a PANELSET that has come to the head since the trigger waits for it (log 20); none begins in FAULT or in a
reinitialization. When a pass ends while they are suspended, one triggered meanwhile does not follow. And one step
of its walk, over the first request `r` it has still to examine, with `before` standing ahead: an empty one leaves
with EMPTY, with no slot FREE the pass ends, one that shares a pixel with one ahead stays, and any other begins its
pixel reads (R99, R114). The end of a pass frees an UPDATE that waited for it. The marks `due` and the two reading
phases are the model's form of the pass (log 24). -/
def Obligations.AdmissionPassExaminesInOrder : Prop :=
  (∀ s : State,
    let panelset : Prop := ∃ body rest, Dispatches s .panelset body rest ∧ body.length = 16 ∧
      u16 body 0 ≤ 6144 ∧ 8 ∣ u16 body 0 ∧ 64 ≤ u16 body 2 ∧ u16 body 2 ≤ 2048 ∧ 8 ∣ u16 body 2 ∧
      64 ≤ u16 body 4 ∧ u16 body 4 ≤ 1664
    let runs : Prop := s.sched.passDue = true ∧ s.sched.pass = none ∧ s.rails.state ≠ .fault ∧
      s.intake.hold ≠ .reinit
    (s.suspended = true ↔ s.rails.state = .fault ∨ panelset ∨ s.intake.hold = .reinit) ∧
    (runs → exec .admissionPass s = .next (State.continuePass { s with
      intake := { s.intake with hold := match s.intake.hold with
        | .update _ => .update true
        | h => h }
      sched := { s.sched with
        passDue := false, requests := s.sched.requests.map fun q : Request => { q with due := true } } })) ∧
    (¬ runs → exec .admissionPass s = .next s)) ∧
  ∀ (s : State) (before : List Request), (∀ q ∈ before, q.due = false) →
    let ended : State := { s with
      intake := { s.intake with hold := match s.intake.hold with
        | .update true => .free
        | h => h }
      sched := { s.sched with
        pass := none, passDue := s.sched.passDue && !s.suspended
        requests := s.sched.requests.map fun q : Request => { q with due := false } } }
    (s.sched.requests = before → s.continuePass = ended) ∧
    (∀ r behind, s.sched.requests = before ++ r :: behind → r.due = true →
      (¬ meetsWindow s r.rect → s.continuePass = State.continuePass { s with
        ev := told s [requestOutcome r .empty]
        sched := { s.sched with requests := before ++ behind } }) ∧
      (meetsWindow s r.rect → (∀ i, (s.slot i).isSome = true) → s.continuePass = ended) ∧
      (meetsWindow s r.rect → (∃ i, s.slot i = none) →
        ((∃ q ∈ before, sharesPixel s q r) → s.continuePass = State.continuePass { s with
          sched := { s.sched with requests := before ++ { r with due := false } :: behind } }) ∧
        ((∀ q ∈ before, ¬ sharesPixel s q r) → s.continuePass = { s with
          sched := { s.sched with
            pass := some (if r.skip = true ∨ s.deferKeys (s.effective r) = [] then
                .resolveRead (s.effective r).keys false
              else .deferRead (s.deferKeys (s.effective r)) false) } })))

/-- The end of a DEFER read (R113, R114): with an owned pixel found, the request stays in its place, no slot takes
it, and the pass goes on to the next; with none, the pixel reads of its resolution begin. The pixels read are those
of the effective rectangle that lie in the rectangle of a slot that is not FREE. That the row
RESOLUTION_PIXEL_READS_END ends this read too, as a phase of its own, is the model's choice (log 24). A read that has
got on by `n` pixels has found what they held. -/
def Obligations.DeferHoldsOwnedRequest : Prop :=
  (∀ (s : State) (n : Nat), (s.sched.pass = none → s.advancePass n = s) ∧
    ∀ todo found, s.sched.pass = some (.deferRead todo found) → s.advancePass n = { s with
      sched := { s.sched with pass := some (.deferRead (todo.drop n)
        (found || (todo.take n).any fun k => (s.pixel k).owner.isSome)) } }) ∧
  (∀ (s : State) (r : Request) (k : Nat), k ∈ s.deferKeys (s.effective r) ↔
    k ∈ (s.effective r).keys ∧ ∃ i sl, s.slot i = some sl ∧ sl.rect.hasKey k = true) ∧
  ∀ (s : State) (before behind : List Request) (r : Request) (todo : List Nat) (found : Bool),
    s.sched.pass = some (.deferRead todo found) → s.sched.requests = before ++ r :: behind →
    (∀ q ∈ before, q.due = false) → r.due = true →
    ((found = true ∨ ∃ k ∈ todo, (s.pixel k).owner.isSome = true) →
      exec .resolutionPixelReadsEnd s = .next (State.continuePass { s with
        sched := { s.sched with requests := before ++ { r with due := false } :: behind } })) ∧
    (found = false → (∀ k ∈ todo, (s.pixel k).owner = none) →
      exec .resolutionPixelReadsEnd s = .next { s with
        sched := { s.sched with pass := some (.resolveRead (s.effective r).keys false) } })

/-- The moment of resolution (R85, R103, R115): a mode admits the request into the FREE slot of lowest number,
which records what 7.4 lists, pins the ACTIVE bank and begins its latch pass; NO_MODE removes the request with
its notice, takes no slot, and the pass goes on to the next request. Its pixel reads, got on by `n` pixels, have
found whether one of them was unowned and UNKNOWN (R100). The pixels of the effective rectangle, which the pass
walks, are those of the request's rectangle in the window, in row order (R99, R117). -/
def Obligations.ResolutionAdmitsOrEndsNoMode : Prop :=
  (∀ (s : State) (r : Request), s.window.onPage → (s.effective r).keys.Pairwise (· < ·) ∧
    ∀ k, k ∈ (s.effective r).keys ↔
      ∃ x y : Nat, x < 8192 ∧ k = pixelKey x y ∧ r.rect.has x y = true ∧ s.window.has x y = true) ∧
  (∀ (s : State) (n : Nat) (todo : List Nat) (found : Bool), s.sched.pass = some (.resolveRead todo found) →
    s.advancePass n = { s with sched := { s.sched with pass := some (.resolveRead (todo.drop n)
      (found || (todo.take n).any fun k => (s.pixel k).owner.isNone && (s.pixel k).shown.isNone)) } }) ∧
  ∀ (s : State) (before behind : List Request) (r : Request) (todo : List Nat) (found : Bool),
    s.sched.pass = some (.resolveRead todo found) → s.sched.requests = before ++ r :: behind →
    (∀ q ∈ before, q.due = false) → r.due = true →
    let unknownSeen := found || todo.any fun k => (s.pixel k).owner.isNone && (s.pixel k).shown.isNone
    (∀ m promoted i b band v, s.resolve r unknownSeen = some (m, promoted) →
      s.slot i = none → (∀ j, j < i → (s.slot j).isSome = true) →
      s.activeBank = some b → s.temp.band = some band → (s.bank b).record m band = some v →
      ∃ t, exec .resolutionPixelReadsEnd s = .next t ∧
        t.slot i = some ⟨.latching, r.tag, r.notify, m, promoted, band, b, v.frames, s.effective r, 0, 0, [], false⟩ ∧
        (∀ j, j ≠ i → t.slot j = s.slot j) ∧ t.pins b = s.pins b + 1 ∧
        t = { s with sched := { s.sched with
          requests := before ++ behind
          slots := t.sched.slots
          pass := some (.latching i (s.effective r).keys) } }) ∧
    (s.resolve r unknownSeen = none →
      exec .resolutionPixelReadsEnd s = .next (State.continuePass { s with
        ev := told s [(r.notify, ⟨r.tag, .noMode, none,
          if s.activeBank.isSome then s.temp.band else none, false, 0, 0⟩)]
        sched := { s.sched with requests := before ++ behind } }))

/-- Mode resolution (R100 to R102), by the availability of modes in the current band (R85): a mode is available
when the ACTIVE bank holds a record for it in that band, and none is without an ACTIVE bank. -/
def Obligations.ModeResolutionFollowsSteps : Prop :=
  (∀ s : State,
    (∀ b, s.activeBank = some b → (s.bank b).state = .active) ∧
    (s.activeBank = none ↔ ∀ b, (s.bank b).state ≠ .active) ∧
    ∀ m, s.available m = true ↔
      ∃ b band v, s.activeBank = some b ∧ s.temp.band = some band ∧ (s.bank b).record m band = some v) ∧
  ∀ (s : State) (r : Request),
    (s.activeBank = none → ∀ unknownSeen, s.resolve r unknownSeen = none) ∧
    (s.activeBank.isSome = true → s.resolve r true = if s.available .clean then some (.clean, false) else none) ∧
    ((∀ m ∈ r.allowed, s.available m = false) → s.resolve r false = none) ∧
    (∀ pre m post, [Mode.tone16, .tone4, .bilevel, .stroke, .clean] = pre ++ m :: post →
      m ∈ r.allowed → s.available m = true → (∀ q ∈ pre, q ∈ r.allowed → s.available q = false) →
      1 ≤ s.store.panel.residueThreshold →
      let worn : Prop := ∃ n, n < (s.store.panel.w + 63) / 64 * ((s.store.panel.h + 63) / 64) ∧
        (∃ x y : Int, (s.store.panel.tileRect n).has x y = true ∧ r.rect.has x y = true) ∧
        s.store.panel.residueThreshold ≤ s.residueOf n
      ((r.promote = true ∧ m ∈ [Mode.tone4, .bilevel, .stroke] ∧ worn ∧ s.available .tone16 = true) →
        s.resolve r false = some (.tone16, true)) ∧
      (¬ (r.promote = true ∧ m ∈ [Mode.tone4, .bilevel, .stroke] ∧ worn ∧ s.available .tone16 = true) →
        s.resolve r false = some (m, false)))

/-- A latch pass judges a pixel (R117), with the goals of R75 and the tile of R105; the walk judges its pixels one
after another, waiting for a draw record that was in progress when its slot became LATCHING (R118). -/
def Obligations.LatchJudgesPixel : Prop :=
  (∀ (s : State) (i : Fin 16) (sl : Slot) (k : Nat), s.slot i = some sl →
    let p := s.pixel k
    let g := quantize sl.mode p.target
    let t := latchPixel i s k
    let skipped : Prop := p.owner.isSome = true ∨ (p.shown = none ∧ sl.mode ≠ .clean)
    let taken : Prop := sl.mode = .clean ∨ (p.shown ≠ some g ∧ (sl.mode = .stroke → g = 0))
    (skipped → t.slot i = some { sl with skipped := min 65535 (sl.skipped + 1) } ∧ t.store = s.store) ∧
    (¬ skipped → taken → t.pixel k = { p with goal := g, owner := some i } ∧
      ∃ sl', t.slot i = some sl' ∧ sl' = { sl with taken := sl.taken + 1, tiles := sl'.tiles } ∧
        ∀ n, n ∈ sl'.tiles ↔ n = s.store.panel.tileOf k ∨ n ∈ sl.tiles) ∧
    (¬ skipped → ¬ taken → t = s) ∧
    (∀ k', k' ≠ k → t.pixel k' = s.pixel k') ∧ (∀ j, j ≠ i → t.slot j = s.slot j) ∧
    t = { s with
      store := { s.store with pixels := t.store.pixels }, sched := { s.sched with slots := t.sched.slots } }) ∧
  (∀ (s : State) (i : Fin 16) (todo : List Nat) (n : Nat), s.sched.pass = some (.latching i todo) →
    (s.comp.draw.isSome = true → s.advancePass n = s) ∧
    (s.comp.draw = none →
      let t := (todo.take n).foldl (latchPixel i) s
      s.advancePass n = { t with sched := { t.sched with pass := some (.latching i (todo.drop n)) } })) ∧
  (∀ (p : Panel) (x y : Nat), p.x0 ≤ x → x < 8192 →
    p.tileOf (pixelKey x y) = y / 64 * ((p.w + 63) / 64) + (x - p.x0) / 64) ∧
  ∀ t : Tone, quantize .clean t = t ∧ quantize .tone16 t = t ∧
    (5 ∣ (quantize .tone4 t).val ∧ 2 * ((quantize .tone4 t).val - (t.val : Int)).natAbs < 5) ∧
    (quantize .bilevel t).val = (if t.val ≤ 7 then 0 else 15) ∧ quantize .stroke t = quantize .bilevel t

/-- Latch end (R119, R132, R139 to R141): `w` is `s` with the rest of the walk judged, pixel by pixel. COLLIDE is
set when pixels were skipped; a marked slot or one that took nothing becomes FREE with CANCELLED or EMPTY told and
gives up its pixels, every other field of them and every other pixel as `w` has it; any other slot becomes ARMED, with
every pixel as `w` has it, raises the rails when they are OFF, and starts a frame, which drives the other ARMED slots
too, when they are ON with none in progress. The pass that admitted the slot then goes on from `v` (R119). A READ of
PIXELS may have got on within the walk (R15; log 28). -/
def Obligations.LatchEndSettlesSlot : Prop :=
  ∀ (s : State) (i : Fin 16) (todo : List Nat) (sl : Slot),
    s.sched.pass = some (.latching i todo) → s.comp.draw = none →
    let w := todo.foldl (latchPixel i) s
    w.slot i = some sl → Store.wf PixelRec.initial s.store.pixels →
    let collided := s.setFlagIf (decide (0 < sl.skipped)) .collide
    let freed : Prop := sl.cancel = true ∨ sl.taken = 0
    let started : Prop := ¬ freed ∧
      ((s.rails.state = .off ∧ s.rails.pgood = true) ∨ (s.rails.state = .on ∧ s.scan = none))
    ∃ v t : State, exec .latchEnd s = .next t ∧ t = v.continuePass ∧
      (sl.cancel = true → v.ev = told collided [slotOutcome sl .cancelled]) ∧
      (sl.cancel = false → sl.taken = 0 → v.ev = told collided [slotOutcome sl .empty]) ∧
      (¬ freed → v.ev = collided.ev) ∧
      v = { s with
        ev := v.ev, rails := v.rails, scan := v.scan, store := { s.store with pixels := v.store.pixels }
        intake := { s.intake with hold := v.intake.hold }, freeCount := v.freeCount
        sched := { s.sched with
          slots := v.sched.slots, passDue := v.sched.passDue, pass := some (.latching i []) } } ∧
      ReadOn s v.intake.hold ∧
      ((∀ r, s.intake.hold ≠ .readPixels r) → v.intake = s.intake ∧ v.freeCount = s.freeCount) ∧
      t.flag .collide = (s.flag .collide || decide (0 < sl.skipped)) ∧
      v.sched.passDue = (s.sched.passDue || (decide freed && !s.suspended)) ∧
      (s.suspended = false → t.sched.passDue = v.sched.passDue) ∧
      (freed → t.slot i = none ∧ t.rails = s.rails ∧ t.scan = s.scan ∧
        ∀ k, t.pixel k =
          if (w.pixel k).owner = some i then { w.pixel k with owner := none } else w.pixel k) ∧
      (¬ freed → (∀ k, t.pixel k = w.pixel k) ∧
        (s.rails.state = .off → s.rails.pgood = false →
          t.slot i = some { sl with phase := .armed } ∧
          t.rails = { s.rails with state := .rising, rise := some s.store.panel.riseLimit } ∧ t.scan = s.scan) ∧
        (s.rails.state = .off → s.rails.pgood = true →
          t.slot i = some { sl with phase := .running 0 } ∧ t.rails = { s.rails with state := .on, rise := none } ∧
          t.scan = some s.store.panel.framePeriod) ∧
        (s.rails.state = .on → t.rails = { s.rails with hold := none } ∧
          (s.scan = none → t.slot i = some { sl with phase := .running 0 } ∧
            t.scan = some s.store.panel.framePeriod) ∧
          (s.scan.isSome = true → t.slot i = some { sl with phase := .armed } ∧ t.scan = s.scan)) ∧
        (s.rails.state = .rising ∨ s.rails.state = .falling →
          t.slot i = some { sl with phase := .armed } ∧ t.rails = s.rails ∧ t.scan = s.scan)) ∧
      (∀ j sl', j ≠ i → s.slot j = some sl' → sl'.phase = .armed → started →
        t.slot j = some { sl' with phase := .running 0 }) ∧
      (∀ j, j ≠ i → ((∀ sl', s.slot j = some sl' → sl'.phase ≠ .armed) ∨ ¬ started) → t.slot j = s.slot j) ∧
      (∀ k, (t.pixel k).shown = (s.pixel k).shown ∧ (t.pixel k).target = (s.pixel k).target)

/-- A frame end (R121 to R123, R132, R135): a RUNNING slot completes at its last frame, is aborted under a
cancel mark, or advances; the pixels of a completed slot take their goals as shown, those of an aborted one
become UNKNOWN, and no other pixel changes; then the next frame starts, driving the ARMED slots too, or the
scanner stops and the hold timer starts. The outcomes are told and the completed slots report to the Residue Map in
ascending order of slot number (R106, R130). A walk in progress judges the pixels it reached before the frame end as
they stood then, and goes on (R15, R114, R118): `u` is `s` with the walks got on that far, which is free (log 3). -/
def Obligations.FrameEndSettlesSlots : Prop :=
  ∀ s : State, s.scan.isSome = true → Store.wf PixelRec.initial s.store.pixels →
    ∃ u t, exec .frameEnd s = .next t ∧ WalkedOn s u ∧
      (∀ k, (s.pixel k).owner.isSome = true → u.pixel k = s.pixel k) ∧
      (OwnersLegal s → ∀ i sl, s.slot i = some sl → sl.phase ≠ .latching → u.slot i = some sl) ∧
      let done : Fin 16 → Prop := fun i => ∃ sl index, u.slot i = some sl ∧ sl.phase = .running index ∧
        sl.frames ≤ index + 1
      let aborted : Fin 16 → Prop := fun i => ∃ sl index, u.slot i = some sl ∧ sl.phase = .running index ∧
        index + 1 < sl.frames ∧ sl.cancel = true
      let completing : Fin 16 → Option Slot := fun i => (u.slot i).bind fun sl =>
        match sl.phase with
        | .running index => if sl.frames ≤ index + 1 then some sl else none
        | _ => none
      let outcome : Fin 16 → Option (Bool × Notice) := fun i => (u.slot i).bind fun sl =>
        match sl.phase with
        | .running index =>
          if sl.frames ≤ index + 1 then some (slotOutcome sl .done)
          else if sl.cancel = true then some (slotOutcome sl .aborted) else none
        | _ => none
      t.ev = told u ((List.finRange 16).filterMap outcome) ∧
      t.residue = ((List.finRange 16).filterMap completing).foldl
        (fun counts sl => residueReport u.store.panel sl.mode sl.rect sl.tiles counts) u.residue ∧
      (∀ i, done i ∨ aborted i ∨ u.slot i = none → t.slot i = none) ∧
      (∀ i sl index, u.slot i = some sl → sl.phase = .running index → index + 1 < sl.frames →
        sl.cancel = false → t.slot i = some { sl with phase := .running (index + 1) }) ∧
      (∀ i sl, u.slot i = some sl → sl.phase = .armed → t.slot i = some { sl with phase := .running 0 }) ∧
      (∀ i sl, u.slot i = some sl → sl.phase = .latching → t.slot i = some sl) ∧
      (∀ k i, (u.pixel k).owner = some i →
        (done i → t.pixel k = { u.pixel k with shown := some (u.pixel k).goal, owner := none }) ∧
        (aborted i → t.pixel k = { u.pixel k with shown := none, owner := none }) ∧
        (¬ done i → ¬ aborted i → t.pixel k = u.pixel k)) ∧
      (∀ k, (u.pixel k).owner = none → t.pixel k = u.pixel k) ∧
      t.sched.passDue = (s.sched.passDue || !s.suspended) ∧
      ((∃ i sl, t.slot i = some sl ∧ sl.phase ≠ .latching) →
        t.scan = some u.store.panel.framePeriod ∧ t.rails = u.rails) ∧
      ((∀ i sl, t.slot i = some sl → sl.phase = .latching) → t.scan = none ∧
        (0 < u.store.panel.holdTime → t.rails = { u.rails with hold := some u.store.panel.holdTime }) ∧
        (u.store.panel.holdTime = 0 → t.rails = { u.rails with
          state := .falling, rise := none, hold := none, fall := some u.store.panel.fallTime })) ∧
      t = { u with
        store := { u.store with pixels := t.store.pixels }
        sched := { u.sched with slots := t.sched.slots, passDue := t.sched.passDue }
        residue := t.residue, scan := t.scan, rails := t.rails, ev := t.ev }

/-- The report of a completed slot to the Residue Map (R106), and the tiles of R105: tile number n = j · columns + i
covers the 64 × 64 pixels from column X0 + 64i and row 64j, cut at the window. -/
def Obligations.CompletionReportsResidue : Prop :=
  (∀ (p : Panel) (i j : Nat) (x y : Int), i < (p.w + 63) / 64 →
    ((p.tileRect (j * ((p.w + 63) / 64) + i)).has x y = true ↔
      p.x0 + 64 * i ≤ x ∧ x < p.x0 + 64 * i + 64 ∧ x < p.x0 + p.w ∧
        64 * j ≤ y ∧ y < 64 * j + 64 ∧ y < p.h)) ∧
  ∀ (p : Panel) (m : Mode) (rect : Rect) (tiles : List Nat) (counts : List (Nat × Nat)) (n : Nat),
    tiles.Nodup → Store.wf 0 counts →
    let old := Store.getD counts n 0
    let new := Store.getD (residueReport p m rect tiles counts) n 0
    (m = .tone4 ∨ m = .bilevel ∨ m = .stroke →
      new = if n ∈ tiles then min 15 (old + (if m = .tone4 then 1 else if m = .bilevel then 2 else 3))
        else old) ∧
    (m = .tone16 → new = if n ∈ tiles then old / 2 else old) ∧
    (m = .clean →
      let inside : Prop := ∀ x y : Int, (p.tileRect n).has x y = true → rect.has x y = true
      (inside → new = 0) ∧ (¬ inside → new = if n ∈ tiles then old / 2 else old))

/-- CANCEL (R124, R155): a body of another length is refused; every slot and pending request with the tag is acted on
by its state, and no other: a LATCHING or RUNNING slot is marked, an ARMED one released, a request removed; the
pixels of released slots keep their shown tones; the outcomes are told slots first, in ascending order, then requests
in queue order. A walk in progress judges the pixels it reached before a release as they stood then, and goes on
(R15, R114, R118): `u` is the state with the walks got on that far, which is free (log 3). Taken while a pass examines
a request with the tag, it ends that examination and the pass goes on to the next from `w`. -/
def Obligations.CancelActsByState : Prop :=
  (∀ (s : State) (body : Bytes), Expressed s .cancel body.length → body.length ≠ 1 →
    exec (.cancel body) s = .next ((received s).refuse 0x41 .length)) ∧
  (∀ (s : State) (tag : Byte), Expressed s .cancel 1 → Store.wf PixelRec.initial s.store.pixels →
    let released : Fin 16 → Prop := fun i => ∃ sl, s.slot i = some sl ∧ sl.tag = tag ∧ sl.phase = .armed
    let examining : Prop :=
      (∃ todo found, s.sched.pass = some (.deferRead todo found) ∨ s.sched.pass = some (.resolveRead todo found)) ∧
      ∃ before r behind, s.sched.requests = before ++ r :: behind ∧ (∀ q ∈ before, q.due = false) ∧
        r.due = true ∧ r.tag = tag
    ∃ u w : State, WalkedOn (received s) u ∧ ((∀ i, ¬ released i) → u = received s) ∧
      (∀ k, (s.pixel k).owner.isSome = true → u.pixel k = s.pixel k) ∧
      (OwnersLegal s → ∀ i sl, s.slot i = some sl → sl.phase ≠ .latching → u.slot i = some sl) ∧
      (examining → exec (.cancel [tag]) s = .next w.continuePass) ∧
      (¬ examining → exec (.cancel [tag]) s = .next w) ∧
      let freed : Fin 16 → Prop := fun i => ∃ sl, u.slot i = some sl ∧ sl.tag = tag ∧ sl.phase = .armed
      let outcome : Fin 16 → Option (Bool × Notice) := fun i => (u.slot i).bind fun sl =>
        if sl.tag = tag ∧ sl.phase = .armed then some (slotOutcome sl .cancelled) else none
      (∀ i, u.slot i = none ∨ freed i → w.slot i = none) ∧
      (∀ i sl, u.slot i = some sl → sl.tag = tag → sl.phase ≠ .armed → w.slot i = some { sl with cancel := true }) ∧
      (∀ i sl, u.slot i = some sl → sl.tag ≠ tag → w.slot i = some sl) ∧
      w.sched.requests = s.sched.requests.filter (fun r => r.tag ≠ tag) ∧
      w.ev = told u ((List.finRange 16).filterMap outcome ++
        (s.sched.requests.filter fun r => r.tag = tag).map fun r => requestOutcome r .cancelled) ∧
      (∀ k i, (u.pixel k).owner = some i → freed i → w.pixel k = { u.pixel k with owner := none }) ∧
      (∀ k, (∀ i, (u.pixel k).owner = some i → ¬ freed i) → w.pixel k = u.pixel k) ∧
      (w.sched.passDue = true ↔ s.sched.passDue = true ∨
        s.suspended = false ∧ ((∃ i, freed i) ∨ ∃ r ∈ s.sched.requests, r.tag = tag)) ∧
      w = { u with
        store := { u.store with pixels := w.store.pixels }
        sched := { u.sched with slots := w.sched.slots, requests := w.sched.requests, passDue := w.sched.passDue }
        rails := w.rails, ev := w.ev } ∧
      (s.anyDriving = true → w.anyDriving = false → s.rails.state = .on →
        w.rails = if s.store.panel.holdTime = 0 then { s.rails with
            state := .falling, rise := none, hold := none, fall := some s.store.panel.fallTime }
          else { s.rails with hold := some s.store.panel.holdTime }) ∧
      ((s.anyDriving = false ∨ w.anyDriving = true ∨ s.rails.state ≠ .on) → w.rails = s.rails)) ∧
  ∀ (s : State) (tag : Byte) (before behind : List Request) (r : Request) (todo : List Nat) (found : Bool),
    Expressed s .cancel 1 →
    s.sched.pass = some (.deferRead todo found) ∨ s.sched.pass = some (.resolveRead todo found) →
    s.sched.requests = before ++ r :: behind → (∀ q ∈ before, q.due = false) → r.due = true → r.tag = tag →
    (∀ i sl, s.slot i = some sl → sl.tag ≠ tag) →
    exec (.cancel [tag]) s = .next (State.continuePass { received s with
      ev := told s ((s.sched.requests.filter fun q => q.tag = tag).map fun q => requestOutcome q .cancelled)
      sched := { s.sched with
        requests := s.sched.requests.filter (fun q => q.tag ≠ tag), passDue := s.sched.passDue || !s.suspended } })

/-- HALT (R126, R136): every slot is ended, every pending request removed, a running pass ends and the frame is
cut; the pixels of RUNNING slots become UNKNOWN, every other keeps its shown tone, every target stays, and no
pixel is owned. The outcomes are told slots first, in ascending order, then requests in queue order. COLLIDE, the
Residue Map, the banks and the drawing stay. How far a stopped latch had come is free (log 3): `u` is the state with
the walks got on that far, and every goal stays as `u` has it (R3). -/
def Obligations.HaltEndsEverything : Prop :=
  (∀ (s : State) (body : Bytes), Expressed s .halt body.length → body.length ≠ 0 →
    exec (.halt body) s = .next ((received s).refuse 0x42 .length)) ∧
  ∀ s : State, Expressed s .halt 0 → OwnersLegal s → Store.wf PixelRec.initial s.store.pixels →
    ∃ t, exec (.halt []) s = .next t ∧
      (∀ i, t.slot i = none) ∧ t.sched.requests = [] ∧ t.sched.pass = none ∧ t.scan = none ∧
      (∃ u, u = atCut (received s) ∧ WalkedOn (received s) u ∧ (s.anyBusy = false → u = received s) ∧
        (∀ i sl, s.slot i = some sl → sl.phase ≠ .latching → u.slot i = some sl) ∧
        t.ev = told u (cutOutcomes u ++ s.sched.requests.map fun r => requestOutcome r .cancelled) ∧
        (∀ k, (t.pixel k).goal = (u.pixel k).goal) ∧
        t.intake.hold = (match s.intake.hold with
          | .update begun => if begun = true then .free else .update begun
          | _ => u.intake.hold)) ∧
      (∀ k, (t.pixel k).owner = none ∧ (t.pixel k).target = (s.pixel k).target) ∧
      (∀ k i sl, (s.pixel k).owner = some i → s.slot i = some sl → sl.isRunning = true →
        (t.pixel k).shown = none) ∧
      (∀ k, (∀ i sl, (s.pixel k).owner = some i → s.slot i = some sl → sl.isRunning = false) →
        (t.pixel k).shown = (s.pixel k).shown) ∧
      t.flag .collide = s.flag .collide ∧ t.residue = s.residue ∧ t.wave = s.wave ∧ t.comp = s.comp ∧
      t.tables = s.tables ∧ t.temp = s.temp ∧ t.power = s.power ∧ t.store.panel = s.store.panel ∧
      t.link = { s.link with rx := none } ∧
      t.sched.passDue = ((s.sched.passDue || s.anyBusy) && !s.suspended) ∧
      t = { received s with
        intake := { s.intake with hold := t.intake.hold }
        store := { s.store with pixels := t.store.pixels }
        sched := { s.sched with slots := t.sched.slots, requests := [], pass := none, passDue := t.sched.passDue }
        scan := none, rails := t.rails, ev := t.ev, freeCount := t.freeCount } ∧
      (s.rails.state = .on → s.anyDriving = true →
        t.rails = if s.store.panel.holdTime = 0 then { s.rails with
            state := .falling, rise := none, hold := none, fall := some s.store.panel.fallTime }
          else { s.rails with hold := some s.store.panel.holdTime }) ∧
      ((s.rails.state ≠ .on ∨ s.anyDriving = false) → t.rails = s.rails)

/-! ### PANELSET and the rails -/

/-- PANELSET and REINIT_END (R6 to R9): the length and window checks come before every wait; taken, the timing
fields take their clamped values; without a change of window nothing else changes but the pass it triggers; with
one, every pixel record, residue count, pen and clip are set back at once (the pixel records before the
reinitialization ends: log 5) and the Dispatcher is held until REINIT_END, which frees it and triggers a pass in
whatever state it then finds. Either pass comes before a PANELSET behind the record, and neither in FAULT (R112). -/
def Obligations.PanelsetTakesEffect : Prop :=
  (∀ s : State, s.intake.hold = .reinit → exec .reinitEnd s = .next { s with
    intake := { s.intake with hold := .free }
    sched := { s.sched with passDue := s.sched.passDue || decide (s.rails.state ≠ .fault) } }) ∧
  ∀ (s : State) (body : Bytes) (rest : List Record), Dispatches s .panelset body rest →
    let legal : Prop := u16 body 0 ≤ 6144 ∧ 8 ∣ u16 body 0 ∧ 64 ≤ u16 body 2 ∧ u16 body 2 ≤ 2048 ∧
      8 ∣ u16 body 2 ∧ 64 ≤ u16 body 4 ∧ u16 body 4 ≤ 1664
    let p : Panel := ⟨u16 body 0, u16 body 2, u16 body 4, max 8000 (min 40000 (u16 body 6)),
      max 1 (min 100 (u8 body 8)), min 10000 (u16 body 9), max 1 (min 100 (u8 body 11)), u8 body 12 % 128,
      max 1 (min 600 (u16 body 13)), max 1 (min 15 (u8 body 15))⟩
    (body.length ≠ 16 → exec .panelset s = .next (refusedAt s .panelset .length rest)) ∧
    (body.length = 16 → ¬ legal → exec .panelset s = .next (refusedAt s .panelset .field rest)) ∧
    (body.length = 16 → legal → (∀ i, s.slot i = none) → s.comp.draw = none → s.sched.pass = none →
      s.sched.passDue = false →
      (p.window = s.window → exec .panelset s = .next { taken s rest with
        store := { s.store with panel := p }
        sched := { s.sched with passDue := decide (s.rails.state ≠ .fault) } }) ∧
      (p.window ≠ s.window → ∃ t, exec .panelset s = .next t ∧
        (∀ k, t.pixel k = ⟨none, 15, 15, none⟩) ∧ (∀ n, t.residueOf n = 0) ∧
        t = { s with
          intake := ⟨rest, .reinit⟩
          store := { t.store with panel := p }
          residue := t.residue
          comp := ⟨0, p.window, [], 0, none, none⟩ } ∧
        exec .reinitEnd t = .next { t with
          intake := ⟨rest, .free⟩
          sched := { s.sched with passDue := decide (s.rails.state ≠ .fault) } }))

/-- PGOOD and the rise timer (R138, R140, R142, R144): RAIL_EN is on in RISING and ON and off elsewhere; PGOOD
asserted in RISING brings the rails ON, with a frame at once when a slot is ARMED, else with the hold timer, or in
FALLING with a hold time of 0; its loss in ON and the expiry of the rise timer enter FAULT, with every slot ended
and told in ascending order; in every other state PGOOD changes nothing but its level. That FAULT frees an UPDATE
whose first pass has not begun is the model's choice (log 10), and how far a stopped latch had come is free (log 3).
-/
def Obligations.PgoodAndRiseTimerMoveRails : Prop :=
  ∀ s : State,
    (s.railEn = true ↔ s.rails.state = .rising ∨ s.rails.state = .on) ∧
    (s.rails.state = .rising → s.anyArmed = true → ∃ t, exec .pgoodAsserted s = .next t ∧
      t.rails = { s.rails with state := .on, rise := none, pgood := true } ∧
      t.scan = some s.store.panel.framePeriod ∧
      (∀ i sl, s.slot i = some sl → sl.phase = .armed → t.slot i = some { sl with phase := .running 0 }) ∧
      (∀ i, (∀ sl, s.slot i = some sl → sl.phase ≠ .armed) → t.slot i = s.slot i) ∧
      t = { s with rails := t.rails, scan := t.scan, sched := { s.sched with slots := t.sched.slots } }) ∧
    (s.rails.state = .rising → s.anyArmed = false → 0 < s.store.panel.holdTime →
      exec .pgoodAsserted s = .next { s with rails :=
        { s.rails with state := .on, rise := none, hold := some s.store.panel.holdTime, pgood := true } }) ∧
    (s.rails.state = .rising → s.anyArmed = false → s.store.panel.holdTime = 0 →
      exec .pgoodAsserted s = .next { s with rails := { s.rails with
        state := .falling, rise := none, hold := none, fall := some s.store.panel.fallTime, pgood := true } }) ∧
    (s.rails.state ≠ .rising → exec .pgoodAsserted s = .next { s with rails := { s.rails with pgood := true } }) ∧
    (s.rails.state ≠ .on → exec .pgoodLost s = .next { s with rails := { s.rails with pgood := false } }) ∧
    (OwnersLegal s → Store.wf PixelRec.initial s.store.pixels →
      (s.rails.state = .on → ∃ t, exec .pgoodLost s = .next t ∧ faulted s t ∧ t.rails.pgood = false) ∧
      (s.rails.state = .rising → s.rails.rise.isSome = true →
        ∃ t, exec .riseTimerExpiry s = .next t ∧ faulted s t ∧ t.rails.pgood = s.rails.pgood))

/-- The rails go down and out of FAULT (R141, R143 to R145): the hold timer's expiry and a RAILCTL OFF enter
FALLING; a RAILCTL OFF elsewhere and a RAILCTL CLEAR out of FAULT change nothing; a CLEAR in FAULT enters OFF and
triggers a pass, whatever record stands behind it, so that a PANELSET there waits for that pass, which ADMISSION_PASS
begins (R112, R127); the fall timer's expiry enters OFF, or RISING again with a slot ARMED. -/
def Obligations.RailsFallAndClear : Prop :=
  ∀ (s : State) (body : Bytes) (rest : List Record),
    let down : Rails := { s.rails with
      state := .falling, rise := none, hold := none, fall := some s.store.panel.fallTime }
    (s.rails.state = .on → s.rails.hold.isSome = true → exec .holdTimerExpiry s = .next { s with rails := down }) ∧
    (Dispatches s .railctl body rest → body.length ≠ 1 →
      exec .railctlOff s = .next (refusedAt s .railctl .length rest) ∧
      exec .railctlClear s = .next (refusedAt s .railctl .length rest)) ∧
    (Dispatches s .railctl body rest → body.length = 1 → 1 < u8 body 0 →
      exec .railctlOff s = .next (refusedAt s .railctl .field rest) ∧
      exec .railctlClear s = .next (refusedAt s .railctl .field rest)) ∧
    (Dispatches s .railctl body rest → body.length = 1 → u8 body 0 = 0 → (∃ i, (s.slot i).isSome = true) →
      exec .railctlOff s = .next s) ∧
    (Dispatches s .railctl body rest → body.length = 1 → u8 body 0 = 0 → (∀ i, s.slot i = none) →
      (s.rails.state = .on ∨ s.rails.state = .rising →
        exec .railctlOff s = .next { taken s rest with rails := down }) ∧
      (s.rails.state ≠ .on → s.rails.state ≠ .rising → exec .railctlOff s = .next (taken s rest))) ∧
    (Dispatches s .railctl body rest → body.length = 1 → u8 body 0 = 1 →
      (s.rails.state = .fault → exec .railctlClear s = .next { taken s rest with
        rails := { s.rails with state := .off }, sched := { s.sched with passDue := true } }) ∧
      (∀ p next behind, s.rails.state = .fault → s.sched.pass = none →
        rest = ⟨RecordKind.panelset.code, next⟩ :: behind → parsePanelset next = .ok p → ∃ t, exec .railctlClear s = .next t ∧ Dispatches t .panelset next behind ∧
          exec .panelset t = .next t ∧ exec .admissionPass t = .next (State.continuePass { t with
            sched := { t.sched with
              passDue := false, requests := t.sched.requests.map fun q : Request => { q with due := true } } })) ∧
      (s.rails.state ≠ .fault → exec .railctlClear s = .next (taken s rest))) ∧
    (s.rails.state = .falling → s.rails.fall.isSome = true →
      (s.anyArmed = false → exec .fallTimerExpiry s = .next { s with
        rails := { s.rails with state := .off, fall := none } }) ∧
      (s.anyArmed = true → s.rails.pgood = false → exec .fallTimerExpiry s = .next { s with
        rails := { s.rails with state := .rising, rise := some s.store.panel.riseLimit, fall := none } }) ∧
      (s.anyArmed = true → s.rails.pgood = true → ∃ t, exec .fallTimerExpiry s = .next t ∧
        t.rails = { s.rails with state := .on, rise := none, fall := none } ∧
        t.scan = some s.store.panel.framePeriod ∧
        (∀ i sl, s.slot i = some sl → sl.phase = .armed → t.slot i = some { sl with phase := .running 0 }) ∧
        (∀ i, (∀ sl, s.slot i = some sl → sl.phase ≠ .armed) → t.slot i = s.slot i) ∧
        t = { s with rails := t.rails, scan := t.scan, sched := { s.sched with slots := t.sched.slots } }))

/-! ### Temperature -/

/-- TEMPSET (R95): FIXED takes the clamped value at once, stops the sensor and recomputes the band; SENSOR holds
the temperature and begins a read with its interval; both forget the failures and abandon a read in flight, whose
end on the two-wire line is a free cut (R94, log 31). -/
def Obligations.TempsetSelectsSource : Prop :=
  ∀ (s : State) (body : Bytes) (rest : List Record), Dispatches s .tempset body rest →
    (body.length ≠ 3 → exec .tempsetFixed s = .next (refusedAt s .tempset .length rest) ∧
      exec .tempsetSensor s = .next (refusedAt s .tempset .length rest)) ∧
    (body.length = 3 → 1 < u8 body 0 → exec .tempsetFixed s = .next (refusedAt s .tempset .field rest) ∧
      exec .tempsetSensor s = .next (refusedAt s .tempset .field rest)) ∧
    (body.length = 3 → u8 body 0 = 1 → ∃ t cut, exec .tempsetFixed s = .next t ∧ t.temp.source = .fixed ∧
      t.temp.timer = none ∧ exec .sampleIntervalExpiry t = .next t ∧
      rebanded s (max (-640) (min 1360 (s16 body 1))) 0 t ∧
      CutOff s cut ∧ t.temp.wire = s.temp.wire ++ cut ∧
      t = { taken s rest with temp := t.temp, ev := t.ev, freeCount := t.freeCount }) ∧
    (body.length = 3 → u8 body 0 = 0 → ∃ t cut, exec .tempsetSensor s = .next t ∧ CutOff s cut ∧
      t = { taken s rest with
        temp := { s.temp with
          source := .sensor, failures := 0
          readInFlight := some s.store.panel.sensorAddress, timer := some s.store.panel.sampleInterval
          wire := cut ++ [.start, .address s.store.panel.sensorAddress] }
        freeCount := t.freeCount })

/-- Sensor reads (R92 to R94): the interval's expiry in SENSOR and RUN begins a read, with a start condition and the
address in force, and an interval; a success acknowledges the first byte and not the second, ends with a stop
condition, takes the clamped count, first byte most significant, forgets the failures and recomputes the band; a
missing acknowledge ends the read with a stop condition and 25 ms with the release of both lines (after how many
data bytes is free, log 31); both count a failure, hold the temperature, and set TEMPFAIL when the count reaches
3. -/
def Obligations.SensorReadsUpdateTemperature : Prop :=
  ∀ s : State,
    let failed : List WireEvent → State := fun events => { s with
      temp := { s.temp with
        failures := min 255 (s.temp.failures + 1), readInFlight := none, wire := s.temp.wire ++ events }
      ev := if s.temp.failures = 2 then (s.setFlag .tempfail).ev else s.ev }
    (s.temp.timer.isSome = true → s.temp.readInFlight = none → s.temp.source = .sensor → s.power = .run →
      exec .sampleIntervalExpiry s = .next { s with temp := { s.temp with
        readInFlight := some s.store.panel.sensorAddress, timer := some s.store.panel.sampleInterval
        wire := [.start, .address s.store.panel.sensorAddress] } }) ∧
    (s.temp.readInFlight.isSome = true →
      (∀ first second : Byte,
        let count : Int := if first.toNat < 128 then 256 * first.toNat + second.toNat
          else 256 * first.toNat + second.toNat - 65536
        ∃ t, exec (.sensorReadEnd (first, second)) s = .next t ∧
          rebanded s (max (-640) (min 1360 count)) 0 t ∧
          t.temp.wire = s.temp.wire ++ [.ack, .nack, .stop] ∧
          t.temp.source = s.temp.source ∧ t.temp.timer = s.temp.timer ∧
          t = { s with temp := t.temp, ev := t.ev }) ∧
      exec .sensorNoAck s = .next (failed [.stop]) ∧
      ∃ t cut, exec .sensorReadTimeout s = .next t ∧ CutOff s cut ∧
        t = { failed cut with freeCount := t.freeCount })

/-- Band selection (R96) against a header of strictly ascending bounds and a ceiling no lower than the last. -/
def Obligations.BandFollowsHeader : Prop :=
  ∀ (bounds : List Int) (ceiling d : Int), bounds ≠ [] → bounds.Pairwise (· < ·) → (∀ z ∈ bounds, z ≤ ceiling) →
    (d < bounds.headD 0 → bandOf bounds ceiling d = (0, true)) ∧
    (ceiling < d → bandOf bounds ceiling d = (bounds.length - 1, true)) ∧
    (bounds.headD 0 ≤ d → d ≤ ceiling → ∃ i, bandOf bounds ceiling d = (i, false) ∧
      ∃ z, bounds[i]? = some z ∧ z ≤ d ∧ ∀ j z', i < j → bounds[j]? = some z' → d < z')

/-! ### Events and reads -/

/-- EVMASK (R166) and EVCLEAR (R167): a 1 at a position that names no flag is refused FIELD; EVMASK replaces the
whole mask, EVCLEAR clears the flags it names and no other. ATTN, in every power state, is asserted while a flag is
set whose mask bit is enabled, and never while RESET_N is (R166, R169). A TEXT in progress may have set GLYPHMISS
by the time of the EVCLEAR (log 18). -/
def Obligations.MaskAndClearFollowBody : Prop :=
  (∀ s : State, s.attnLine = true ↔
    s.link.resetAsserted = false ∧ ∃ f : Flag, s.flag f = true ∧ s.ev.mask.getLsbD f.bit = true) ∧
  ∀ (s : State) (body : Bytes) (rest : List Record),
    (Dispatches s .evmask body rest →
      (body.length ≠ 2 → exec .evmask s = .next (refusedAt s .evmask .length rest)) ∧
      (body.length = 2 → 0xFFF < u16 body 0 → exec .evmask s = .next (refusedAt s .evmask .field rest)) ∧
      (body.length = 2 → u16 body 0 ≤ 0xFFF → ∃ t, exec .evmask s = .next t ∧ t.ev.mask.toNat = u16 body 0 ∧
        t = { taken s rest with ev := { s.ev with mask := t.ev.mask } } ∧
        (s.link.resetAsserted = false →
          (t.attnLine = true ↔ ∃ f : Flag, s.flag f = true ∧ (u16 body 0).testBit f.bit = true)))) ∧
    (Dispatches s .evclear body rest →
      (body.length ≠ 2 → exec .evclear s = .next (refusedAt s .evclear .length rest)) ∧
      (body.length = 2 → 0xFFF < u16 body 0 → exec .evclear s = .next (refusedAt s .evclear .field rest)) ∧
      (body.length = 2 → u16 body 0 ≤ 0xFFF → ∃ t, exec .evclear s = .next t ∧
        let u := s.freeMisses
        (∀ f : Flag, t.flag f = (u.flag f && !(u16 body 0).testBit f.bit)) ∧
        (∀ f : Flag, f ≠ .glyphmiss → u.flag f = s.flag f) ∧ (s.missesLeft = [] → u = s) ∧
        (∃ found, s.missesLeft = found ++ u.missesLeft ∧
          u.flag .glyphmiss = (s.flag .glyphmiss || !found.isEmpty) ∧
          ∀ pen made misses todo, s.comp.draw = some (.writing (.text pen made misses) todo) →
            u.comp = { s.comp with
              draw := some (.writing (.text pen (found.getLastD made) u.missesLeft) todo) }) ∧
        t = { taken s rest with ev := { s.ev with flags := t.ev.flags }, comp := u.comp, freeCount := u.freeCount }))

/-- READ (R164): an empty body is refused LENGTH, an area above 5 FIELD, and another length than the area's LENGTH,
before any wait. READ of KERN, STYLE, WAVE and RESIDUE (R33, R34, R89, R108, R173, R174): refused FIELD or
REPLY_FULL, else the readback joins the reply queue at once, in the layouts of 10.5, and nothing else changes. A
KERN pair's seven bytes stand from payload offset 7 + 7·j, the left and right code most significant byte first and the
adjustment in two's complement; in the ranges of R26, which every step keeps (StepKeepsPoolLegal), they read back as
the pair's own values. -/
def Obligations.TableReadsQueueReadback : Prop :=
  ∀ (s : State) (body : Bytes) (rest : List Record), Dispatches s .read body rest →
    let answered : Byte → Bytes → State := fun area payload =>
      { taken s rest with ev := { s.ev with replies := s.ev.replies ++ [.readback area payload] } }
    let full : State := refusedAt s .read .replyFull rest
    let list : List KernPair := match s.tables.font (u8 body 1) with
      | some f => f.kern
      | none => []
    let carried := (list.drop (u16 body 2)).take 200
    (∀ row ∈ ([(.readGlyph, 0, 5), (.readKern, 1, 4), (.readStyle, 2, 1), (.readWave, 3, 2), (.readResidue, 4, 5),
        (.readPixels, 5, 10)] : List (Instr × Nat × Nat)),
      (body = [] → exec row.1 s = .next (refusedAt s .read .length rest)) ∧
      (body ≠ [] → 5 < u8 body 0 → exec row.1 s = .next (refusedAt s .read .field rest)) ∧
      (body ≠ [] → u8 body 0 = row.2.1 → body.length ≠ row.2.2 →
        exec row.1 s = .next (refusedAt s .read .length rest))) ∧
    (u8 body 0 = 1 → body.length = 4 → s.tableBusy = false →
      (7 < u8 body 1 → exec .readKern s = .next (refusedAt s .read .field rest)) ∧
      (u8 body 1 ≤ 7 → 16 ≤ s.ev.replies.length → exec .readKern s = .next full) ∧
      (u8 body 1 ≤ 7 → s.ev.replies.length < 16 → ∃ payload, exec .readKern s = .next (answered 1 payload) ∧
        payload = be8 (u8 body 1) ++ be8 (if (s.tables.font (u8 body 1)).isSome then 1 else 0) ++
          be16 list.length ++ be16 (u16 body 2) ++ be8 carried.length ++ carried.flatMap encodeKernPair ∧
        (Reply.readback 1 payload).bytes.length = 11 + 7 * min 200 (list.length - u16 body 2) ∧
        u8 payload 0 = u8 body 1 ∧
        u8 payload 1 = (match s.tables.font (u8 body 1) with | some _ => 1 | none => 0) ∧
        (list.length ≤ 512 → u16 payload 2 = list.length) ∧ u16 payload 4 = u16 body 2 ∧
        u8 payload 6 = min 200 (list.length - u16 body 2) ∧
        ∀ j p, j < 200 → list[u16 body 2 + j]? = some p →
          payload[7 + 7 * j]? = some (BitVec.ofNat 8 (p.left / 65536)) ∧
          payload[7 + 7 * j + 1]? = some (BitVec.ofNat 8 (p.left / 256)) ∧
          payload[7 + 7 * j + 2]? = some (BitVec.ofNat 8 p.left) ∧
          payload[7 + 7 * j + 3]? = some (BitVec.ofNat 8 (p.right / 65536)) ∧
          payload[7 + 7 * j + 4]? = some (BitVec.ofNat 8 (p.right / 256)) ∧
          payload[7 + 7 * j + 5]? = some (BitVec.ofNat 8 p.right) ∧
          payload[7 + 7 * j + 6]? = some (BitVec.ofInt 8 p.adj) ∧
          (p.left ≤ 0x10FFFF → u24 payload (7 + 7 * j) = p.left) ∧
          (p.right ≤ 0x10FFFF → u24 payload (7 + 7 * j + 3) = p.right) ∧
          (-128 ≤ p.adj → p.adj ≤ 127 → s8 payload (7 + 7 * j + 6) = p.adj))) ∧
    (u8 body 0 = 2 → body.length = 1 → s.tableBusy = false →
      (16 ≤ s.ev.replies.length → exec .readStyle s = .next full) ∧
      (s.ev.replies.length < 16 → ∃ payload, exec .readStyle s = .next (answered 2 payload) ∧
        payload = s.tables.styles.toList.flatMap encodeStyle ∧ (Reply.readback 2 payload).bytes.length = 84 ∧
        ∀ n st, s.tables.styles[n]? = some st →
          u8 payload (5 * n) = st.fill.val ∧
          u8 payload (5 * n + 1) = (match st.edgeKind with | .none => 0 | .underline => 1 | .box => 2) ∧
          u8 payload (5 * n + 2) = (match st.pattern with | .solid => 0 | .dotted => 1) ∧
          u8 payload (5 * n + 3) = st.edgeTone.val ∧
          (st.thickness ≤ 4 → u8 payload (5 * n + 4) = st.thickness))) ∧
    (u8 body 0 = 3 → body.length = 2 →
      (1 < u8 body 1 → exec .readWave s = .next (refusedAt s .read .field rest)) ∧
      (u8 body 1 ≤ 1 → 16 ≤ s.ev.replies.length → exec .readWave s = .next full) ∧
      (∀ b : BankId, (match b with | .bankA => 0 | .bankB => 1) = u8 body 1 → s.ev.replies.length < 16 →
        (s.bank b).inBudget →
        let v := s.bank b
        ∃ payload, exec .readWave s = .next (answered 3 payload) ∧
          (Reply.readback 3 payload).bytes.length = 21 + 4 * v.records.length ∧
          u8 payload 0 = u8 body 1 ∧
          u8 payload 1 = (match v.state with | .empty => 0 | .loading => 1 | .active => 2 | .retired => 3) ∧
          u8 payload 2 = (if v.state = .active then 1 else 0) ∧ u8 payload 3 = s.pins b ∧
          u8 payload 4 = v.bounds.length ∧ (∀ j, j < 8 → s8 payload (5 + j) = v.bounds.getD j 0) ∧
          s8 payload 13 = v.ceiling ∧ u8 payload 14 = v.records.length ∧ u16 payload 15 = v.frames ∧
          ∀ j m band w, v.records[j]? = some (waveKey m band, w) → band < 8 →
            u8 payload (17 + 4 * j) = m.code ∧ u8 payload (18 + 4 * j) = band ∧
            u16 payload (19 + 4 * j) = w.frames)) ∧
    (u8 body 0 = 4 → body.length = 5 →
      (16 ≤ s.ev.replies.length → exec .readResidue s = .next full) ∧
      (s.ev.replies.length < 16 → PanelLegal s.store.panel →
        let cols := (s.store.panel.w + 63) / 64
        let rows := (s.store.panel.h + 63) / 64
        let count := min (u16 body 3) (cols * rows - u16 body 1)
        ∃ payload, exec .readResidue s = .next (answered 4 payload) ∧
          (Reply.readback 4 payload).bytes.length = 10 + count ∧
          u8 payload 0 = cols ∧ u8 payload 1 = rows ∧ u16 payload 2 = u16 body 1 ∧ u16 payload 4 = count ∧
          ∀ j, j < count → payload[6 + j]? = some (BitVec.ofNat 8 (s.residueOf (u16 body 1 + j)))))

/-- READ of GLYPH (R32, R172, R174): an absent or empty glyph answers at once; a glyph with coverage values reserves
a place and holds the Dispatcher until READ_GLYPH_END queues the readback made when the READ was taken, whatever has
happened since; and the bytes of the readback, in the layout of 10.5, its padding half-byte 0. -/
def Obligations.GlyphReadHoldsDispatcher : Prop :=
  (∀ (s : State) (payload : Bytes), s.intake.hold = .readGlyph payload → exec .readGlyphEnd s = .next { s with
    intake := { s.intake with hold := .free }
    ev := { s.ev with replies := s.ev.replies ++ [.readback 0 payload] } }) ∧
  ∀ (s : State) (body : Bytes) (rest : List Record),
    Dispatches s .read body rest → u8 body 0 = 0 → body.length = 5 → s.tableBusy = false →
    let slot := u8 body 1
    let code := u24 body 2
    (7 < slot ∨ 0x10FFFF < code → exec .readGlyph s = .next (refusedAt s .read .field rest)) ∧
    (slot ≤ 7 → code ≤ 0x10FFFF → 16 ≤ s.ev.replies.length →
      exec .readGlyph s = .next (refusedAt s .read .replyFull rest)) ∧
    (slot ≤ 7 → code ≤ 0x10FFFF → s.ev.replies.length < 16 → PoolLegal s.tables → ∃ payload,
      let queued : Events := { s.ev with replies := s.ev.replies ++ [.readback 0 payload] }
      let length := (Reply.readback 0 payload).bytes.length
      u8 payload 0 = slot ∧ u24 payload 1 = code ∧
      u8 payload 4 = (if (s.tables.font slot).isSome then 1 else 0) ∧
      u16 payload 6 = s.tables.directory.length ∧ u16 payload 8 = s.tables.freeBlocks ∧
      (s.tables.entry slot code = none → u8 payload 5 = 0 ∧ length = 14 ∧
        exec .readGlyph s = .next { taken s rest with ev := queued }) ∧
      (∀ e, s.tables.entry slot code = some e →
        let bytes := (e.width * e.height + 1) / 2
        u8 payload 5 = 1 ∧ length = 22 + bytes ∧
        u8 payload 10 = e.width ∧ u8 payload 11 = e.height ∧ s8 payload 12 = e.bearingX ∧
        s8 payload 13 = e.bearingY ∧ u32 payload 14 = e.advance ∧
        (∀ j, j < e.width * e.height → coverageOf (payload.getD (18 + j / 2) 0) j = s.tables.coverage e j) ∧
        (e.width * e.height % 2 = 1 → u8 payload (17 + bytes) % 16 = 0) ∧
        (e.width * e.height = 0 → exec .readGlyph s = .next { taken s rest with ev := queued }) ∧
        (0 < e.width * e.height → ∃ t, exec .readGlyph s = .next t ∧
          t = { s with intake := ⟨rest, .readGlyph payload⟩ } ∧ t.reserved = 1 ∧ t.tableBusy = true ∧
          exec .readGlyphEnd t = .next { taken s rest with ev := queued })))

/-- READ of PIXELS (R14, R15, R174): with no draw in progress it is checked, whatever pass runs, and holds the
Dispatcher with a reserved place, to read the first 1,024 pixels of the rectangle ∩ window in row order.
READ_PIXELS_END, in every state with a READ in progress, reads the values still to read, in order, frees the
Dispatcher and queues the readback: the values already read stand first. A value is the field as it stands when its
pixel is read, while a running pass may get on between two reads, never back, by numbers of pixels the spec leaves
open (log 28); with no pass running, it is the field as it stands. A tone or slot number is sent as it is, UNKNOWN
and NONE as 0xFF; an empty intersection gives four zeros and the count 0. -/
def Obligations.PixelReadReturnsFields : Prop :=
  (∀ (s : State) (body : Bytes) (rest : List Record),
    Dispatches s .read body rest → u8 body 0 = 5 → body.length = 10 → s.comp.draw = none →
    (3 < u8 body 9 → exec .readPixels s = .next (refusedAt s .read .field rest)) ∧
    (u8 body 9 ≤ 3 → 16 ≤ s.ev.replies.length → exec .readPixels s = .next (refusedAt s .read .replyFull rest)) ∧
    (∀ field : PixelField, field.code = u8 body 9 → s.ev.replies.length < 16 →
      let area := Rect.inter (rectAt body 1) s.window
      let count := min 1024 (area.w * area.h)
      ∃ t todo, exec .readPixels s = .next t ∧
        t = { s with intake := ⟨rest, .readPixels ⟨field, area, decide (1024 < area.w * area.h), todo, []⟩⟩ } ∧
        t.reserved = 1 ∧ todo.length = count ∧
        (∀ x y : Int, area.has x y = true ↔ (rectAt body 1).has x y = true ∧ s.window.has x y = true) ∧
        (area.w * area.h = 0 → area = ⟨0, 0, 0, 0⟩) ∧
        (s.window.onPage → ∀ n, n < count →
          todo[n]? = some (pixelKey (area.x.toNat + n % area.w) (area.y.toNat + n / area.w)))) ∧
    (∀ field : PixelField, field.code = u8 body 9 → s.ev.replies.length < 16 → s.sched.pass = none →
      s.window.onPage →
      let area := Rect.inter (rectAt body 1) s.window
      let count := min 1024 (area.w * area.h)
      ∃ t u values, exec .readPixels s = .next t ∧ t = { s with intake := { t.intake with queue := rest } } ∧
        t.reserved = 1 ∧ exec .readPixelsEnd t = .next u ∧
        u = { taken s rest with
          freeCount := u.freeCount
          ev := { s.ev with replies := s.ev.replies ++ [.readback 5
            (be8 (u8 body 9) ++ be8 (if 1024 < area.w * area.h then 1 else 0) ++ encodeRect area ++
              be16 count ++ values)] } } ∧
        values.length = count ∧
        (∀ x y : Int, area.has x y = true ↔ (rectAt body 1).has x y = true ∧ s.window.has x y = true) ∧
        ∀ n, n < count → values[n]? = some (fieldCode field
          (s.pixel (pixelKey (area.x.toNat + n % area.w) (area.y.toNat + n / area.w)))))) ∧
  (∀ (s : State) (r : PixelRead), s.intake.hold = .readPixels r →
    ∃ (u : State) (more : Bytes) (n : Nat) (passed : Nat → Nat), exec .readPixelsEnd s = .next u ∧
      u = { s with
        intake := { s.intake with hold := .free }
        store := (s.advancePass n).store, sched := (s.advancePass n).sched, freeCount := u.freeCount
        ev := { s.ev with replies := s.ev.replies ++ [.readback 5
          (be8 r.selector.code ++ be8 (if r.truncated = true then 1 else 0) ++ encodeRect r.rect ++
            be16 (r.values.length + r.todo.length) ++ (r.values ++ more))] } } ∧
      more.length = r.todo.length ∧ (∀ j, passed j ≤ passed (j + 1) ∧ passed j ≤ n) ∧
      (∀ j k : Nat, r.todo[j]? = some k → more[j]? = some (fieldCode r.selector ((s.advancePass (passed j)).pixel k))) ∧
      (s.sched.pass = none → u.store = s.store ∧ u.sched = s.sched ∧ u.freeCount = s.freeCount ∧
        ∀ j k : Nat, r.todo[j]? = some k → more[j]? = some (fieldCode r.selector (s.pixel k)))) ∧
  ∀ p : PixelRec,
    (∀ v : Tone, p.shown = some v → fieldCode .shown p = BitVec.ofNat 8 v.val) ∧
    (p.shown = none → fieldCode .shown p = 0xFF) ∧
    fieldCode .target p = BitVec.ofNat 8 p.target.val ∧ fieldCode .goal p = BitVec.ofNat 8 p.goal.val ∧
    (∀ i : Fin 16, p.owner = some i → fieldCode .owner p = BitVec.ofNat 8 i.val) ∧
    (p.owner = none → fieldCode .owner p = 0xFF)

/-! ### Power states and resets -/

/-- SLEEP and DEEP (R148, R11): with no draw and the Table Store free, BUSY is refused while a slot, a request or
the rails are; else in one step the intake queue is emptied without a flag, the sensor stops, and the power state
changes; HOLD is released, the flags and replies are kept, and an in-order record or a CANCEL, HALT or RESET in
reception is to be discarded without a flag, every other record in reception going on as its header decode decided
(R170); DEEP loses the SDRAM: that its pixel records read as reinitialized at once is log 5, that its pool bytes
read 0 is log 8, and how an abandoned sensor read ends on its line is log 31. -/
def Obligations.SleepEntersPowerState : Prop :=
  ∀ (s : State) (body : Bytes) (rest : List Record) (c : Instr) (p : Power) (option : Nat),
    (c, p, option) ∈ [(Instr.sleep, Power.sleep, 0), (.sleepDeep, .deep, 1)] →
    Dispatches s .sleep body rest → s.comp.draw = none → s.tableBusy = false → body.length = 1 →
    (1 < u8 body 0 → exec c s = .next (refusedAt s .sleep .field rest)) ∧
    (u8 body 0 = option →
      let busy : Prop := (∃ i, (s.slot i).isSome = true) ∨ s.sched.requests ≠ [] ∨
        (s.rails.state ≠ .off ∧ s.rails.state ≠ .fault)
      (busy → exec c s = .next (refusedAt s .sleep .busy rest)) ∧
      (¬ busy → ∃ t cut, exec c s = .next t ∧ CutOff s cut ∧ t.power = p ∧ t.intake = ⟨[], .free⟩ ∧
        (s.link.resetAsserted = false → t.holdLine = false) ∧ t.intakeUsed = 0 ∧
        t.temp = { s.temp with readInFlight := none, timer := none, wire := s.temp.wire ++ cut } ∧
        (s.link.rx = none → t.link.rx = none) ∧
        (∀ rx, s.link.rx = some rx → t.link.rx = some (if rx.disp = .reserved ∨ rx.disp = .express then
          { rx with disp := .silent } else rx)) ∧
        (p = .sleep → t.store = s.store ∧ t.tables = s.tables) ∧
        (p = .deep → (∀ k, t.pixel k = ⟨none, 15, 15, none⟩) ∧
          (∀ a, Memory.read t.tables.pool a = poolDefault)) ∧
        t = { s with
          link := { s.link with rx := t.link.rx }
          intake := t.intake, temp := t.temp, power := p, freeCount := t.freeCount
          store := { s.store with pixels := t.store.pixels }
          tables := { s.tables with pool := t.tables.pool } }))

/-- WAKE and WAKING_END (R150, R151): the wake pattern begins WAKING and any other body leaves the station
asleep; at its end RUN begins with the WAKE flag and a sensor read in SENSOR; a wake from SLEEP keeps every
block's state; one from DEEP has rebuilt the pixel records, the fonts, the directory and the clip state, and
keeps styles, banks, residue and window. Within WAKING the instant of the rebuild is open (log 6). -/
def Obligations.WakePatternEndsSleep : Prop :=
  (∀ (s : State) (target : Byte) (flagged : Bool) (body : Bytes) (deep : Bool),
    s.power = (if deep then .deep else .sleep) →
    s.link.rx = some ⟨0x71, target, body.length, flagged, .wakeMatch⟩ →
    let complement := BitVec.ofNat 8 (255 - target.toNat)
    let pattern := [target, complement, target, complement, target, complement, target, complement]
    (body = pattern → ∃ t, exec (.wake body) s = .next t ∧ t = { received s with power := .waking deep } ∧
      t.holdLine = true) ∧
    (body ≠ pattern → exec (.wake body) s = .next (received s))) ∧
  ∀ (s : State) (deep : Bool), s.power = .waking deep → ∃ t, exec .wakingEnd s = .next t ∧ t.power = .run ∧
    t.ev = (s.setFlag .wake).ev ∧
    (s.temp.source = .sensor → t.temp = { s.temp with
      readInFlight := some s.store.panel.sensorAddress, timer := some s.store.panel.sampleInterval
      wire := [.start, .address s.store.panel.sensorAddress] }) ∧
    (s.temp.source = .fixed → t.temp = s.temp) ∧
    (deep = false → t = { s with power := .run, ev := t.ev, temp := t.temp }) ∧
    (deep = true → (∀ k, t.pixel k = ⟨none, 15, 15, none⟩) ∧ (∀ n, t.tables.font n = none) ∧
      t.tables.directory = [] ∧ t.tables.freeBlocks = 16384 ∧ t.tables.styles = s.tables.styles ∧
      t.tables.glyphWrite = none ∧ t.tables.pool = s.tables.pool ∧
      t.comp = ⟨0, s.window, [], 0, none, none⟩ ∧
      t = { s with
        power := .run, ev := t.ev, temp := t.temp, comp := t.comp, tables := t.tables
        store := { s.store with pixels := t.store.pixels } })

/-- The soft reset of RESET and RESET_KEEP_TABLES (R168) in every block: the link side, pixels (R13), slots and
requests (R128), rails (R146), drawing (R50, R58, R60, R67, R73), tables and banks (R24, R31, R88), temperature
(R98), a reinitialization goes on (R10); an ill-formed RESET resets nothing. An abandoned draw record has written a
prefix of its walk, at least as far as a lookup that has set GLYPHMISS; how long a prefix is free (log 3). That an
abandoned glyph write has left no pool byte is the model's choice (log 8). Every goal stays (R3), as a stopped latch
has left it by then, which is free (log 3). -/
def Obligations.SoftResetInEveryBlock : Prop :=
  (∀ (s : State) (body : Bytes) (c : Instr), c ∈ [Instr.reset body, .resetKeepTables body] →
    Expressed s .reset body.length →
    (body.length ≠ 1 → exec c s = .next ((received s).refuse 0x72 .length)) ∧
    (body.length = 1 → 1 < u8 body 0 → exec c s = .next ((received s).refuse 0x72 .field))) ∧
  ∀ (s : State) (keep : Bool), Expressed s .reset 1 → OwnersLegal s → Store.wf PixelRec.initial s.store.pixels →
    ∃ t cut, exec (if keep then .resetKeepTables [1] else .reset [0]) s = .next t ∧ CutOff s cut ∧
      t.link = { s.link with rx := none } ∧ t.intake.queue = [] ∧ t.reserved = 0 ∧ t.pending = s.pending ∧
      t.intake.hold = (if s.intake.hold = .reinit then .reinit else .free) ∧
      (t.intake.hold = .reinit ↔ s.intake.hold = .reinit) ∧
      t.ev = ⟨0, 0xFFF, [], none⟩ ∧ t.power = s.power ∧
      (∀ i, t.slot i = none) ∧ t.sched.requests = [] ∧ t.sched.pass = none ∧ t.sched.passDue = false ∧
      t.scan = none ∧ t.comp = ⟨0, s.window, [], 0, none, none⟩ ∧
      t.store.panel = s.store.panel ∧ t.residue = s.residue ∧
      (∀ k, (t.pixel k).owner = none) ∧
      (∃ u, u = atCut (received s) ∧ WalkedOn (received s) u ∧ (s.anyBusy = false → u = received s) ∧
        ∀ k, (t.pixel k).goal = (u.pixel k).goal) ∧
      ((∀ kind writes, s.comp.draw ≠ some (.writing kind writes)) →
        ∀ k, (t.pixel k).target = (s.pixel k).target) ∧
      (∀ kind writes, s.comp.draw = some (.writing kind writes) → ∃ n, kind.made ≤ n ∧
        ∀ k, (t.pixel k).target = (pixelAt (writeTargets s.store.pixels (writes.take n)) k).target) ∧
      (∀ k i sl, (s.pixel k).owner = some i → s.slot i = some sl → sl.isRunning = true →
        (t.pixel k).shown = none) ∧
      (∀ k, (∀ i sl, (s.pixel k).owner = some i → s.slot i = some sl → sl.isRunning = false) →
        (t.pixel k).shown = (s.pixel k).shown) ∧
      (s.rails.state = .rising ∨ s.rails.state = .on → t.rails = { s.rails with
        state := .falling, rise := none, hold := none, fall := some s.store.panel.fallTime }) ∧
      (s.rails.state = .falling → t.rails = s.rails) ∧
      (s.rails.state = .off ∨ s.rails.state = .fault → t.rails = ⟨.off, none, none, none, s.rails.pgood⟩) ∧
      t.temp = { s.temp with
        failures := 0
        band := if keep then s.temp.band else none
        readInFlight := if s.temp.source = .sensor then some s.store.panel.sensorAddress else none
        timer := if s.temp.source = .sensor then some s.store.panel.sampleInterval else none
        wire := if s.temp.source = .sensor then cut ++ [.start, .address s.store.panel.sensorAddress]
          else s.temp.wire ++ cut } ∧
      (keep = true → t.wave = s.wave ∧ t.tables = { s.tables with glyphWrite := none }) ∧
      (keep = false → (∀ b, t.bank b = ⟨.empty, [], 0, []⟩) ∧ (∀ n, t.tables.font n = none) ∧
        t.tables.directory = [] ∧ t.tables.freeBlocks = 16384 ∧ t.tables.glyphWrite = none ∧
        t.tables.pool = s.tables.pool ∧ ∀ n, t.tables.style n = ⟨15, .none, .solid, 0, 1⟩)

/-- FETCHLIVE and FETCHQUEUE (R162, R163, R173, R175): MISO carries the bytes fixed at header decode, then 0x00;
serving the live status changes no state; the served reply is removed when at least its length was clocked, and EMPTY
removes nothing. The 40 bytes of the live status stand at the positions of 10.6. -/
def Obligations.FetchesDriveMiso : Prop :=
  (∀ (s : State) (kind target : Byte) (n : Nat) (flagged : Bool) (snapshot : Bytes),
    s.link.rx = some ⟨kind, target, n, flagged, .fetchLive snapshot⟩ →
    ∃ t, exec .fetchlive s = .next t ∧ t = { s with link := { s.link with rx := none, miso := t.link.miso } } ∧
      t.link.miso.length = n ∧
      ∀ i, i < n → t.link.miso[i]? = some (snapshot.getD i 0)) ∧
  (∀ s : State, Safe s →
    let l := s.liveStatus
    let count : (Option Slot → Bool) → Nat := fun p => ((List.finRange 16).filter fun i => p (s.slot i)).length
    let bankState : BankState → Nat := fun st =>
      match st with | .empty => 0 | .loading => 1 | .active => 2 | .retired => 3
    l.length = 40 ∧
    u8 l 0 = (match s.power with | .starting => 0 | .run => 1 | .sleep => 2 | .deep => 3 | .waking _ => 4) ∧
    u8 l 1 = (match s.rails.state with | .off => 0 | .rising => 1 | .on => 2 | .falling => 3 | .fault => 4) ∧
    u16 l 2 = s.intakeUsed ∧ u8 l 4 = s.sched.requests.length ∧
    u8 l 5 = count Option.isNone ∧ u8 l 6 = count (fun o => o.any fun sl => sl.phase = .latching) ∧
    u8 l 7 = count (fun o => o.any fun sl => sl.phase = .armed) ∧ u8 l 8 = count (fun o => o.any Slot.isRunning) ∧
    u8 l 9 = (if s.comp.draw.isSome then 1 else 0) + (if s.tableBusy = true then 2 else 0) ∧
    u8 l 10 = bankState s.wave.bankA.state ∧ u8 l 11 = s.pins .bankA ∧
    u8 l 12 = bankState s.wave.bankB.state ∧ u8 l 13 = s.pins .bankB ∧
    u8 l 14 = (match s.activeBank with | none => 0xFF | some .bankA => 0 | some .bankB => 1) ∧
    u8 l 15 = (match s.temp.source with | .sensor => 0 | .fixed => 1) ∧
    s16 l 16 = s.temp.current ∧ u8 l 18 = s.temp.band.getD 0xFF ∧ u8 l 19 = s.temp.failures ∧
    u16 l 20 = s.ev.flags.toNat ∧ u16 l 22 = s.ev.mask.toNat ∧
    (s.ev.lastRefusal = none → u8 l 24 = 0 ∧ u8 l 25 = 0) ∧
    (∀ kind r, s.ev.lastRefusal = some (kind, r) → u8 l 24 = kind.toNat ∧ 1 ≤ u8 l 25 ∧
      [Reason.length, .field, .noFont, .storeFull, .order, .emptyBank, .state, .busy, .replyFull,
        .unknownKind][u8 l 25 - 1]? = some r) ∧
    u8 l 26 = s.comp.clipStack.length ∧ u8 l 27 = s.comp.excess ∧ s32 l 28 = s.comp.pen ∧
    u8 l 32 = s.ev.replies.length ∧ u8 l 33 = s.link.address.val ∧
    u16 l 34 = s.store.panel.x0 ∧ u16 l 36 = s.store.panel.w ∧ u16 l 38 = s.store.panel.h) ∧
  (∀ (s : State) (target : Byte) (n : Nat) (flagged : Bool) (head : Reply) (more : List Reply),
    s.link.rx = some ⟨0x7F, target, n, flagged, .fetchQueue (some head)⟩ → s.ev.replies = head :: more →
    ∃ t, exec .fetchqueue s = .next t ∧
      t.ev.replies = (if head.bytes.length ≤ n then more else head :: more) ∧
      t = { s with
        link := { s.link with rx := none, miso := t.link.miso }
        ev := { s.ev with replies := t.ev.replies } } ∧
      ∀ i, i < n → t.link.miso[i]? = some (head.bytes.getD i 0)) ∧
  ∀ (s : State) (target : Byte) (n : Nat) (flagged : Bool),
    s.link.rx = some ⟨0x7F, target, n, flagged, .fetchQueue none⟩ →
    ∃ t, exec .fetchqueue s = .next t ∧ t = { s with link := { s.link with rx := none, miso := t.link.miso } } ∧
      ∀ i, i < n → t.link.miso[i]? = some (([0x00, 0x00, 0x00, 0x04] : Bytes).getD i 0)

/-! ### Frames -/

/-- The drives of a frame (R4, R76, R87, R134): outputs and lines beyond the window, pixels no RUNNING slot owns,
and every output while no frame is in progress receive NONE; a pixel of a RUNNING slot receives the drive that
its pinned record's matrix for the slot's frame index gives, by (shown, goal), or by goal for CLEAN, the code 3
read as NONE. -/
def Obligations.FrameDrivesFollowMatrix : Prop :=
  ∀ (s : State) (col row : Nat),
    let k := pixelKey (s.store.panel.x0 + col) row
    let p := s.pixel k
    let drive : Bytes → Nat → Drive := fun matrices d =>
      match (u8 matrices (d / 4)).testBit (7 - 2 * (d % 4)), (u8 matrices (d / 4)).testBit (6 - 2 * (d % 4)) with
      | false, true => .darken
      | true, false => .lighten
      | _, _ => .none
    ((s.scan = none ∨ s.store.panel.w ≤ col ∨ s.store.panel.h ≤ row ∨ p.owner = none) →
      s.outputDrive col row = .none) ∧
    (∀ i sl, p.owner = some i → s.slot i = some sl → sl.isRunning = false → s.outputDrive col row = .none) ∧
    (∀ i sl index v, s.scan.isSome = true → col < s.store.panel.w → row < s.store.panel.h →
      p.owner = some i → s.slot i = some sl → sl.phase = .running index →
      (s.bank sl.bank).record sl.mode sl.band = some v → index < v.frames →
      (sl.mode = .clean → s.outputDrive col row = drive v.drives (16 * index + p.goal.val)) ∧
      (∀ shown, sl.mode ≠ .clean → p.shown = some shown →
        s.outputDrive col row = drive v.drives (256 * index + (16 * shown.val + p.goal.val))))

/-! ### Record bodies -/

/-- Reading a body written in the layouts of 10.4 (and R29) gives the fields back, at every value the ranges
allow: TEXT, HILITE, UPDATE, PANELSET and STYLESET. -/
def Obligations.RecordBodiesRoundTrip : Prop :=
  (∀ x : TextRec, x.slot ≤ 7 → -2147483648 ≤ x.penX → x.penX ≤ 2147483647 →
    (x.continued = false → -8192 ≤ x.penX ∧ x.penX ≤ 65535) → -256 ≤ x.baseline → x.baseline ≤ 2047 →
    -64 ≤ x.track → x.track ≤ 63 → 1 ≤ x.codes.length → x.codes.length ≤ 250 → (∀ c ∈ x.codes, c ≤ 0x10FFFF) →
    parseText (encodeText x) = .ok x) ∧
  (∀ h : HiliteRec, h.style ≤ 15 → 1 ≤ h.rects.length → h.rects.length ≤ 32 →
    (∀ r ∈ h.rects, Rect.onWire r) → parseHilite (encodeHilite h) = .ok h) ∧
  (∀ u : UpdateRec, Rect.onWire u.rect → u.allowed ≠ [] →
    u.allowed = Mode.all.filter (fun m => m ∈ u.allowed) → parseUpdate (encodeUpdate u) = .ok u) ∧
  (∀ p : Panel, PanelLegal p → parsePanelset (encodePanelset p) = .ok p) ∧
  (∀ (n : Nat) (st : Style), n ≤ 15 → 1 ≤ st.thickness → st.thickness ≤ 4 →
    parseStyleset (be8 n ++ encodeStyle st) = .ok (n, st))

/-! ### Invariants that every step keeps -/

/-- Every list stays canonical: pixel records, pool bytes, directory, residue counts and waveform records. -/
def Obligations.StepKeepsStoresCanonical : Prop :=
  ∀ s t : State, StoresCanonical s → step s = .next t → StoresCanonical t

/-- The window and timing fields stay in their ranges, and the clip state stays legal (R6, R68). -/
def Obligations.StepKeepsClipInWindow : Prop :=
  ∀ s t : State, ClipLegal s → PanelLegal s.store.panel → step s = .next t →
    ClipLegal t ∧ PanelLegal t.store.panel

/-- The intake, reply and request queues stay within their capacities (R111, R156, R161). -/
def Obligations.StepKeepsQueuesBounded : Prop :=
  ∀ s t : State, QueuesBounded s → step s = .next t → QueuesBounded t

/-- The banks and their pins stay legal: a pinned bank is neither cleared nor written (R77, R79, R85, R86). -/
def Obligations.StepKeepsBanksLegal : Prop :=
  ∀ s t : State, BanksLegal s → StoresCanonical s → step s = .next t → BanksLegal t

/-- Owners, slots, the scanner and the rails go on agreeing, and outside RUN nothing is in progress (R104, R113,
R116, R118, R120, R132, R138 to R144, R147). A triggered pass stays one that can begin, and an UPDATE that holds the
Dispatcher keeps a pass to wait for (R110, R112; in FAULT: log 10). -/
def Obligations.StepKeepsOwnersAndRails : Prop :=
  (∀ s t : State, PassLegal s → step s = .next t → PassLegal t) ∧
  ∀ s t : State, StoresCanonical s → OwnersLegal s → RailsLegal s → (s.power ≠ .run → Quiet s) →
    (s.link.resetAsserted = true → s.power = .starting) → step s = .next t →
    OwnersLegal t ∧ RailsLegal t ∧ (t.power ≠ .run → Quiet t) ∧
      (t.link.resetAsserted = true → t.power = .starting)

/-- Each pool block stays free or held once, and the directory legal (R17, R20, R21); and font headers, kern lists
and styles stay in their ranges, every kern list strictly ascending (R17, R26, R28). -/
def Obligations.StepKeepsPoolLegal : Prop :=
  (∀ s t : State, PoolLegal s.tables → step s = .next t → PoolLegal t.tables) ∧
  ∀ s t : State, FontsLegal s.tables → step s = .next t → FontsLegal t.tables

/-- The temperature, the failure count and the band stay in their ranges and the two-wire line agrees with the read
in flight (R91 to R94; its form is log 31), and the pen stays in its range (R37, R39). -/
def Obligations.StepKeepsTemperatureAndPen : Prop :=
  ∀ s t : State, TemperatureLegal s → PenLegal s → PanelLegal s.store.panel → BanksLegal s →
    step s = .next t → TemperatureLegal t ∧ PenLegal t

/-- The state after reset meets every invariant. -/
def Obligations.ResetIsSafe : Prop :=
  Safe State.reset ∧ FontsLegal State.reset.tables ∧ PassLegal State.reset
end

