-- ==== Sys2Proof/Laws/State.lean ====
section
/-! SUPPORT. One lemma for each field after each update of State, so that no later proof unfolds a record
update. -/

namespace Sys2Proof.Machine

variable (s : State)

/-! `State.setFlag` -/

@[simp] theorem State.setFlag_link (f : Flag) : (s.setFlag f).link = s.link := rfl
@[simp] theorem State.setFlag_intake (f : Flag) : (s.setFlag f).intake = s.intake := rfl
@[simp] theorem State.setFlag_ev (f : Flag) :
    (s.setFlag f).ev =
      { s.ev with flags := s.ev.flags ||| BitVec.twoPow 12 f.bit } := rfl
@[simp] theorem State.setFlag_tables (f : Flag) : (s.setFlag f).tables = s.tables := rfl
@[simp] theorem State.setFlag_comp (f : Flag) : (s.setFlag f).comp = s.comp := rfl
@[simp] theorem State.setFlag_store (f : Flag) : (s.setFlag f).store = s.store := rfl
@[simp] theorem State.setFlag_wave (f : Flag) : (s.setFlag f).wave = s.wave := rfl
@[simp] theorem State.setFlag_temp (f : Flag) : (s.setFlag f).temp = s.temp := rfl
@[simp] theorem State.setFlag_residue (f : Flag) : (s.setFlag f).residue = s.residue := rfl
@[simp] theorem State.setFlag_sched (f : Flag) : (s.setFlag f).sched = s.sched := rfl
@[simp] theorem State.setFlag_scan (f : Flag) : (s.setFlag f).scan = s.scan := rfl
@[simp] theorem State.setFlag_rails (f : Flag) : (s.setFlag f).rails = s.rails := rfl
@[simp] theorem State.setFlag_power (f : Flag) : (s.setFlag f).power = s.power := rfl
@[simp] theorem State.setFlag_freeCount (f : Flag) : (s.setFlag f).freeCount = s.freeCount := rfl
@[simp] theorem State.setFlag_pending (f : Flag) : (s.setFlag f).pending = s.pending := rfl

/-! `State.setFlagIf` -/

@[simp] theorem State.setFlagIf_link (c : Bool) (f : Flag) : (s.setFlagIf c f).link = s.link := by cases c <;> rfl
@[simp] theorem State.setFlagIf_intake (c : Bool) (f : Flag) :
    (s.setFlagIf c f).intake =
      s.intake := by cases c <;> rfl
@[simp] theorem State.setFlagIf_tables (c : Bool) (f : Flag) :
    (s.setFlagIf c f).tables =
      s.tables := by cases c <;> rfl
@[simp] theorem State.setFlagIf_comp (c : Bool) (f : Flag) : (s.setFlagIf c f).comp = s.comp := by cases c <;> rfl
@[simp] theorem State.setFlagIf_store (c : Bool) (f : Flag) : (s.setFlagIf c f).store = s.store := by cases c <;> rfl
@[simp] theorem State.setFlagIf_wave (c : Bool) (f : Flag) : (s.setFlagIf c f).wave = s.wave := by cases c <;> rfl
@[simp] theorem State.setFlagIf_temp (c : Bool) (f : Flag) : (s.setFlagIf c f).temp = s.temp := by cases c <;> rfl
@[simp] theorem State.setFlagIf_residue (c : Bool) (f : Flag) :
    (s.setFlagIf c f).residue =
      s.residue := by cases c <;> rfl
@[simp] theorem State.setFlagIf_sched (c : Bool) (f : Flag) : (s.setFlagIf c f).sched = s.sched := by cases c <;> rfl
@[simp] theorem State.setFlagIf_scan (c : Bool) (f : Flag) : (s.setFlagIf c f).scan = s.scan := by cases c <;> rfl
@[simp] theorem State.setFlagIf_rails (c : Bool) (f : Flag) : (s.setFlagIf c f).rails = s.rails := by cases c <;> rfl
@[simp] theorem State.setFlagIf_power (c : Bool) (f : Flag) : (s.setFlagIf c f).power = s.power := by cases c <;> rfl
@[simp] theorem State.setFlagIf_freeCount (c : Bool) (f : Flag) :
    (s.setFlagIf c f).freeCount =
      s.freeCount := by cases c <;> rfl
@[simp] theorem State.setFlagIf_pending (c : Bool) (f : Flag) :
    (s.setFlagIf c f).pending =
      s.pending := by cases c <;> rfl

/-! `State.refuse` -/

@[simp] theorem State.refuse_link (k : Byte) (r : Reason) : (s.refuse k r).link = s.link := rfl
@[simp] theorem State.refuse_intake (k : Byte) (r : Reason) : (s.refuse k r).intake = s.intake := rfl
@[simp] theorem State.refuse_ev (k : Byte) (r : Reason) :
    (s.refuse k r).ev =
      { s.ev with flags := s.ev.flags ||| BitVec.twoPow 12 Flag.refused.bit, lastRefusal := some (k, r) } := rfl
@[simp] theorem State.refuse_tables (k : Byte) (r : Reason) : (s.refuse k r).tables = s.tables := rfl
@[simp] theorem State.refuse_comp (k : Byte) (r : Reason) : (s.refuse k r).comp = s.comp := rfl
@[simp] theorem State.refuse_store (k : Byte) (r : Reason) : (s.refuse k r).store = s.store := rfl
@[simp] theorem State.refuse_wave (k : Byte) (r : Reason) : (s.refuse k r).wave = s.wave := rfl
@[simp] theorem State.refuse_temp (k : Byte) (r : Reason) : (s.refuse k r).temp = s.temp := rfl
@[simp] theorem State.refuse_residue (k : Byte) (r : Reason) : (s.refuse k r).residue = s.residue := rfl
@[simp] theorem State.refuse_sched (k : Byte) (r : Reason) : (s.refuse k r).sched = s.sched := rfl
@[simp] theorem State.refuse_scan (k : Byte) (r : Reason) : (s.refuse k r).scan = s.scan := rfl
@[simp] theorem State.refuse_rails (k : Byte) (r : Reason) : (s.refuse k r).rails = s.rails := rfl
@[simp] theorem State.refuse_power (k : Byte) (r : Reason) : (s.refuse k r).power = s.power := rfl
@[simp] theorem State.refuse_freeCount (k : Byte) (r : Reason) : (s.refuse k r).freeCount = s.freeCount := rfl
@[simp] theorem State.refuse_pending (k : Byte) (r : Reason) : (s.refuse k r).pending = s.pending := rfl

/-! `State.putReply` -/

@[simp] theorem State.putReply_link (r : Reply) : (s.putReply r).link = s.link := rfl
@[simp] theorem State.putReply_intake (r : Reply) : (s.putReply r).intake = s.intake := rfl
@[simp] theorem State.putReply_ev (r : Reply) :
    (s.putReply r).ev =
      { s.ev with replies := s.ev.replies ++ [r] } := rfl
@[simp] theorem State.putReply_tables (r : Reply) : (s.putReply r).tables = s.tables := rfl
@[simp] theorem State.putReply_comp (r : Reply) : (s.putReply r).comp = s.comp := rfl
@[simp] theorem State.putReply_store (r : Reply) : (s.putReply r).store = s.store := rfl
@[simp] theorem State.putReply_wave (r : Reply) : (s.putReply r).wave = s.wave := rfl
@[simp] theorem State.putReply_temp (r : Reply) : (s.putReply r).temp = s.temp := rfl
@[simp] theorem State.putReply_residue (r : Reply) : (s.putReply r).residue = s.residue := rfl
@[simp] theorem State.putReply_sched (r : Reply) : (s.putReply r).sched = s.sched := rfl
@[simp] theorem State.putReply_scan (r : Reply) : (s.putReply r).scan = s.scan := rfl
@[simp] theorem State.putReply_rails (r : Reply) : (s.putReply r).rails = s.rails := rfl
@[simp] theorem State.putReply_power (r : Reply) : (s.putReply r).power = s.power := rfl
@[simp] theorem State.putReply_freeCount (r : Reply) : (s.putReply r).freeCount = s.freeCount := rfl
@[simp] theorem State.putReply_pending (r : Reply) : (s.putReply r).pending = s.pending := rfl

/-! `State.notify` -/

@[simp] theorem State.notify_link (w : Bool) (n : Notice) :
    (s.notify w n).link =
      s.link := by unfold State.notify; split <;> [rfl; (split <;> rfl)]
@[simp] theorem State.notify_intake (w : Bool) (n : Notice) :
    (s.notify w n).intake =
      s.intake := by unfold State.notify; split <;> [rfl; (split <;> rfl)]
@[simp] theorem State.notify_tables (w : Bool) (n : Notice) :
    (s.notify w n).tables =
      s.tables := by unfold State.notify; split <;> [rfl; (split <;> rfl)]
@[simp] theorem State.notify_comp (w : Bool) (n : Notice) :
    (s.notify w n).comp =
      s.comp := by unfold State.notify; split <;> [rfl; (split <;> rfl)]
@[simp] theorem State.notify_store (w : Bool) (n : Notice) :
    (s.notify w n).store =
      s.store := by unfold State.notify; split <;> [rfl; (split <;> rfl)]
@[simp] theorem State.notify_wave (w : Bool) (n : Notice) :
    (s.notify w n).wave =
      s.wave := by unfold State.notify; split <;> [rfl; (split <;> rfl)]
@[simp] theorem State.notify_temp (w : Bool) (n : Notice) :
    (s.notify w n).temp =
      s.temp := by unfold State.notify; split <;> [rfl; (split <;> rfl)]
@[simp] theorem State.notify_residue (w : Bool) (n : Notice) :
    (s.notify w n).residue =
      s.residue := by unfold State.notify; split <;> [rfl; (split <;> rfl)]
@[simp] theorem State.notify_sched (w : Bool) (n : Notice) :
    (s.notify w n).sched =
      s.sched := by unfold State.notify; split <;> [rfl; (split <;> rfl)]
@[simp] theorem State.notify_scan (w : Bool) (n : Notice) :
    (s.notify w n).scan =
      s.scan := by unfold State.notify; split <;> [rfl; (split <;> rfl)]
@[simp] theorem State.notify_rails (w : Bool) (n : Notice) :
    (s.notify w n).rails =
      s.rails := by unfold State.notify; split <;> [rfl; (split <;> rfl)]
@[simp] theorem State.notify_power (w : Bool) (n : Notice) :
    (s.notify w n).power =
      s.power := by unfold State.notify; split <;> [rfl; (split <;> rfl)]
@[simp] theorem State.notify_freeCount (w : Bool) (n : Notice) :
    (s.notify w n).freeCount =
      s.freeCount := by unfold State.notify; split <;> [rfl; (split <;> rfl)]
@[simp] theorem State.notify_pending (w : Bool) (n : Notice) :
    (s.notify w n).pending =
      s.pending := by unfold State.notify; split <;> [rfl; (split <;> rfl)]

/-! `State.pop` -/

@[simp] theorem State.pop_link : (s.pop).link = s.link := rfl
@[simp] theorem State.pop_intake : (s.pop).intake = { s.intake with queue := s.intake.queue.tail } := rfl
@[simp] theorem State.pop_ev : (s.pop).ev = s.ev := rfl
@[simp] theorem State.pop_tables : (s.pop).tables = s.tables := rfl
@[simp] theorem State.pop_comp : (s.pop).comp = s.comp := rfl
@[simp] theorem State.pop_store : (s.pop).store = s.store := rfl
@[simp] theorem State.pop_wave : (s.pop).wave = s.wave := rfl
@[simp] theorem State.pop_temp : (s.pop).temp = s.temp := rfl
@[simp] theorem State.pop_residue : (s.pop).residue = s.residue := rfl
@[simp] theorem State.pop_sched : (s.pop).sched = s.sched := rfl
@[simp] theorem State.pop_scan : (s.pop).scan = s.scan := rfl
@[simp] theorem State.pop_rails : (s.pop).rails = s.rails := rfl
@[simp] theorem State.pop_power : (s.pop).power = s.power := rfl
@[simp] theorem State.pop_freeCount : (s.pop).freeCount = s.freeCount := rfl
@[simp] theorem State.pop_pending : (s.pop).pending = s.pending := rfl

/-! `State.refuseHead` -/

@[simp] theorem State.refuseHead_link (k : RecordKind) (r : Reason) : (s.refuseHead k r).link = s.link := rfl
@[simp] theorem State.refuseHead_intake (k : RecordKind) (r : Reason) :
    (s.refuseHead k r).intake =
      s.pop.intake := rfl
@[simp] theorem State.refuseHead_ev (k : RecordKind) (r : Reason) :
    (s.refuseHead k r).ev =
      (s.refuse k.code r).ev := rfl
@[simp] theorem State.refuseHead_tables (k : RecordKind) (r : Reason) : (s.refuseHead k r).tables = s.tables := rfl
@[simp] theorem State.refuseHead_comp (k : RecordKind) (r : Reason) : (s.refuseHead k r).comp = s.comp := rfl
@[simp] theorem State.refuseHead_store (k : RecordKind) (r : Reason) : (s.refuseHead k r).store = s.store := rfl
@[simp] theorem State.refuseHead_wave (k : RecordKind) (r : Reason) : (s.refuseHead k r).wave = s.wave := rfl
@[simp] theorem State.refuseHead_temp (k : RecordKind) (r : Reason) : (s.refuseHead k r).temp = s.temp := rfl
@[simp] theorem State.refuseHead_residue (k : RecordKind) (r : Reason) : (s.refuseHead k r).residue = s.residue := rfl
@[simp] theorem State.refuseHead_sched (k : RecordKind) (r : Reason) : (s.refuseHead k r).sched = s.sched := rfl
@[simp] theorem State.refuseHead_scan (k : RecordKind) (r : Reason) : (s.refuseHead k r).scan = s.scan := rfl
@[simp] theorem State.refuseHead_rails (k : RecordKind) (r : Reason) : (s.refuseHead k r).rails = s.rails := rfl
@[simp] theorem State.refuseHead_power (k : RecordKind) (r : Reason) : (s.refuseHead k r).power = s.power := rfl
@[simp] theorem State.refuseHead_freeCount (k : RecordKind) (r : Reason) :
    (s.refuseHead k r).freeCount =
      s.freeCount := rfl
@[simp] theorem State.refuseHead_pending (k : RecordKind) (r : Reason) : (s.refuseHead k r).pending = s.pending := rfl

/-! `State.setHold` -/

@[simp] theorem State.setHold_link (h : Hold) : (s.setHold h).link = s.link := rfl
@[simp] theorem State.setHold_intake (h : Hold) : (s.setHold h).intake = { s.intake with hold := h } := rfl
@[simp] theorem State.setHold_ev (h : Hold) : (s.setHold h).ev = s.ev := rfl
@[simp] theorem State.setHold_tables (h : Hold) : (s.setHold h).tables = s.tables := rfl
@[simp] theorem State.setHold_comp (h : Hold) : (s.setHold h).comp = s.comp := rfl
@[simp] theorem State.setHold_store (h : Hold) : (s.setHold h).store = s.store := rfl
@[simp] theorem State.setHold_wave (h : Hold) : (s.setHold h).wave = s.wave := rfl
@[simp] theorem State.setHold_temp (h : Hold) : (s.setHold h).temp = s.temp := rfl
@[simp] theorem State.setHold_residue (h : Hold) : (s.setHold h).residue = s.residue := rfl
@[simp] theorem State.setHold_sched (h : Hold) : (s.setHold h).sched = s.sched := rfl
@[simp] theorem State.setHold_scan (h : Hold) : (s.setHold h).scan = s.scan := rfl
@[simp] theorem State.setHold_rails (h : Hold) : (s.setHold h).rails = s.rails := rfl
@[simp] theorem State.setHold_power (h : Hold) : (s.setHold h).power = s.power := rfl
@[simp] theorem State.setHold_freeCount (h : Hold) : (s.setHold h).freeCount = s.freeCount := rfl
@[simp] theorem State.setHold_pending (h : Hold) : (s.setHold h).pending = s.pending := rfl

/-! `State.setPixels` -/

@[simp] theorem State.setPixels_link (m : List (Nat × PixelRec)) : (s.setPixels m).link = s.link := rfl
@[simp] theorem State.setPixels_intake (m : List (Nat × PixelRec)) : (s.setPixels m).intake = s.intake := rfl
@[simp] theorem State.setPixels_ev (m : List (Nat × PixelRec)) : (s.setPixels m).ev = s.ev := rfl
@[simp] theorem State.setPixels_tables (m : List (Nat × PixelRec)) : (s.setPixels m).tables = s.tables := rfl
@[simp] theorem State.setPixels_comp (m : List (Nat × PixelRec)) : (s.setPixels m).comp = s.comp := rfl
@[simp] theorem State.setPixels_store (m : List (Nat × PixelRec)) :
    (s.setPixels m).store =
      { s.store with pixels := m } := rfl
@[simp] theorem State.setPixels_wave (m : List (Nat × PixelRec)) : (s.setPixels m).wave = s.wave := rfl
@[simp] theorem State.setPixels_temp (m : List (Nat × PixelRec)) : (s.setPixels m).temp = s.temp := rfl
@[simp] theorem State.setPixels_residue (m : List (Nat × PixelRec)) : (s.setPixels m).residue = s.residue := rfl
@[simp] theorem State.setPixels_sched (m : List (Nat × PixelRec)) : (s.setPixels m).sched = s.sched := rfl
@[simp] theorem State.setPixels_scan (m : List (Nat × PixelRec)) : (s.setPixels m).scan = s.scan := rfl
@[simp] theorem State.setPixels_rails (m : List (Nat × PixelRec)) : (s.setPixels m).rails = s.rails := rfl
@[simp] theorem State.setPixels_power (m : List (Nat × PixelRec)) : (s.setPixels m).power = s.power := rfl
@[simp] theorem State.setPixels_freeCount (m : List (Nat × PixelRec)) : (s.setPixels m).freeCount = s.freeCount := rfl
@[simp] theorem State.setPixels_pending (m : List (Nat × PixelRec)) : (s.setPixels m).pending = s.pending := rfl

/-! `State.setPixel` -/

@[simp] theorem State.setPixel_link (k : Nat) (p : PixelRec) : (s.setPixel k p).link = s.link := rfl
@[simp] theorem State.setPixel_intake (k : Nat) (p : PixelRec) : (s.setPixel k p).intake = s.intake := rfl
@[simp] theorem State.setPixel_ev (k : Nat) (p : PixelRec) : (s.setPixel k p).ev = s.ev := rfl
@[simp] theorem State.setPixel_tables (k : Nat) (p : PixelRec) : (s.setPixel k p).tables = s.tables := rfl
@[simp] theorem State.setPixel_comp (k : Nat) (p : PixelRec) : (s.setPixel k p).comp = s.comp := rfl
@[simp] theorem State.setPixel_wave (k : Nat) (p : PixelRec) : (s.setPixel k p).wave = s.wave := rfl
@[simp] theorem State.setPixel_temp (k : Nat) (p : PixelRec) : (s.setPixel k p).temp = s.temp := rfl
@[simp] theorem State.setPixel_residue (k : Nat) (p : PixelRec) : (s.setPixel k p).residue = s.residue := rfl
@[simp] theorem State.setPixel_sched (k : Nat) (p : PixelRec) : (s.setPixel k p).sched = s.sched := rfl
@[simp] theorem State.setPixel_scan (k : Nat) (p : PixelRec) : (s.setPixel k p).scan = s.scan := rfl
@[simp] theorem State.setPixel_rails (k : Nat) (p : PixelRec) : (s.setPixel k p).rails = s.rails := rfl
@[simp] theorem State.setPixel_power (k : Nat) (p : PixelRec) : (s.setPixel k p).power = s.power := rfl
@[simp] theorem State.setPixel_freeCount (k : Nat) (p : PixelRec) : (s.setPixel k p).freeCount = s.freeCount := rfl
@[simp] theorem State.setPixel_pending (k : Nat) (p : PixelRec) : (s.setPixel k p).pending = s.pending := rfl

/-! `State.setSlot` -/

@[simp] theorem State.setSlot_link (i : Fin 16) (o : Option Slot) : (s.setSlot i o).link = s.link := rfl
@[simp] theorem State.setSlot_intake (i : Fin 16) (o : Option Slot) : (s.setSlot i o).intake = s.intake := rfl
@[simp] theorem State.setSlot_ev (i : Fin 16) (o : Option Slot) : (s.setSlot i o).ev = s.ev := rfl
@[simp] theorem State.setSlot_tables (i : Fin 16) (o : Option Slot) : (s.setSlot i o).tables = s.tables := rfl
@[simp] theorem State.setSlot_comp (i : Fin 16) (o : Option Slot) : (s.setSlot i o).comp = s.comp := rfl
@[simp] theorem State.setSlot_store (i : Fin 16) (o : Option Slot) : (s.setSlot i o).store = s.store := rfl
@[simp] theorem State.setSlot_wave (i : Fin 16) (o : Option Slot) : (s.setSlot i o).wave = s.wave := rfl
@[simp] theorem State.setSlot_temp (i : Fin 16) (o : Option Slot) : (s.setSlot i o).temp = s.temp := rfl
@[simp] theorem State.setSlot_residue (i : Fin 16) (o : Option Slot) : (s.setSlot i o).residue = s.residue := rfl
@[simp] theorem State.setSlot_sched (i : Fin 16) (o : Option Slot) :
    (s.setSlot i o).sched =
      { s.sched with slots := s.sched.slots.set i o } := rfl
@[simp] theorem State.setSlot_scan (i : Fin 16) (o : Option Slot) : (s.setSlot i o).scan = s.scan := rfl
@[simp] theorem State.setSlot_rails (i : Fin 16) (o : Option Slot) : (s.setSlot i o).rails = s.rails := rfl
@[simp] theorem State.setSlot_power (i : Fin 16) (o : Option Slot) : (s.setSlot i o).power = s.power := rfl
@[simp] theorem State.setSlot_freeCount (i : Fin 16) (o : Option Slot) :
    (s.setSlot i o).freeCount =
      s.freeCount := rfl
@[simp] theorem State.setSlot_pending (i : Fin 16) (o : Option Slot) : (s.setSlot i o).pending = s.pending := rfl

/-! `State.trigger` -/

@[simp] theorem State.trigger_link : (s.trigger).link = s.link := rfl
@[simp] theorem State.trigger_intake : (s.trigger).intake = s.intake := rfl
@[simp] theorem State.trigger_ev : (s.trigger).ev = s.ev := rfl
@[simp] theorem State.trigger_tables : (s.trigger).tables = s.tables := rfl
@[simp] theorem State.trigger_comp : (s.trigger).comp = s.comp := rfl
@[simp] theorem State.trigger_store : (s.trigger).store = s.store := rfl
@[simp] theorem State.trigger_wave : (s.trigger).wave = s.wave := rfl
@[simp] theorem State.trigger_temp : (s.trigger).temp = s.temp := rfl
@[simp] theorem State.trigger_residue : (s.trigger).residue = s.residue := rfl
@[simp] theorem State.trigger_sched : (s.trigger).sched = { s.sched with passDue := s.sched.passDue || !s.suspended } := rfl
@[simp] theorem State.trigger_scan : (s.trigger).scan = s.scan := rfl
@[simp] theorem State.trigger_rails : (s.trigger).rails = s.rails := rfl
@[simp] theorem State.trigger_power : (s.trigger).power = s.power := rfl
@[simp] theorem State.trigger_freeCount : (s.trigger).freeCount = s.freeCount := rfl
@[simp] theorem State.trigger_pending : (s.trigger).pending = s.pending := rfl

/-! `State.endSuspension` -/

@[simp] theorem State.endSuspension_link : (s.endSuspension).link = s.link := rfl
@[simp] theorem State.endSuspension_intake : (s.endSuspension).intake = s.intake := rfl
@[simp] theorem State.endSuspension_ev : (s.endSuspension).ev = s.ev := rfl
@[simp] theorem State.endSuspension_tables : (s.endSuspension).tables = s.tables := rfl
@[simp] theorem State.endSuspension_comp : (s.endSuspension).comp = s.comp := rfl
@[simp] theorem State.endSuspension_store : (s.endSuspension).store = s.store := rfl
@[simp] theorem State.endSuspension_wave : (s.endSuspension).wave = s.wave := rfl
@[simp] theorem State.endSuspension_temp : (s.endSuspension).temp = s.temp := rfl
@[simp] theorem State.endSuspension_residue : (s.endSuspension).residue = s.residue := rfl
@[simp] theorem State.endSuspension_sched : (s.endSuspension).sched = { s.sched with passDue := s.sched.passDue || decide (s.rails.state ≠ .fault) } := rfl
@[simp] theorem State.endSuspension_scan : (s.endSuspension).scan = s.scan := rfl
@[simp] theorem State.endSuspension_rails : (s.endSuspension).rails = s.rails := rfl
@[simp] theorem State.endSuspension_power : (s.endSuspension).power = s.power := rfl
@[simp] theorem State.endSuspension_freeCount : (s.endSuspension).freeCount = s.freeCount := rfl
@[simp] theorem State.endSuspension_pending : (s.endSuspension).pending = s.pending := rfl

/-! `State.setPass` -/

@[simp] theorem State.setPass_link (p : Option Pass) : (s.setPass p).link = s.link := rfl
@[simp] theorem State.setPass_intake (p : Option Pass) : (s.setPass p).intake = s.intake := rfl
@[simp] theorem State.setPass_ev (p : Option Pass) : (s.setPass p).ev = s.ev := rfl
@[simp] theorem State.setPass_tables (p : Option Pass) : (s.setPass p).tables = s.tables := rfl
@[simp] theorem State.setPass_comp (p : Option Pass) : (s.setPass p).comp = s.comp := rfl
@[simp] theorem State.setPass_store (p : Option Pass) : (s.setPass p).store = s.store := rfl
@[simp] theorem State.setPass_wave (p : Option Pass) : (s.setPass p).wave = s.wave := rfl
@[simp] theorem State.setPass_temp (p : Option Pass) : (s.setPass p).temp = s.temp := rfl
@[simp] theorem State.setPass_residue (p : Option Pass) : (s.setPass p).residue = s.residue := rfl
@[simp] theorem State.setPass_sched (p : Option Pass) : (s.setPass p).sched = { s.sched with pass := p } := rfl
@[simp] theorem State.setPass_scan (p : Option Pass) : (s.setPass p).scan = s.scan := rfl
@[simp] theorem State.setPass_rails (p : Option Pass) : (s.setPass p).rails = s.rails := rfl
@[simp] theorem State.setPass_power (p : Option Pass) : (s.setPass p).power = s.power := rfl
@[simp] theorem State.setPass_freeCount (p : Option Pass) : (s.setPass p).freeCount = s.freeCount := rfl
@[simp] theorem State.setPass_pending (p : Option Pass) : (s.setPass p).pending = s.pending := rfl

/-! `State.dropPass` -/

@[simp] theorem State.dropPass_link : (s.dropPass).link = s.link := rfl
@[simp] theorem State.dropPass_intake : (s.dropPass).intake = s.intake := rfl
@[simp] theorem State.dropPass_ev : (s.dropPass).ev = s.ev := rfl
@[simp] theorem State.dropPass_tables : (s.dropPass).tables = s.tables := rfl
@[simp] theorem State.dropPass_comp : (s.dropPass).comp = s.comp := rfl
@[simp] theorem State.dropPass_store : (s.dropPass).store = s.store := rfl
@[simp] theorem State.dropPass_wave : (s.dropPass).wave = s.wave := rfl
@[simp] theorem State.dropPass_temp : (s.dropPass).temp = s.temp := rfl
@[simp] theorem State.dropPass_residue : (s.dropPass).residue = s.residue := rfl
@[simp] theorem State.dropPass_sched : (s.dropPass).sched = { s.sched with
    pass := none, passDue := s.sched.passDue && !s.suspended
    requests := s.sched.requests.map fun r => { r with due := false } } := rfl
@[simp] theorem State.dropPass_scan : (s.dropPass).scan = s.scan := rfl
@[simp] theorem State.dropPass_rails : (s.dropPass).rails = s.rails := rfl
@[simp] theorem State.dropPass_power : (s.dropPass).power = s.power := rfl
@[simp] theorem State.dropPass_freeCount : (s.dropPass).freeCount = s.freeCount := rfl
@[simp] theorem State.dropPass_pending : (s.dropPass).pending = s.pending := rfl

/-! `State.setRequests` -/

@[simp] theorem State.setRequests_link (rs : List Request) : (s.setRequests rs).link = s.link := rfl
@[simp] theorem State.setRequests_intake (rs : List Request) : (s.setRequests rs).intake = s.intake := rfl
@[simp] theorem State.setRequests_ev (rs : List Request) : (s.setRequests rs).ev = s.ev := rfl
@[simp] theorem State.setRequests_tables (rs : List Request) : (s.setRequests rs).tables = s.tables := rfl
@[simp] theorem State.setRequests_comp (rs : List Request) : (s.setRequests rs).comp = s.comp := rfl
@[simp] theorem State.setRequests_store (rs : List Request) : (s.setRequests rs).store = s.store := rfl
@[simp] theorem State.setRequests_wave (rs : List Request) : (s.setRequests rs).wave = s.wave := rfl
@[simp] theorem State.setRequests_temp (rs : List Request) : (s.setRequests rs).temp = s.temp := rfl
@[simp] theorem State.setRequests_residue (rs : List Request) : (s.setRequests rs).residue = s.residue := rfl
@[simp] theorem State.setRequests_sched (rs : List Request) :
    (s.setRequests rs).sched =
      { s.sched with requests := rs } := rfl
@[simp] theorem State.setRequests_scan (rs : List Request) : (s.setRequests rs).scan = s.scan := rfl
@[simp] theorem State.setRequests_rails (rs : List Request) : (s.setRequests rs).rails = s.rails := rfl
@[simp] theorem State.setRequests_power (rs : List Request) : (s.setRequests rs).power = s.power := rfl
@[simp] theorem State.setRequests_freeCount (rs : List Request) : (s.setRequests rs).freeCount = s.freeCount := rfl
@[simp] theorem State.setRequests_pending (rs : List Request) : (s.setRequests rs).pending = s.pending := rfl

/-! `State.useFree` -/

@[simp] theorem State.useFree_link : (s.useFree).link = s.link := rfl
@[simp] theorem State.useFree_intake : (s.useFree).intake = s.intake := rfl
@[simp] theorem State.useFree_ev : (s.useFree).ev = s.ev := rfl
@[simp] theorem State.useFree_tables : (s.useFree).tables = s.tables := rfl
@[simp] theorem State.useFree_comp : (s.useFree).comp = s.comp := rfl
@[simp] theorem State.useFree_store : (s.useFree).store = s.store := rfl
@[simp] theorem State.useFree_wave : (s.useFree).wave = s.wave := rfl
@[simp] theorem State.useFree_temp : (s.useFree).temp = s.temp := rfl
@[simp] theorem State.useFree_residue : (s.useFree).residue = s.residue := rfl
@[simp] theorem State.useFree_sched : (s.useFree).sched = s.sched := rfl
@[simp] theorem State.useFree_scan : (s.useFree).scan = s.scan := rfl
@[simp] theorem State.useFree_rails : (s.useFree).rails = s.rails := rfl
@[simp] theorem State.useFree_power : (s.useFree).power = s.power := rfl
@[simp] theorem State.useFree_freeCount : (s.useFree).freeCount = s.freeCount + 1 := rfl
@[simp] theorem State.useFree_pending : (s.useFree).pending = s.pending := rfl

/-! `State.setRx` -/

@[simp] theorem State.setRx_link (rx : Option Rx) : (s.setRx rx).link = { s.link with rx := rx } := rfl
@[simp] theorem State.setRx_intake (rx : Option Rx) : (s.setRx rx).intake = s.intake := rfl
@[simp] theorem State.setRx_ev (rx : Option Rx) : (s.setRx rx).ev = s.ev := rfl
@[simp] theorem State.setRx_tables (rx : Option Rx) : (s.setRx rx).tables = s.tables := rfl
@[simp] theorem State.setRx_comp (rx : Option Rx) : (s.setRx rx).comp = s.comp := rfl
@[simp] theorem State.setRx_store (rx : Option Rx) : (s.setRx rx).store = s.store := rfl
@[simp] theorem State.setRx_wave (rx : Option Rx) : (s.setRx rx).wave = s.wave := rfl
@[simp] theorem State.setRx_temp (rx : Option Rx) : (s.setRx rx).temp = s.temp := rfl
@[simp] theorem State.setRx_residue (rx : Option Rx) : (s.setRx rx).residue = s.residue := rfl
@[simp] theorem State.setRx_sched (rx : Option Rx) : (s.setRx rx).sched = s.sched := rfl
@[simp] theorem State.setRx_scan (rx : Option Rx) : (s.setRx rx).scan = s.scan := rfl
@[simp] theorem State.setRx_rails (rx : Option Rx) : (s.setRx rx).rails = s.rails := rfl
@[simp] theorem State.setRx_power (rx : Option Rx) : (s.setRx rx).power = s.power := rfl
@[simp] theorem State.setRx_freeCount (rx : Option Rx) : (s.setRx rx).freeCount = s.freeCount := rfl
@[simp] theorem State.setRx_pending (rx : Option Rx) : (s.setRx rx).pending = s.pending := rfl

/-! `State.setMiso` -/

@[simp] theorem State.setMiso_link (b : Bytes) : (s.setMiso b).link = { s.link with miso := b } := rfl
@[simp] theorem State.setMiso_intake (b : Bytes) : (s.setMiso b).intake = s.intake := rfl
@[simp] theorem State.setMiso_ev (b : Bytes) : (s.setMiso b).ev = s.ev := rfl
@[simp] theorem State.setMiso_tables (b : Bytes) : (s.setMiso b).tables = s.tables := rfl
@[simp] theorem State.setMiso_comp (b : Bytes) : (s.setMiso b).comp = s.comp := rfl
@[simp] theorem State.setMiso_store (b : Bytes) : (s.setMiso b).store = s.store := rfl
@[simp] theorem State.setMiso_wave (b : Bytes) : (s.setMiso b).wave = s.wave := rfl
@[simp] theorem State.setMiso_temp (b : Bytes) : (s.setMiso b).temp = s.temp := rfl
@[simp] theorem State.setMiso_residue (b : Bytes) : (s.setMiso b).residue = s.residue := rfl
@[simp] theorem State.setMiso_sched (b : Bytes) : (s.setMiso b).sched = s.sched := rfl
@[simp] theorem State.setMiso_scan (b : Bytes) : (s.setMiso b).scan = s.scan := rfl
@[simp] theorem State.setMiso_rails (b : Bytes) : (s.setMiso b).rails = s.rails := rfl
@[simp] theorem State.setMiso_power (b : Bytes) : (s.setMiso b).power = s.power := rfl
@[simp] theorem State.setMiso_freeCount (b : Bytes) : (s.setMiso b).freeCount = s.freeCount := rfl
@[simp] theorem State.setMiso_pending (b : Bytes) : (s.setMiso b).pending = s.pending := rfl

/-! `State.framing` -/

@[simp] theorem State.framing_link (a : Bool) :
    (s.framing a).link =
      s.link := by unfold State.framing State.setFlagIf; split <;> rfl
@[simp] theorem State.framing_intake (a : Bool) :
    (s.framing a).intake =
      s.intake := by unfold State.framing State.setFlagIf; split <;> rfl
@[simp] theorem State.framing_tables (a : Bool) :
    (s.framing a).tables =
      s.tables := by unfold State.framing State.setFlagIf; split <;> rfl
@[simp] theorem State.framing_comp (a : Bool) :
    (s.framing a).comp =
      s.comp := by unfold State.framing State.setFlagIf; split <;> rfl
@[simp] theorem State.framing_store (a : Bool) :
    (s.framing a).store =
      s.store := by unfold State.framing State.setFlagIf; split <;> rfl
@[simp] theorem State.framing_wave (a : Bool) :
    (s.framing a).wave =
      s.wave := by unfold State.framing State.setFlagIf; split <;> rfl
@[simp] theorem State.framing_temp (a : Bool) :
    (s.framing a).temp =
      s.temp := by unfold State.framing State.setFlagIf; split <;> rfl
@[simp] theorem State.framing_residue (a : Bool) :
    (s.framing a).residue =
      s.residue := by unfold State.framing State.setFlagIf; split <;> rfl
@[simp] theorem State.framing_sched (a : Bool) :
    (s.framing a).sched =
      s.sched := by unfold State.framing State.setFlagIf; split <;> rfl
@[simp] theorem State.framing_scan (a : Bool) :
    (s.framing a).scan =
      s.scan := by unfold State.framing State.setFlagIf; split <;> rfl
@[simp] theorem State.framing_rails (a : Bool) :
    (s.framing a).rails =
      s.rails := by unfold State.framing State.setFlagIf; split <;> rfl
@[simp] theorem State.framing_power (a : Bool) :
    (s.framing a).power =
      s.power := by unfold State.framing State.setFlagIf; split <;> rfl
@[simp] theorem State.framing_freeCount (a : Bool) :
    (s.framing a).freeCount =
      s.freeCount := by unfold State.framing State.setFlagIf; split <;> rfl
@[simp] theorem State.framing_pending (a : Bool) :
    (s.framing a).pending =
      s.pending := by unfold State.framing State.setFlagIf; split <;> rfl

/-! `State.setDraw` -/

@[simp] theorem State.setDraw_link (d : Option Draw) : (s.setDraw d).link = s.link := rfl
@[simp] theorem State.setDraw_intake (d : Option Draw) : (s.setDraw d).intake = s.intake := rfl
@[simp] theorem State.setDraw_ev (d : Option Draw) : (s.setDraw d).ev = s.ev := rfl
@[simp] theorem State.setDraw_tables (d : Option Draw) : (s.setDraw d).tables = s.tables := rfl
@[simp] theorem State.setDraw_comp (d : Option Draw) : (s.setDraw d).comp = { s.comp with draw := d } := rfl
@[simp] theorem State.setDraw_store (d : Option Draw) : (s.setDraw d).store = s.store := rfl
@[simp] theorem State.setDraw_wave (d : Option Draw) : (s.setDraw d).wave = s.wave := rfl
@[simp] theorem State.setDraw_temp (d : Option Draw) : (s.setDraw d).temp = s.temp := rfl
@[simp] theorem State.setDraw_residue (d : Option Draw) : (s.setDraw d).residue = s.residue := rfl
@[simp] theorem State.setDraw_sched (d : Option Draw) : (s.setDraw d).sched = s.sched := rfl
@[simp] theorem State.setDraw_scan (d : Option Draw) : (s.setDraw d).scan = s.scan := rfl
@[simp] theorem State.setDraw_rails (d : Option Draw) : (s.setDraw d).rails = s.rails := rfl
@[simp] theorem State.setDraw_power (d : Option Draw) : (s.setDraw d).power = s.power := rfl
@[simp] theorem State.setDraw_freeCount (d : Option Draw) : (s.setDraw d).freeCount = s.freeCount := rfl
@[simp] theorem State.setDraw_pending (d : Option Draw) : (s.setDraw d).pending = s.pending := rfl

/-! `State.setPanel` -/

@[simp] theorem State.setPanel_link (p : Panel) : (s.setPanel p).link = s.link := rfl
@[simp] theorem State.setPanel_intake (p : Panel) : (s.setPanel p).intake = s.intake := rfl
@[simp] theorem State.setPanel_ev (p : Panel) : (s.setPanel p).ev = s.ev := rfl
@[simp] theorem State.setPanel_tables (p : Panel) : (s.setPanel p).tables = s.tables := rfl
@[simp] theorem State.setPanel_comp (p : Panel) : (s.setPanel p).comp = s.comp := rfl
@[simp] theorem State.setPanel_store (p : Panel) : (s.setPanel p).store = { s.store with panel := p } := rfl
@[simp] theorem State.setPanel_wave (p : Panel) : (s.setPanel p).wave = s.wave := rfl
@[simp] theorem State.setPanel_temp (p : Panel) : (s.setPanel p).temp = s.temp := rfl
@[simp] theorem State.setPanel_residue (p : Panel) : (s.setPanel p).residue = s.residue := rfl
@[simp] theorem State.setPanel_sched (p : Panel) : (s.setPanel p).sched = s.sched := rfl
@[simp] theorem State.setPanel_scan (p : Panel) : (s.setPanel p).scan = s.scan := rfl
@[simp] theorem State.setPanel_rails (p : Panel) : (s.setPanel p).rails = s.rails := rfl
@[simp] theorem State.setPanel_power (p : Panel) : (s.setPanel p).power = s.power := rfl
@[simp] theorem State.setPanel_freeCount (p : Panel) : (s.setPanel p).freeCount = s.freeCount := rfl
@[simp] theorem State.setPanel_pending (p : Panel) : (s.setPanel p).pending = s.pending := rfl

/-! `State.setBank` -/

@[simp] theorem State.setBank_link (b : BankId) (v : Bank) : (s.setBank b v).link = s.link := by cases b <;> rfl
@[simp] theorem State.setBank_intake (b : BankId) (v : Bank) : (s.setBank b v).intake = s.intake := by cases b <;> rfl
@[simp] theorem State.setBank_ev (b : BankId) (v : Bank) : (s.setBank b v).ev = s.ev := by cases b <;> rfl
@[simp] theorem State.setBank_tables (b : BankId) (v : Bank) : (s.setBank b v).tables = s.tables := by cases b <;> rfl
@[simp] theorem State.setBank_comp (b : BankId) (v : Bank) : (s.setBank b v).comp = s.comp := by cases b <;> rfl
@[simp] theorem State.setBank_store (b : BankId) (v : Bank) : (s.setBank b v).store = s.store := by cases b <;> rfl
@[simp] theorem State.setBank_temp (b : BankId) (v : Bank) : (s.setBank b v).temp = s.temp := by cases b <;> rfl
@[simp] theorem State.setBank_residue (b : BankId) (v : Bank) :
    (s.setBank b v).residue =
      s.residue := by cases b <;> rfl
@[simp] theorem State.setBank_sched (b : BankId) (v : Bank) : (s.setBank b v).sched = s.sched := by cases b <;> rfl
@[simp] theorem State.setBank_scan (b : BankId) (v : Bank) : (s.setBank b v).scan = s.scan := by cases b <;> rfl
@[simp] theorem State.setBank_rails (b : BankId) (v : Bank) : (s.setBank b v).rails = s.rails := by cases b <;> rfl
@[simp] theorem State.setBank_power (b : BankId) (v : Bank) : (s.setBank b v).power = s.power := by cases b <;> rfl
@[simp] theorem State.setBank_freeCount (b : BankId) (v : Bank) :
    (s.setBank b v).freeCount =
      s.freeCount := by cases b <;> rfl
@[simp] theorem State.setBank_pending (b : BankId) (v : Bank) :
    (s.setBank b v).pending =
      s.pending := by cases b <;> rfl

/-! `State.setPgood` -/

@[simp] theorem State.setPgood_link (l : Bool) : (s.setPgood l).link = s.link := rfl
@[simp] theorem State.setPgood_intake (l : Bool) : (s.setPgood l).intake = s.intake := rfl
@[simp] theorem State.setPgood_ev (l : Bool) : (s.setPgood l).ev = s.ev := rfl
@[simp] theorem State.setPgood_tables (l : Bool) : (s.setPgood l).tables = s.tables := rfl
@[simp] theorem State.setPgood_comp (l : Bool) : (s.setPgood l).comp = s.comp := rfl
@[simp] theorem State.setPgood_store (l : Bool) : (s.setPgood l).store = s.store := rfl
@[simp] theorem State.setPgood_wave (l : Bool) : (s.setPgood l).wave = s.wave := rfl
@[simp] theorem State.setPgood_temp (l : Bool) : (s.setPgood l).temp = s.temp := rfl
@[simp] theorem State.setPgood_residue (l : Bool) : (s.setPgood l).residue = s.residue := rfl
@[simp] theorem State.setPgood_sched (l : Bool) : (s.setPgood l).sched = s.sched := rfl
@[simp] theorem State.setPgood_scan (l : Bool) : (s.setPgood l).scan = s.scan := rfl
@[simp] theorem State.setPgood_rails (l : Bool) : (s.setPgood l).rails = { s.rails with pgood := l } := rfl
@[simp] theorem State.setPgood_power (l : Bool) : (s.setPgood l).power = s.power := rfl
@[simp] theorem State.setPgood_freeCount (l : Bool) : (s.setPgood l).freeCount = s.freeCount := rfl
@[simp] theorem State.setPgood_pending (l : Bool) : (s.setPgood l).pending = s.pending := rfl

/-! `State.startRead` -/

@[simp] theorem State.startRead_link (l : List WireEvent) : (s.startRead l).link = s.link := rfl
@[simp] theorem State.startRead_intake (l : List WireEvent) : (s.startRead l).intake = s.intake := rfl
@[simp] theorem State.startRead_ev (l : List WireEvent) : (s.startRead l).ev = s.ev := rfl
@[simp] theorem State.startRead_tables (l : List WireEvent) : (s.startRead l).tables = s.tables := rfl
@[simp] theorem State.startRead_comp (l : List WireEvent) : (s.startRead l).comp = s.comp := rfl
@[simp] theorem State.startRead_store (l : List WireEvent) : (s.startRead l).store = s.store := rfl
@[simp] theorem State.startRead_wave (l : List WireEvent) : (s.startRead l).wave = s.wave := rfl
@[simp] theorem State.startRead_residue (l : List WireEvent) : (s.startRead l).residue = s.residue := rfl
@[simp] theorem State.startRead_sched (l : List WireEvent) : (s.startRead l).sched = s.sched := rfl
@[simp] theorem State.startRead_scan (l : List WireEvent) : (s.startRead l).scan = s.scan := rfl
@[simp] theorem State.startRead_rails (l : List WireEvent) : (s.startRead l).rails = s.rails := rfl
@[simp] theorem State.startRead_power (l : List WireEvent) : (s.startRead l).power = s.power := rfl
@[simp] theorem State.startRead_freeCount (l : List WireEvent) : (s.startRead l).freeCount = s.freeCount := rfl
@[simp] theorem State.startRead_pending (l : List WireEvent) : (s.startRead l).pending = s.pending := rfl

/-! `State.endRead` -/

@[simp] theorem State.endRead_link (l : List WireEvent) : (s.endRead l).link = s.link := rfl
@[simp] theorem State.endRead_intake (l : List WireEvent) : (s.endRead l).intake = s.intake := rfl
@[simp] theorem State.endRead_ev (l : List WireEvent) : (s.endRead l).ev = s.ev := rfl
@[simp] theorem State.endRead_tables (l : List WireEvent) : (s.endRead l).tables = s.tables := rfl
@[simp] theorem State.endRead_comp (l : List WireEvent) : (s.endRead l).comp = s.comp := rfl
@[simp] theorem State.endRead_store (l : List WireEvent) : (s.endRead l).store = s.store := rfl
@[simp] theorem State.endRead_wave (l : List WireEvent) : (s.endRead l).wave = s.wave := rfl
@[simp] theorem State.endRead_temp (l : List WireEvent) :
    (s.endRead l).temp =
      { s.temp with readInFlight := none, wire := s.temp.wire ++ l } := rfl
@[simp] theorem State.endRead_residue (l : List WireEvent) : (s.endRead l).residue = s.residue := rfl
@[simp] theorem State.endRead_sched (l : List WireEvent) : (s.endRead l).sched = s.sched := rfl
@[simp] theorem State.endRead_scan (l : List WireEvent) : (s.endRead l).scan = s.scan := rfl
@[simp] theorem State.endRead_rails (l : List WireEvent) : (s.endRead l).rails = s.rails := rfl
@[simp] theorem State.endRead_power (l : List WireEvent) : (s.endRead l).power = s.power := rfl
@[simp] theorem State.endRead_freeCount (l : List WireEvent) : (s.endRead l).freeCount = s.freeCount := rfl
@[simp] theorem State.endRead_pending (l : List WireEvent) : (s.endRead l).pending = s.pending := rfl

/-! `State.abandonRead` -/

@[simp] theorem State.abandonRead_link :
    (s.abandonRead).link =
      s.link := by unfold State.abandonRead; dsimp only; split <;> rfl
@[simp] theorem State.abandonRead_intake :
    (s.abandonRead).intake =
      s.intake := by unfold State.abandonRead; dsimp only; split <;> rfl
@[simp] theorem State.abandonRead_ev :
    (s.abandonRead).ev =
      s.ev := by unfold State.abandonRead; dsimp only; split <;> rfl
@[simp] theorem State.abandonRead_tables :
    (s.abandonRead).tables =
      s.tables := by unfold State.abandonRead; dsimp only; split <;> rfl
@[simp] theorem State.abandonRead_comp :
    (s.abandonRead).comp =
      s.comp := by unfold State.abandonRead; dsimp only; split <;> rfl
@[simp] theorem State.abandonRead_store :
    (s.abandonRead).store =
      s.store := by unfold State.abandonRead; dsimp only; split <;> rfl
@[simp] theorem State.abandonRead_wave :
    (s.abandonRead).wave =
      s.wave := by unfold State.abandonRead; dsimp only; split <;> rfl
@[simp] theorem State.abandonRead_residue :
    (s.abandonRead).residue =
      s.residue := by unfold State.abandonRead; dsimp only; split <;> rfl
@[simp] theorem State.abandonRead_sched :
    (s.abandonRead).sched =
      s.sched := by unfold State.abandonRead; dsimp only; split <;> rfl
@[simp] theorem State.abandonRead_scan :
    (s.abandonRead).scan =
      s.scan := by unfold State.abandonRead; dsimp only; split <;> rfl
@[simp] theorem State.abandonRead_rails :
    (s.abandonRead).rails =
      s.rails := by unfold State.abandonRead; dsimp only; split <;> rfl
@[simp] theorem State.abandonRead_power :
    (s.abandonRead).power =
      s.power := by unfold State.abandonRead; dsimp only; split <;> rfl
@[simp] theorem State.abandonRead_pending :
    (s.abandonRead).pending =
      s.pending := by unfold State.abandonRead; dsimp only; split <;> rfl

/-! `State.startFrame` -/

@[simp] theorem State.startFrame_link : (s.startFrame).link = s.link := rfl
@[simp] theorem State.startFrame_intake : (s.startFrame).intake = s.intake := rfl
@[simp] theorem State.startFrame_ev : (s.startFrame).ev = s.ev := rfl
@[simp] theorem State.startFrame_tables : (s.startFrame).tables = s.tables := rfl
@[simp] theorem State.startFrame_comp : (s.startFrame).comp = s.comp := rfl
@[simp] theorem State.startFrame_store : (s.startFrame).store = s.store := rfl
@[simp] theorem State.startFrame_wave : (s.startFrame).wave = s.wave := rfl
@[simp] theorem State.startFrame_temp : (s.startFrame).temp = s.temp := rfl
@[simp] theorem State.startFrame_residue : (s.startFrame).residue = s.residue := rfl
@[simp] theorem State.startFrame_sched :
    (s.startFrame).sched =
      { s.sched with slots := s.sched.slots.map (Option.map Slot.start) } := rfl
@[simp] theorem State.startFrame_scan : (s.startFrame).scan = some s.store.panel.framePeriod := rfl
@[simp] theorem State.startFrame_rails : (s.startFrame).rails = s.rails := rfl
@[simp] theorem State.startFrame_power : (s.startFrame).power = s.power := rfl
@[simp] theorem State.startFrame_freeCount : (s.startFrame).freeCount = s.freeCount := rfl
@[simp] theorem State.startFrame_pending : (s.startFrame).pending = s.pending := rfl

/-! `State.enterFalling` -/

@[simp] theorem State.enterFalling_link : (s.enterFalling).link = s.link := rfl
@[simp] theorem State.enterFalling_intake : (s.enterFalling).intake = s.intake := rfl
@[simp] theorem State.enterFalling_ev : (s.enterFalling).ev = s.ev := rfl
@[simp] theorem State.enterFalling_tables : (s.enterFalling).tables = s.tables := rfl
@[simp] theorem State.enterFalling_comp : (s.enterFalling).comp = s.comp := rfl
@[simp] theorem State.enterFalling_store : (s.enterFalling).store = s.store := rfl
@[simp] theorem State.enterFalling_wave : (s.enterFalling).wave = s.wave := rfl
@[simp] theorem State.enterFalling_temp : (s.enterFalling).temp = s.temp := rfl
@[simp] theorem State.enterFalling_residue : (s.enterFalling).residue = s.residue := rfl
@[simp] theorem State.enterFalling_sched : (s.enterFalling).sched = s.sched := rfl
@[simp] theorem State.enterFalling_scan : (s.enterFalling).scan = s.scan := rfl
@[simp] theorem State.enterFalling_rails :
    (s.enterFalling).rails =
      { s.rails with state := .falling, rise := none, hold := none, fall := some s.store.panel.fallTime } := rfl
@[simp] theorem State.enterFalling_power : (s.enterFalling).power = s.power := rfl
@[simp] theorem State.enterFalling_freeCount : (s.enterFalling).freeCount = s.freeCount := rfl
@[simp] theorem State.enterFalling_pending : (s.enterFalling).pending = s.pending := rfl

/-! `State.startHold` -/

@[simp] theorem State.startHold_link : (s.startHold).link = s.link := by unfold State.startHold; split <;> rfl
@[simp] theorem State.startHold_intake : (s.startHold).intake = s.intake := by unfold State.startHold; split <;> rfl
@[simp] theorem State.startHold_ev : (s.startHold).ev = s.ev := by unfold State.startHold; split <;> rfl
@[simp] theorem State.startHold_tables : (s.startHold).tables = s.tables := by unfold State.startHold; split <;> rfl
@[simp] theorem State.startHold_comp : (s.startHold).comp = s.comp := by unfold State.startHold; split <;> rfl
@[simp] theorem State.startHold_store : (s.startHold).store = s.store := by unfold State.startHold; split <;> rfl
@[simp] theorem State.startHold_wave : (s.startHold).wave = s.wave := by unfold State.startHold; split <;> rfl
@[simp] theorem State.startHold_temp : (s.startHold).temp = s.temp := by unfold State.startHold; split <;> rfl
@[simp] theorem State.startHold_residue :
    (s.startHold).residue =
      s.residue := by unfold State.startHold; split <;> rfl
@[simp] theorem State.startHold_sched : (s.startHold).sched = s.sched := by unfold State.startHold; split <;> rfl
@[simp] theorem State.startHold_scan : (s.startHold).scan = s.scan := by unfold State.startHold; split <;> rfl
@[simp] theorem State.startHold_power : (s.startHold).power = s.power := by unfold State.startHold; split <;> rfl
@[simp] theorem State.startHold_freeCount :
    (s.startHold).freeCount =
      s.freeCount := by unfold State.startHold; split <;> rfl
@[simp] theorem State.startHold_pending :
    (s.startHold).pending =
      s.pending := by unfold State.startHold; split <;> rfl

/-! Slots and banks -/

@[simp] theorem State.setSlot_slot_same (i : Fin 16) (o : Option Slot) : (s.setSlot i o).slot i = o := by
  simp [State.slot, State.setSlot]

theorem State.setSlot_slot_other (i j : Fin 16) (o : Option Slot) (h : j ≠ i) :
    (s.setSlot i o).slot j = s.slot j := by
  have h' : (i : Nat) ≠ j := fun e => h (Fin.ext e.symm)
  simp [State.slot, State.setSlot, h']

theorem State.slot_of_sched {s t : State} (h : t.sched = s.sched) (i : Fin 16) : t.slot i = s.slot i := by
  unfold State.slot; rw [h]

@[simp] theorem State.setBank_bank_same (b : BankId) (v : Bank) : (s.setBank b v).bank b = v := by
  cases b <;> rfl

@[simp] theorem State.setBank_bank_other (b : BankId) (v : Bank) : (s.setBank b v).bank b.other = s.bank b.other := by
  cases b <;> rfl

@[simp] theorem State.startFrame_slot (i : Fin 16) : (s.startFrame).slot i = (s.slot i).map Slot.start := by
  simp [State.slot, State.startFrame]

/-! What `State.notify` does to the Event and Reply Unit (R130) -/

theorem State.notify_ev (w : Bool) (n : Notice) : (s.notify w n).ev =
    if w = false then s.ev
    else if s.repliesFull = true then { s.ev with flags := s.ev.flags ||| BitVec.twoPow 12 Flag.noticelost.bit }
    else { s.ev with
      flags := s.ev.flags ||| BitVec.twoPow 12 Flag.done.bit, replies := s.ev.replies ++ [.notice n] } := by
  unfold State.notify
  cases w
  · rfl
  · simp only [Bool.not_true, Bool.false_eq_true, if_false]; split <;> rfl

end Sys2Proof.Machine
end

