-- ==== Sys2Proof/Laws/Store.lean ====
section
/-! SUPPORT. The laws of the canonical lists: what a read gives after a write, that every operation keeps the
canonical form, and the same for the glyph pool's bytes and the pixel records. -/

namespace Sys2Proof.Machine

variable {α : Type}

/-! ### Reading after writing -/

theorem Store.get?_put (m : List (Nat × α)) (k j : Nat) (v : α) :
    Store.get? (Store.put m k v) j = if k = j then some v else Store.get? m j := by
  induction m with
  | nil => simp [Store.put, Store.get?]
  | cons e rest ih =>
    obtain ⟨k', v'⟩ := e
    simp only [Store.put]
    split
    · simp [Store.get?]
    · split
      · rename_i h; subst h; by_cases hj : k = j <;> simp [Store.get?, hj]
      · by_cases hj : k' = j
        · subst hj; simp_all [Store.get?]
        · simp [Store.get?, hj, ih]

theorem Store.get?_drop (m : List (Nat × α)) (k j : Nat) :
    Store.get? (Store.drop m k) j = if k = j then none else Store.get? m j := by
  induction m with
  | nil => simp [Store.drop, Store.get?]
  | cons e rest ih =>
    obtain ⟨k', v'⟩ := e
    unfold Store.drop at ih ⊢
    by_cases hk : k' = k
    · subst hk; by_cases hj : k' = j <;> simp_all [Store.get?]
    · by_cases hj : k' = j
      · subst hj; simp [Store.get?, hk, Ne.symm hk]
      · simpa [Store.get?, hk, hj] using ih

theorem Store.getD_set [DecidableEq α] (d : α) (m : List (Nat × α)) (k j : Nat) (v : α) :
    Store.getD (Store.set d m k v) j d = if k = j then v else Store.getD m j d := by
  unfold Store.set Store.getD
  split
  · rename_i h; subst h; rw [Store.get?_drop]; split <;> simp_all
  · rw [Store.get?_put]; split <;> simp_all

/-! ### Membership -/

theorem Store.mem_put {m : List (Nat × α)} {k : Nat} {v : α} {e : Nat × α} (h : e ∈ Store.put m k v) :
    e = (k, v) ∨ e ∈ m := by
  induction m with
  | nil => simpa [Store.put] using h
  | cons e' rest ih =>
    obtain ⟨k', v'⟩ := e'
    simp only [Store.put] at h
    split at h
    · simpa using h
    · split at h
      · simp only [List.mem_cons] at h ⊢; tauto
      · simp only [List.mem_cons] at h ⊢
        rcases h with h | h
        · exact .inr (.inl h)
        · rcases ih h with h | h <;> tauto

theorem Store.mem_drop {m : List (Nat × α)} {k : Nat} {e : Nat × α} :
    e ∈ Store.drop m k ↔ e ∈ m ∧ e.1 ≠ k := by
  simp [Store.drop]

theorem Store.mem_set [DecidableEq α] {d : α} {m : List (Nat × α)} {k : Nat} {v : α} {e : Nat × α}
    (h : e ∈ Store.set d m k v) : (e = (k, v) ∧ v ≠ d) ∨ e ∈ m := by
  unfold Store.set at h
  split at h
  · exact .inr (Store.mem_drop.mp h).1
  · rename_i hv; exact (Store.mem_put h).imp_left (⟨·, hv⟩)

theorem Store.mem_of_get? {m : List (Nat × α)} {k : Nat} {v : α} (h : Store.get? m k = some v) : (k, v) ∈ m := by
  induction m with
  | nil => simp [Store.get?] at h
  | cons e rest ih =>
    obtain ⟨k', v'⟩ := e
    simp only [Store.get?] at h
    split at h
    · simp_all
    · exact List.mem_cons_of_mem _ (ih h)

theorem Store.get?_of_mem {m : List (Nat × α)} (hs : Store.sorted m) {k : Nat} {v : α} (h : (k, v) ∈ m) :
    Store.get? m k = some v := by
  induction m with
  | nil => simp at h
  | cons e rest ih =>
    obtain ⟨k', v'⟩ := e
    rw [Store.sorted, List.pairwise_cons] at hs
    simp only [List.mem_cons, Prod.mk.injEq] at h
    rcases h with ⟨rfl, rfl⟩ | h
    · simp [Store.get?]
    · have := hs.1 _ h
      simp [Store.get?, Nat.ne_of_lt this, ih hs.2 h]

/-! ### The canonical form -/

theorem Store.sorted_put {m : List (Nat × α)} (hs : Store.sorted m) (k : Nat) (v : α) :
    Store.sorted (Store.put m k v) := by
  induction m with
  | nil => simp [Store.put]
  | cons e rest ih =>
    obtain ⟨k', v'⟩ := e
    rw [Store.sorted, List.pairwise_cons] at hs
    simp only [Store.put]
    split
    · rename_i h
      rw [Store.sorted, List.pairwise_cons, List.pairwise_cons]
      refine ⟨fun e he => ?_, hs⟩
      rcases List.mem_cons.mp he with rfl | he
      · exact h
      · exact Nat.lt_trans h (hs.1 _ he)
    · split
      · rename_i h; subst h; rw [Store.sorted, List.pairwise_cons]; exact hs
      · rw [Store.sorted, List.pairwise_cons]
        refine ⟨fun e he => ?_, ih hs.2⟩
        rcases Store.mem_put he with rfl | he
        · show k' < k; omega
        · exact hs.1 _ he

theorem Store.sorted_drop {m : List (Nat × α)} (hs : Store.sorted m) (k : Nat) : Store.sorted (Store.drop m k) :=
  hs.filter _

theorem Store.wf_set [DecidableEq α] {d : α} {m : List (Nat × α)} (h : Store.wf d m) (k : Nat) (v : α) :
    Store.wf d (Store.set d m k v) := by
  refine ⟨?_, fun e he => ?_⟩
  · unfold Store.set; split
    · exact Store.sorted_drop h.1 k
    · exact Store.sorted_put h.1 k v
  · rcases Store.mem_set he with ⟨rfl, hv⟩ | he
    · exact hv
    · exact h.2 _ he

theorem Store.wf_mapValues [DecidableEq α] {d : α} {m : List (Nat × α)} (h : Store.sorted m) (f : Nat → α → α) :
    Store.wf d (Store.mapValues d f m) := by
  refine ⟨List.Pairwise.filter _ (List.pairwise_map.mpr h), fun e he => ?_⟩
  have := List.mem_filter.mp he
  simpa using this.2

theorem Store.getD_mapValues [DecidableEq α] {d : α} {m : List (Nat × α)} (h : Store.sorted m)
    {f : Nat → α → α} (hf : ∀ k, f k d = d) (j : Nat) :
    Store.getD (Store.mapValues d f m) j d = f j (Store.getD m j d) := by
  induction m with
  | nil => simp [Store.mapValues, Store.getD, Store.get?, hf]
  | cons e rest ih =>
    obtain ⟨k, v⟩ := e
    rw [Store.sorted, List.pairwise_cons] at h
    have hr := ih h.2
    have hout : k = j → Store.get? rest j = none := by
      rintro rfl
      cases hg : Store.get? rest k with
      | none => rfl
      | some w => exact absurd (h.1 _ (Store.mem_of_get? hg)) (Nat.lt_irrefl _)
    unfold Store.mapValues Store.getD at hr ⊢
    by_cases hv : f k v = d <;> by_cases hj : k = j
    · subst hj
      rw [hout rfl] at hr
      simp_all [Store.get?]
    · simp_all [Store.get?]
    · simp_all [Store.get?]
    · simp_all [Store.get?]

/-! ### The glyph pool -/

theorem Memory.read_write (m : List Host.Cell) (a b : Nat) (v : Byte) (h : a < Config.poolBlocks * Config.blockBytes) :
    Memory.read (Memory.write m a v) b = if a = b then v else Memory.read m b := by
  unfold Memory.read Memory.write
  rw [if_pos h]; exact Store.getD_set _ _ _ _ _

theorem Memory.read_write_other (m : List Host.Cell) (a b : Nat) (v : Byte) (h : a ≠ b) :
    Memory.read (Memory.write m a v) b = Memory.read m b := by
  unfold Memory.read Memory.write
  split
  · rw [Store.getD_set, if_neg h]
  · rfl

theorem Memory.wf_write {m : List Host.Cell} (h : Memory.wf m) (a : Nat) (v : Byte) :
    Memory.wf (Memory.write m a v) := by
  unfold Memory.write
  split
  · rename_i ha
    refine ⟨Store.wf_set h.1 a v, fun e he => ?_⟩
    rcases Store.mem_set he with ⟨rfl, _⟩ | he
    · exact ha
    · exact h.2 _ he
  · exact h

theorem Memory.wf_writeBitmap {m : List Host.Cell} (h : Memory.wf m) (blocks : List Nat) (j : Nat) (bytes : Bytes) :
    Memory.wf (Memory.writeBitmap m blocks j bytes) := by
  induction bytes generalizing m j with
  | nil => exact h
  | cons b rest ih => exact ih (Memory.wf_write h _ _) _

theorem Memory.wf_reset : Memory.wf State.reset.tables.pool := by decide

/-! ### Pixel records -/

theorem pixelAt_writeTarget (m : List (Nat × PixelRec)) (k j : Nat) (t : Tone) :
    pixelAt (writeTarget m k t) j = if k = j then { pixelAt m j with target := t } else pixelAt m j := by
  unfold writeTarget pixelAt
  rw [Store.getD_set]; split <;> simp_all

theorem State.pixel_setPixel (s : State) (k j : Nat) (p : PixelRec) :
    (s.setPixel k p).pixel j = if k = j then p else s.pixel j := Store.getD_set _ _ _ _ _

theorem writeTarget_wf {m : List (Nat × PixelRec)} (h : Store.wf PixelRec.initial m) (k : Nat) (t : Tone) :
    Store.wf PixelRec.initial (writeTarget m k t) := Store.wf_set h _ _

theorem writeTargets_wf {m : List (Nat × PixelRec)} (h : Store.wf PixelRec.initial m) (ws : List (Nat × Tone)) :
    Store.wf PixelRec.initial (writeTargets m ws) := by
  unfold writeTargets
  induction ws generalizing m with
  | nil => exact h
  | cons w rest ih => exact ih (writeTarget_wf h _ _)

/-- Target writes leave every pixel they do not name. -/
theorem pixelAt_writeTargets_other (ws : List (Nat × Tone)) (m : List (Nat × PixelRec)) (k : Nat)
    (h : ∀ w ∈ ws, w.1 ≠ k) : pixelAt (writeTargets m ws) k = pixelAt m k := by
  induction ws generalizing m with
  | nil => rfl
  | cons w rest ih =>
    show pixelAt (writeTargets (writeTarget m w.1 w.2) rest) k = _
    rw [ih _ fun v hv => h v (List.mem_cons_of_mem _ hv), pixelAt_writeTarget, if_neg (h w (List.mem_cons_self ..))]

/-- Target writes change targets alone (R3). -/
theorem pixelAt_writeTargets_fields (ws : List (Nat × Tone)) (m : List (Nat × PixelRec)) (k : Nat) :
    (pixelAt (writeTargets m ws) k).shown = (pixelAt m k).shown ∧
      (pixelAt (writeTargets m ws) k).goal = (pixelAt m k).goal ∧
      (pixelAt (writeTargets m ws) k).owner = (pixelAt m k).owner := by
  induction ws generalizing m with
  | nil => exact ⟨rfl, rfl, rfl⟩
  | cons w rest ih =>
    have h := ih (writeTarget m w.1 w.2)
    rw [pixelAt_writeTarget] at h
    show _ = _ ∧ _ = _ ∧ _ = _
    refine ⟨h.1.trans ?_, h.2.1.trans ?_, h.2.2.trans ?_⟩ <;> split <;> rfl

/-- Where every write of a list gives one tone, a named pixel ends at it. -/
theorem pixelAt_writeTargets_same (ws : List (Nat × Tone)) (m : List (Nat × PixelRec)) (k : Nat) (t : Tone)
    (hk : ∃ w ∈ ws, w.1 = k) (ht : ∀ w ∈ ws, w.1 = k → w.2 = t) :
    pixelAt (writeTargets m ws) k = { pixelAt m k with target := t } := by
  induction ws generalizing m with
  | nil => simp at hk
  | cons w rest ih =>
    show pixelAt (writeTargets (writeTarget m w.1 w.2) rest) k = _
    by_cases hr : ∃ v ∈ rest, v.1 = k
    · rw [ih _ hr fun v hv => ht v (List.mem_cons_of_mem _ hv), pixelAt_writeTarget]
      split <;> simp
    · rw [pixelAt_writeTargets_other _ _ _ fun v hv he => hr ⟨v, hv, he⟩, pixelAt_writeTarget]
      obtain ⟨v, hv, he⟩ := hk
      have : v = w := by
        rcases List.mem_cons.mp hv with rfl | hv
        · rfl
        · exact absurd ⟨v, hv, he⟩ hr
      subst this
      rw [if_pos he, ht v (List.mem_cons_self ..) he]

theorem pixelAt_mapOwned {m : List (Nat × PixelRec)} (h : Store.sorted m) (i : Fin 16) (f : PixelRec → PixelRec)
    (k : Nat) : pixelAt (mapOwned i f m) k =
      if (pixelAt m k).owner = some i then f (pixelAt m k) else pixelAt m k :=
  Store.getD_mapValues h (fun _ => by simp [PixelRec.initial]) k

theorem mapOwned_wf {m : List (Nat × PixelRec)} (h : Store.sorted m) (i : Fin 16) (f : PixelRec → PixelRec) :
    Store.wf PixelRec.initial (mapOwned i f m) := Store.wf_mapValues h _

/-! ### Rectangles -/

theorem Rect.has_none (x y : Int) : Rect.none.has x y = false := by
  rw [Bool.eq_false_iff]
  intro h
  simp only [Rect.has, Bool.and_eq_true] at h
  have h1 : (0 : Int) ≤ x := of_decide_eq_true h.1.1.1
  have h2 : x < 0 + ((0 : Nat) : Int) := of_decide_eq_true h.1.1.2
  omega

theorem Rect.has_inter (a b : Rect) (x y : Int) : (Rect.inter a b).has x y = (a.has x y && b.has x y) := by
  simp only [Rect.inter]
  split
  · rename_i hpos
    rw [Bool.eq_iff_iff]
    simp only [Rect.has, Bool.and_eq_true, decide_eq_true_eq, Int.toNat_of_nonneg (Int.sub_nonneg_of_le hpos.1.le),
      Int.toNat_of_nonneg (Int.sub_nonneg_of_le hpos.2.le), Int.max_le]
    omega
  · rename_i hneg
    rw [Rect.has_none, eq_comm, Bool.eq_false_iff]
    intro h
    simp only [Rect.has, Bool.and_eq_true, decide_eq_true_eq] at h
    exact hneg ⟨lt_min (max_lt (by omega) (by omega)) (max_lt (by omega) (by omega)),
      lt_min (max_lt (by omega) (by omega)) (max_lt (by omega) (by omega))⟩

theorem Rect.isEmpty_iff (r : Rect) : r.isEmpty = true ↔ ∀ x y : Int, r.has x y = false := by
  simp only [Rect.isEmpty, Bool.or_eq_true, decide_eq_true_eq]
  constructor
  · intro h x y
    simp only [Rect.has, Bool.and_eq_false_iff, decide_eq_false_iff_not]; omega
  · intro h
    have := h r.x r.y
    simp only [Rect.has, Bool.and_eq_false_iff, decide_eq_false_iff_not] at this; omega

theorem keyX_pixelKey (x y : Nat) (h : x < 8192) : keyX (pixelKey x y) = x := by
  unfold keyX pixelKey; omega

theorem keyY_pixelKey (x y : Nat) (h : x < 8192) : keyY (pixelKey x y) = y := by
  unfold keyY pixelKey; omega

/-- The keys of a rectangle on the page are the pixels it has. -/
theorem Rect.mem_keys {r : Rect} (h : ∀ x y : Int, r.has x y = true → 0 ≤ x ∧ x < 8192 ∧ 0 ≤ y) (k : Nat) :
    k ∈ r.keys ↔ r.hasKey k = true := by
  simp only [Rect.keys, List.mem_flatMap, List.mem_range, List.mem_map, Rect.hasKey, Rect.has, Bool.and_eq_true,
    decide_eq_true_eq]
  have corner := h r.x r.y
  have last := h (r.x + r.w - 1) r.y
  simp only [Rect.has, Bool.and_eq_true, decide_eq_true_eq] at corner last
  constructor
  · rintro ⟨j, hj, i, hi, rfl⟩
    unfold pixelKey keyX keyY; omega
  · intro hk
    refine ⟨keyY k - r.y.toNat, by unfold keyX keyY at *; omega, keyX k - r.x.toNat,
      by unfold keyX keyY at *; omega, ?_⟩
    unfold pixelKey keyX keyY at *; omega

end Sys2Proof.Machine
end

