-- ==== Sys2Proof/Laws/Ops.lean ====
section
/-! SUPPORT. What each shared operation can do, said once: when a dispatch acts, when a transaction's end acts,
and for each operation of slots, walks, passes, rails and the temperature the parts of State it may change. A
frame lemma reads `t = { s with … }`, where the fields named may change and no other does. -/

namespace Sys2Proof.Machine

open Host (Outcome)

/-! ### Dispatches -/

theorem headBody_eq_some {s : State} {k : RecordKind} {body : Bytes} :
    s.headBody k = some body ↔ ∃ rest, Dispatches s k body rest := by
  unfold State.headBody Dispatches
  constructor
  · intro h
    split at h
    · rename_i hr
      cases hq : s.intake.queue with
      | nil => rw [hq] at h; simp at h
      | cons r rest =>
        rw [hq] at h
        simp only at h
        split at h
        · rename_i hk
          refine ⟨rest, hr.1, hr.2, ?_⟩
          cases r; simp_all
        · simp at h
    · simp at h
  · rintro ⟨rest, hp, hh, hq⟩
    simp [hp, hh, hq]

/-- A dispatch at a head of its kind acts on the body. -/
theorem withHead_of_dispatches {s : State} {k : RecordKind} {body : Bytes} {rest : List Record}
    (h : Dispatches s k body rest) (f : Bytes → State) : s.withHead k f = f body := by
  unfold State.withHead; rw [headBody_eq_some.mpr ⟨rest, h⟩]

/-- A dispatch changes nothing unless a record of its kind stands at the head. -/
theorem withHead_cases (s : State) (k : RecordKind) (f : Bytes → State) :
    (s.headBody k = none ∧ s.withHead k f = s) ∨
      ∃ body rest, Dispatches s k body rest ∧ s.withHead k f = f body := by
  cases h : s.headBody k with
  | none => exact .inl ⟨rfl, by unfold State.withHead; rw [h]⟩
  | some body =>
    obtain ⟨rest, hd⟩ := headBody_eq_some.mp h
    exact .inr ⟨body, rest, hd, withHead_of_dispatches hd f⟩

theorem pop_eq_taken {s : State} {k : RecordKind} {body : Bytes} {rest : List Record}
    (h : Dispatches s k body rest) : s.pop = taken s rest := by
  obtain ⟨_, hh, hq⟩ := h
  unfold State.pop taken
  rw [hq, ← hh]; rfl

theorem refuseHead_eq_refusedAt {s : State} {k : RecordKind} {body : Bytes} {rest : List Record}
    (h : Dispatches s k body rest) (r : Reason) : s.refuseHead k r = refusedAt s k r rest := by
  unfold State.refuseHead refusedAt; rw [pop_eq_taken h]

theorem reserved_of_free {s : State} (h : s.intake.hold = .free) : s.reserved = 0 := by
  unfold State.reserved; rw [h]

/-! ### The end of a transaction -/

/-- What the rise of CS_N can do (R153). -/
theorem csRise_cases (s : State) (isKind : Byte → Bool) (body : Bytes) (f : Rx → State → State) :
    s.csRise isKind body f = s ∨
      ∃ rx, s.link.rx = some rx ∧ isKind rx.kind = true ∧
        ((body.length ≠ rx.length ∧ s.csRise isKind body f = (s.setRx none).framing rx.flagged) ∨
          (body.length = rx.length ∧ s.csRise isKind body f = f rx (s.setRx none))) := by
  unfold State.csRise
  split
  · exact .inl rfl
  · rename_i rx hrx
    split
    · exact .inl rfl
    · rename_i hk
      refine .inr ⟨rx, hrx, by simpa using hk, ?_⟩
      split
      · rename_i hl; exact .inl ⟨hl, rfl⟩
      · rename_i hl; exact .inr ⟨by simpa using hl, rfl⟩

/-- An express record in reception is taken at CS_N rise (R155). -/
theorem express_of_expressed {s : State} {k : RecordKind} {body : Bytes} (h : Expressed s k body.length)
    (f : State → State) : s.express k body f = f (received s) := by
  obtain ⟨target, flagged, h⟩ := h
  unfold State.express State.csRise
  rw [h]; simp only [decide_true, Bool.not_true, Bool.false_eq_true, if_false, ne_eq, not_true]; rfl

/-! ### Walks -/

theorem latchPixel_frame (i : Fin 16) (s : State) (k : Nat) : latchPixel i s k = { s with
    store := { s.store with pixels := (latchPixel i s k).store.pixels }
    sched := { s.sched with slots := (latchPixel i s k).sched.slots } } := by
  unfold latchPixel
  split
  · rfl
  · simp only
    split
    · rfl
    · split <;> rfl

theorem latchPixels_frame (i : Fin 16) (ks : List Nat) (s : State) : ks.foldl (latchPixel i) s = { s with
    store := { s.store with pixels := (ks.foldl (latchPixel i) s).store.pixels }
    sched := { s.sched with slots := (ks.foldl (latchPixel i) s).sched.slots } } := by
  induction ks generalizing s with
  | nil => rfl
  | cons k ks ih =>
    simp only [List.foldl_cons]
    rw [ih (latchPixel i s k), latchPixel_frame i s k]

theorem advancePass_frame (s : State) (n : Nat) : s.advancePass n = { s with
    store := { s.store with pixels := (s.advancePass n).store.pixels }
    sched := { s.sched with slots := (s.advancePass n).sched.slots, pass := (s.advancePass n).sched.pass } } := by
  unfold State.advancePass
  split
  · rfl
  · rfl
  · rfl
  · split
    · rfl
    · rename_i i todo _ _
      rw [latchPixels_frame i (todo.take n) s]; rfl

theorem freeAdvancePass_frame (s : State) : s.freeAdvancePass = { s with
    store := { s.store with pixels := s.freeAdvancePass.store.pixels }
    sched := { s.sched with slots := s.freeAdvancePass.sched.slots, pass := s.freeAdvancePass.sched.pass }
    freeCount := s.freeAdvancePass.freeCount } := by
  unfold State.freeAdvancePass
  split
  · rfl
  · rw [advancePass_frame s.useFree]; rfl

theorem readOne_frame (s : State) : s.readOne = { s with
    intake := { s.intake with hold := s.readOne.intake.hold }
    store := { s.store with pixels := s.readOne.store.pixels }
    sched := { s.sched with slots := s.readOne.sched.slots, pass := s.readOne.sched.pass }
    freeCount := s.readOne.freeCount } := by
  unfold State.readOne
  simp only
  split
  · split
    · rw [freeAdvancePass_frame s]
    · rw [freeAdvancePass_frame s]; rfl
  · rw [freeAdvancePass_frame s]

theorem readMany_frame (n : Nat) (s : State) : State.readMany n s = { s with
    intake := { s.intake with hold := (State.readMany n s).intake.hold }
    store := { s.store with pixels := (State.readMany n s).store.pixels }
    sched := { s.sched with slots := (State.readMany n s).sched.slots, pass := (State.readMany n s).sched.pass }
    freeCount := (State.readMany n s).freeCount } := by
  induction n generalizing s with
  | zero => rfl
  | succ n ih =>
    simp only [State.readMany]
    rw [ih s.readOne, readOne_frame s]

theorem freeAdvanceRead_frame (s : State) : s.freeAdvanceRead = { s with
    intake := { s.intake with hold := s.freeAdvanceRead.intake.hold }
    store := { s.store with pixels := s.freeAdvanceRead.store.pixels }
    sched := { s.sched with slots := s.freeAdvanceRead.sched.slots, pass := s.freeAdvanceRead.sched.pass }
    freeCount := s.freeAdvanceRead.freeCount } := by
  unfold State.freeAdvanceRead
  split
  · rw [readMany_frame]; rfl
  · rfl

theorem advanceWalks_frame (s : State) : s.advanceWalks = { s with
    intake := { s.intake with hold := s.advanceWalks.intake.hold }
    store := { s.store with pixels := s.advanceWalks.store.pixels }
    sched := { s.sched with slots := s.advanceWalks.sched.slots, pass := s.advanceWalks.sched.pass }
    freeCount := s.advanceWalks.freeCount } := by
  unfold State.advanceWalks
  rw [freeAdvancePass_frame s.freeAdvanceRead, freeAdvanceRead_frame s]

/-- With no walk in progress there is nothing to get on with. -/
theorem advanceWalks_of_noWalk {s : State} (h : NoWalk s) : s.advanceWalks = s := by
  obtain ⟨hp, hh⟩ := h
  have h1 : s.freeAdvanceRead = s := by
    unfold State.freeAdvanceRead
    split
    · rename_i r hr; exact absurd hr (hh r)
    · rfl
  unfold State.advanceWalks
  rw [h1]; unfold State.freeAdvancePass; rw [hp]

/-! ### The ends of slots -/

theorem endSlot_frame (s : State) (i : Fin 16) (sl : Slot) (e : Ending) : s.endSlot i sl e = { s with
    ev := (s.endSlot i sl e).ev, sched := { s.sched with slots := s.sched.slots.set i none } } := by
  unfold State.endSlot State.notify
  split
  · rfl
  · split <;> rfl

theorem cutSlot_frame (s : State) (i : Fin 16) : s.cutSlot i = { s with
    ev := (s.cutSlot i).ev
    store := { s.store with pixels := (s.cutSlot i).store.pixels }
    sched := { s.sched with slots := (s.cutSlot i).sched.slots } } := by
  unfold State.cutSlot
  split
  · rfl
  · split
    · unfold State.abortSlot; rw [endSlot_frame]; rfl
    · unfold State.releaseSlot; rw [endSlot_frame]; rfl

theorem cutSlotList_frame (is : List (Fin 16)) (s : State) : is.foldl State.cutSlot s = { s with
    ev := (is.foldl State.cutSlot s).ev
    store := { s.store with pixels := (is.foldl State.cutSlot s).store.pixels }
    sched := { s.sched with slots := (is.foldl State.cutSlot s).sched.slots } } := by
  induction is generalizing s with
  | nil => rfl
  | cons i is ih => simp only [List.foldl_cons]; rw [ih (s.cutSlot i), cutSlot_frame s i]

theorem cutSlots_frame (s : State) : s.cutSlots = { s with
    ev := s.cutSlots.ev
    intake := { s.intake with hold := s.cutSlots.intake.hold }
    store := { s.store with pixels := s.cutSlots.store.pixels }
    sched := { s.sched with slots := s.cutSlots.sched.slots, pass := s.cutSlots.sched.pass }
    freeCount := s.cutSlots.freeCount } := by
  unfold State.cutSlots
  split
  · rw [cutSlotList_frame, advanceWalks_frame]
  · rfl

/-! ### Passes -/

/-- When passes are suspended (R112). -/
theorem suspended_eq_true {s : State} : s.suspended = true ↔ s.rails.state = .fault ∨ s.intake.hold = .reinit ∨
    ∃ body rest p, Dispatches s .panelset body rest ∧ parsePanelset body = .ok p := by
  have waits : s.panelsetWaits = true ↔
      ∃ body rest p, Dispatches s .panelset body rest ∧ parsePanelset body = .ok p := by
    unfold State.panelsetWaits
    constructor
    · intro h
      split at h
      · cases h
      · rename_i body hb
        split at h
        · rename_i p hp
          obtain ⟨rest, hd⟩ := headBody_eq_some.mp hb
          exact ⟨body, rest, p, hd, hp⟩
        · cases h
    · rintro ⟨body, rest, p, hd, hp⟩
      simp [headBody_eq_some.mpr ⟨rest, hd⟩, hp]
  simp only [State.suspended, Bool.or_eq_true, decide_eq_true_eq, waits]
  rw [or_assoc]; exact or_congr_right or_comm

/-- What the suspension of passes rests on. -/
theorem suspended_congr {s t : State} (hr : t.rails.state = s.rails.state) (hp : t.power = s.power)
    (hq : t.intake.queue = s.intake.queue) (hf : t.intake.hold = .free ↔ s.intake.hold = .free)
    (hi : t.intake.hold = .reinit ↔ s.intake.hold = .reinit) : t.suspended = s.suspended := by
  simp [State.suspended, State.panelsetWaits, State.headBody, hr, hp, hq, hf, hi]

theorem freeUpdate_frame (s : State) (always : Bool) : s.freeUpdate always = { s with
    intake := { s.intake with hold := (s.freeUpdate always).intake.hold } } := by
  unfold State.freeUpdate
  split
  · split <;> rfl
  · rfl

theorem endPass_frame (s : State) : s.endPass = { s with
    intake := { s.intake with hold := s.endPass.intake.hold }
    sched := { s.sched with
      pass := none, passDue := s.sched.passDue && !s.suspended, requests := s.endPass.sched.requests } } := by
  unfold State.endPass
  rw [freeUpdate_frame s.dropPass]; rfl

theorem notify_frame (s : State) (w : Bool) (n : Notice) : s.notify w n = { s with ev := (s.notify w n).ev } := by
  unfold State.notify
  split
  · rfl
  · split <;> rfl

/-- A pass that walks on changes the queue, the pass itself and whether one follows it, and what it tells; no slot and
no pixel. -/
theorem examine_frame (rest : List Request) : ∀ (s : State) (ahead : List Request), s.examine ahead rest = { s with
    ev := (s.examine ahead rest).ev
    intake := { s.intake with hold := (s.examine ahead rest).intake.hold }
    sched := { s.sched with
      requests := (s.examine ahead rest).sched.requests, passDue := (s.examine ahead rest).sched.passDue
      pass := (s.examine ahead rest).sched.pass } } := by
  induction rest with
  | nil => intro s ahead; simp only [State.examine]; rw [endPass_frame]; rfl
  | cons r behind ih =>
    intro s ahead
    simp only [State.examine]
    split
    · exact ih s _
    · split
      · rw [ih (s.notify r.notify _) ahead, notify_frame s r.notify]
      · split
        · rw [endPass_frame]; rfl
        · split
          · exact ih s _
          · unfold State.beginReads
            simp only
            split <;> rfl

theorem continuePass_frame (s : State) : s.continuePass = { s with
    ev := s.continuePass.ev
    intake := { s.intake with hold := s.continuePass.intake.hold }
    sched := { s.sched with
      requests := s.continuePass.sched.requests, passDue := s.continuePass.sched.passDue
      pass := s.continuePass.sched.pass } } :=
  examine_frame _ _ _

/-! ### Rails and temperature -/

theorem reachOn_frame (s : State) : s.reachOn = { s with
    rails := s.reachOn.rails, scan := s.reachOn.scan, sched := { s.sched with slots := s.reachOn.sched.slots } } := by
  unfold State.reachOn
  simp only
  split
  · rfl
  · unfold State.startHold; split <;> rfl

theorem enterRising_frame (s : State) : s.enterRising = { s with
    rails := s.enterRising.rails, scan := s.enterRising.scan
    sched := { s.sched with slots := s.enterRising.sched.slots } } := by
  unfold State.enterRising
  simp only
  split
  · rw [reachOn_frame]
  · rfl

theorem onArmed_frame (s : State) : s.onArmed = { s with
    rails := s.onArmed.rails, scan := s.onArmed.scan, sched := { s.sched with slots := s.onArmed.sched.slots } } := by
  unfold State.onArmed
  split
  · exact enterRising_frame s
  · simp only; split <;> rfl
  · rfl
  · rfl
  · rfl

theorem holdIfLeft_frame (s : State) (before : Bool) : s.holdIfLeft before = { s with
    rails := (s.holdIfLeft before).rails } := by
  unfold State.holdIfLeft State.startHold
  split
  · split <;> rfl
  · rfl

theorem enterFault_frame (s : State) : s.enterFault = { s with
    ev := s.enterFault.ev
    intake := { s.intake with hold := s.enterFault.intake.hold }
    store := { s.store with pixels := s.enterFault.store.pixels }
    sched := { s.sched with
      slots := s.enterFault.sched.slots, pass := none, passDue := false
      requests := s.enterFault.sched.requests }
    scan := none
    rails := { s.rails with state := .fault, rise := none, hold := none, fall := none }
    freeCount := s.enterFault.freeCount } := by
  have h : ∀ t : State, t.rails.state = .fault → t.dropPass = { t with sched := { t.sched with
      pass := none, passDue := false, requests := t.dropPass.sched.requests } } := by
    intro t ht
    simp [State.dropPass, suspended_eq_true.mpr (.inl ht)]
  unfold State.enterFault
  simp only
  rw [freeUpdate_frame, cutSlots_frame, h _ rfl]; rfl

theorem recomputeBand_frame (s : State) : s.recomputeBand = { s with
    ev := s.recomputeBand.ev, temp := { s.temp with band := s.recomputeBand.temp.band } } := by
  unfold State.recomputeBand
  split
  · rfl
  · simp only [State.setFlagIf]; split <;> rfl

theorem startReadIfSensor_frame (s : State) (lead : List WireEvent) : s.startReadIfSensor lead = { s with
    temp := { s.temp with
      readInFlight := (s.startReadIfSensor lead).temp.readInFlight
      timer := (s.startReadIfSensor lead).temp.timer
      wire := (s.startReadIfSensor lead).temp.wire } } := by
  unfold State.startReadIfSensor
  split <;> rfl

/-- A read that is cut off ends as `CutOff` says, without a result; with none in flight the line stays. -/
theorem abandonRead_eq (s : State) : s.abandonRead = { s with
    temp := { s.temp with readInFlight := none, timer := none, wire := s.temp.wire ++ s.abandonEvents }
    freeCount := s.abandonRead.freeCount } := by
  unfold State.abandonRead State.abandonEvents
  cases h : s.temp.readInFlight with
  | none => simp [h]
  | some a => simp [State.endRead, State.useFree, State.cutEvents]

/-- The events of an abandoned read are those of `CutOff`. -/
theorem abandonEvents_cutOff (s : State) : CutOff s s.abandonEvents := by
  unfold CutOff State.abandonEvents State.cutEvents
  refine ⟨fun h => by simp [h], fun h => ⟨Config.walkProgress s.freeCount, by simp [h]⟩⟩

theorem failRead_frame (s : State) (events : List WireEvent) : s.failRead events = { s with
    ev := (s.failRead events).ev
    temp := { s.temp with
      failures := min 255 (s.temp.failures + 1), readInFlight := none, wire := s.temp.wire ++ events } } := by
  unfold State.failRead State.setFlagIf
  simp only
  split <;> rfl

/-! ### What the live status shows of operations in progress -/

theorem findMisses_frame (s : State) (n : Nat) : s.findMisses n = { s with
    ev := (s.findMisses n).ev, comp := { s.comp with draw := (s.findMisses n).comp.draw } } := by
  unfold State.findMisses
  split
  · simp only [State.setFlagIf]; split <;> rfl
  · rfl

theorem freeMisses_frame (s : State) : s.freeMisses = { s with
    ev := s.freeMisses.ev, comp := { s.comp with draw := s.freeMisses.comp.draw }
    freeCount := s.freeMisses.freeCount } := by
  unfold State.freeMisses
  split
  · rfl
  · rw [findMisses_frame]; rfl

theorem freeMisses_of_none {s : State} (h : s.missesLeft = []) : s.freeMisses = s := by
  unfold State.freeMisses; rw [if_pos h]

/-- Outside WAKING from DEEP, and with no miss left to find, the live status shows the state as it is. -/
theorem advanceShown_of_settled {s : State} (h : s.missesLeft = []) (hp : s.power ≠ .waking true) :
    s.advanceShown = s := by
  unfold State.advanceShown
  rw [freeMisses_of_none h]
  unfold State.freeRebuild
  split
  · rename_i hw; exact absurd hw hp
  · rfl

theorem freeRebuild_frame (s : State) : s.freeRebuild = { s with
    store := { s.store with pixels := s.freeRebuild.store.pixels }
    tables := s.freeRebuild.tables, comp := s.freeRebuild.comp, freeCount := s.freeRebuild.freeCount } := by
  unfold State.freeRebuild
  split
  · split <;> rfl
  · rfl

theorem advanceShown_frame (s : State) : s.advanceShown = { s with
    ev := s.advanceShown.ev
    store := { s.store with pixels := s.advanceShown.store.pixels }
    tables := s.advanceShown.tables, comp := s.advanceShown.comp, freeCount := s.advanceShown.freeCount } := by
  unfold State.advanceShown
  rw [freeRebuild_frame, freeMisses_frame]

/-! ### Refusals of whole commands: none -/

/-- What the entry to SLEEP or DEEP does to a record in reception (R170). -/
theorem silence_eq (rx : Rx) : rx.silence =
    if rx.disp = .reserved ∨ rx.disp = .express then { rx with disp := .silent } else rx := by
  obtain ⟨kind, target, length, flagged, disp⟩ := rx
  cases disp <;> simp [Rx.silence]

/-- Every command answers a next state: no meaning faults or refuses. -/
theorem exec_isNext (c : Instr) (s : State) : ∃ t, exec c s = .next t := by
  cases c <;> exact ⟨_, rfl⟩

end Sys2Proof.Machine
end

