-- ==== Sys2Proof/WellFormed.lean ====
section
/-! DEFINITION. Which commands are well formed: a body the bus can carry. Nothing else about a command can be
ill formed, since its operands range over the values the pins can show. -/

namespace Sys2Proof

/-- A well-formed transaction's body is at most 4,096 bytes (R152, R153). -/
def bodyFits (body : Bytes) : Bool := body.length ≤ Config.maxBody

/-- The record body that a command carries; a command without one carries none. -/
def Instr.carried : Instr → Bytes
  | .recordReceived body => body
  | .cancel body => body
  | .halt body => body
  | .wake body => body
  | .reset body => body
  | .resetKeepTables body => body
  | .pinReset | .resetNRelease _ _ | .startingEnd | .headerDecode _ _ _ _ | .framingError _ | .unknownKind
  | .fill | .text | .hilite | .copy | .clippush | .clippop | .clipreset | .drawEnd
  | .fontdef | .fontdrop | .glyphput | .glyphWriteEnd | .glyphdrop | .kernload | .styleset
  | .wavebegin | .waveput | .wavecommit | .update | .admissionPass | .latchEnd | .frameEnd
  | .panelset | .reinitEnd | .railctlOff | .railctlClear | .pgoodAsserted | .pgoodLost
  | .riseTimerExpiry | .holdTimerExpiry | .fallTimerExpiry | .tempsetFixed | .tempsetSensor
  | .sampleIntervalExpiry | .sensorReadEnd _ | .sensorNoAck | .sensorReadTimeout | .evmask | .evclear
  | .readGlyph | .readGlyphEnd | .readKern | .readStyle | .readWave | .readResidue | .readPixels
  | .readPixelsEnd | .sleep | .sleepDeep | .wakingEnd | .fetchlive | .fetchqueue
  | .resolutionPixelReadsEnd => []

/-- The check of a command's operands. -/
def Instr.wellFormed : Instr → Bool
  | .recordReceived body => bodyFits body
  | .cancel body => bodyFits body
  | .halt body => bodyFits body
  | .wake body => bodyFits body
  | .reset body => bodyFits body
  | .resetKeepTables body => bodyFits body
  | .pinReset | .resetNRelease _ _ | .startingEnd | .headerDecode _ _ _ _ | .framingError _ | .unknownKind
  | .fill | .text | .hilite | .copy | .clippush | .clippop | .clipreset | .drawEnd
  | .fontdef | .fontdrop | .glyphput | .glyphWriteEnd | .glyphdrop | .kernload | .styleset
  | .wavebegin | .waveput | .wavecommit | .update | .admissionPass | .latchEnd | .frameEnd
  | .panelset | .reinitEnd | .railctlOff | .railctlClear | .pgoodAsserted | .pgoodLost
  | .riseTimerExpiry | .holdTimerExpiry | .fallTimerExpiry | .tempsetFixed | .tempsetSensor
  | .sampleIntervalExpiry | .sensorReadEnd _ | .sensorNoAck | .sensorReadTimeout | .evmask | .evclear
  | .readGlyph | .readGlyphEnd | .readKern | .readStyle | .readWave | .readResidue | .readPixels
  | .readPixelsEnd | .sleep | .sleepDeep | .wakingEnd | .fetchlive | .fetchqueue
  | .resolutionPixelReadsEnd => true

end Sys2Proof
end

