-- ==== Sys2Proof/Laws/PerInstr.lean ====
section
/-! SUPPORT. The family Fits, one lemma per command: a command is well formed exactly when the body it carries
fits a transaction. -/

namespace Sys2Proof.Laws

/-- A command is well formed exactly when the body it carries fits (R152, R153). -/
def Fits.Statement (i : Instr) : Prop := i.wellFormed = bodyFits i.carried

theorem Fits.pinReset : Fits.Statement .pinReset := rfl
theorem Fits.resetNRelease (addr0 addr1 : Bool) : Fits.Statement (.resetNRelease addr0 addr1) := rfl
theorem Fits.startingEnd : Fits.Statement .startingEnd := rfl
theorem Fits.headerDecode (counted : Bool) (target kind : Byte) (length : BitVec 16) : Fits.Statement (.headerDecode counted target kind length) := rfl
theorem Fits.recordReceived (body : Bytes) : Fits.Statement (.recordReceived body) := rfl
theorem Fits.framingError (cut : FramingCut) : Fits.Statement (.framingError cut) := rfl
theorem Fits.unknownKind : Fits.Statement .unknownKind := rfl
theorem Fits.fill : Fits.Statement .fill := rfl
theorem Fits.text : Fits.Statement .text := rfl
theorem Fits.hilite : Fits.Statement .hilite := rfl
theorem Fits.copy : Fits.Statement .copy := rfl
theorem Fits.clippush : Fits.Statement .clippush := rfl
theorem Fits.clippop : Fits.Statement .clippop := rfl
theorem Fits.clipreset : Fits.Statement .clipreset := rfl
theorem Fits.drawEnd : Fits.Statement .drawEnd := rfl
theorem Fits.fontdef : Fits.Statement .fontdef := rfl
theorem Fits.fontdrop : Fits.Statement .fontdrop := rfl
theorem Fits.glyphput : Fits.Statement .glyphput := rfl
theorem Fits.glyphWriteEnd : Fits.Statement .glyphWriteEnd := rfl
theorem Fits.glyphdrop : Fits.Statement .glyphdrop := rfl
theorem Fits.kernload : Fits.Statement .kernload := rfl
theorem Fits.styleset : Fits.Statement .styleset := rfl
theorem Fits.wavebegin : Fits.Statement .wavebegin := rfl
theorem Fits.waveput : Fits.Statement .waveput := rfl
theorem Fits.wavecommit : Fits.Statement .wavecommit := rfl
theorem Fits.update : Fits.Statement .update := rfl
theorem Fits.admissionPass : Fits.Statement .admissionPass := rfl
theorem Fits.latchEnd : Fits.Statement .latchEnd := rfl
theorem Fits.frameEnd : Fits.Statement .frameEnd := rfl
theorem Fits.cancel (body : Bytes) : Fits.Statement (.cancel body) := rfl
theorem Fits.halt (body : Bytes) : Fits.Statement (.halt body) := rfl
theorem Fits.panelset : Fits.Statement .panelset := rfl
theorem Fits.reinitEnd : Fits.Statement .reinitEnd := rfl
theorem Fits.railctlOff : Fits.Statement .railctlOff := rfl
theorem Fits.railctlClear : Fits.Statement .railctlClear := rfl
theorem Fits.pgoodAsserted : Fits.Statement .pgoodAsserted := rfl
theorem Fits.pgoodLost : Fits.Statement .pgoodLost := rfl
theorem Fits.riseTimerExpiry : Fits.Statement .riseTimerExpiry := rfl
theorem Fits.holdTimerExpiry : Fits.Statement .holdTimerExpiry := rfl
theorem Fits.fallTimerExpiry : Fits.Statement .fallTimerExpiry := rfl
theorem Fits.tempsetFixed : Fits.Statement .tempsetFixed := rfl
theorem Fits.tempsetSensor : Fits.Statement .tempsetSensor := rfl
theorem Fits.sampleIntervalExpiry : Fits.Statement .sampleIntervalExpiry := rfl
theorem Fits.sensorReadEnd (raw : Byte × Byte) : Fits.Statement (.sensorReadEnd raw) := rfl
theorem Fits.sensorNoAck : Fits.Statement .sensorNoAck := rfl
theorem Fits.sensorReadTimeout : Fits.Statement .sensorReadTimeout := rfl
theorem Fits.evmask : Fits.Statement .evmask := rfl
theorem Fits.evclear : Fits.Statement .evclear := rfl
theorem Fits.readGlyph : Fits.Statement .readGlyph := rfl
theorem Fits.readGlyphEnd : Fits.Statement .readGlyphEnd := rfl
theorem Fits.readKern : Fits.Statement .readKern := rfl
theorem Fits.readStyle : Fits.Statement .readStyle := rfl
theorem Fits.readWave : Fits.Statement .readWave := rfl
theorem Fits.readResidue : Fits.Statement .readResidue := rfl
theorem Fits.readPixels : Fits.Statement .readPixels := rfl
theorem Fits.readPixelsEnd : Fits.Statement .readPixelsEnd := rfl
theorem Fits.sleep : Fits.Statement .sleep := rfl
theorem Fits.sleepDeep : Fits.Statement .sleepDeep := rfl
theorem Fits.wake (body : Bytes) : Fits.Statement (.wake body) := rfl
theorem Fits.wakingEnd : Fits.Statement .wakingEnd := rfl
theorem Fits.reset (body : Bytes) : Fits.Statement (.reset body) := rfl
theorem Fits.resetKeepTables (body : Bytes) : Fits.Statement (.resetKeepTables body) := rfl
theorem Fits.fetchlive : Fits.Statement .fetchlive := rfl
theorem Fits.fetchqueue : Fits.Statement .fetchqueue := rfl
theorem Fits.resolutionPixelReadsEnd : Fits.Statement .resolutionPixelReadsEnd := rfl

end Sys2Proof.Laws
end

