-- ==== Sys2Proof/Laws/Walks.lean ====
section
/-! SUPPORT. What the walks in progress can do, said once: `advanceWalks_walkedOn`, and for the rest of a READ of
PIXELS `readMany_reads`. The lemmas before them say that a walk gets on by its pixels one after another and that
neither the Dispatcher's hold nor the count of free values decides how. -/

namespace Sys2Proof.Machine

/-- `s` with the Dispatcher's hold and the count of free values used replaced. -/
def State.withWalkers (s : State) (h : Hold) (c : Nat) : State :=
  { s with intake := { s.intake with hold := h }, freeCount := c }

theorem latchPixel_withWalkers (i : Fin 16) (s : State) (k : Nat) (h : Hold) (c : Nat) :
    latchPixel i (s.withWalkers h c) k = (latchPixel i s k).withWalkers h c := by
  simp only [latchPixel, show (s.withWalkers h c).slot i = s.slot i from rfl,
    show (s.withWalkers h c).pixel k = s.pixel k from rfl]
  split
  · rfl
  · split
    · rfl
    · split <;> rfl

theorem latchPixels_withWalkers (i : Fin 16) (ks : List Nat) (s : State) (h : Hold) (c : Nat) :
    ks.foldl (latchPixel i) (s.withWalkers h c) = (ks.foldl (latchPixel i) s).withWalkers h c := by
  induction ks generalizing s with
  | nil => rfl
  | cons k ks ih => simp only [List.foldl_cons]; rw [latchPixel_withWalkers, ih]

theorem advancePass_withWalkers (s : State) (n : Nat) (h : Hold) (c : Nat) :
    (s.withWalkers h c).advancePass n = (s.advancePass n).withWalkers h c := by
  unfold State.advancePass
  rw [show (s.withWalkers h c).sched = s.sched from rfl, show (s.withWalkers h c).comp = s.comp from rfl]
  split
  · rfl
  · rfl
  · rfl
  · split
    · rfl
    · rw [latchPixels_withWalkers]; rfl

theorem latchPixels_comp (i : Fin 16) (ks : List Nat) (s : State) : (ks.foldl (latchPixel i) s).comp = s.comp := by
  rw [latchPixels_frame]

theorem latchPixels_setPass (i : Fin 16) (ks : List Nat) (s : State) (p : Option Pass) :
    ks.foldl (latchPixel i) (s.setPass p) = (ks.foldl (latchPixel i) s).setPass p := by
  induction ks generalizing s with
  | nil => rfl
  | cons k ks ih =>
    simp only [List.foldl_cons]; rw [← ih]; congr 1
    simp only [latchPixel, show (s.setPass p).slot i = s.slot i from rfl,
      show (s.setPass p).pixel k = s.pixel k from rfl]
    split
    · rfl
    · split
      · rfl
      · split <;> rfl

/-- A latch walk that waits for no draw record judges its next pixels. -/
theorem advancePass_latching {s : State} {i : Fin 16} {todo : List Nat} (n : Nat)
    (hp : s.sched.pass = some (.latching i todo)) (hd : s.comp.draw = none) :
    s.advancePass n = ((todo.take n).foldl (latchPixel i) s).setPass (some (.latching i (todo.drop n))) := by
  simp [State.advancePass, hp, hd]

/-- A walk that gets on by `m` pixels and then by `n` gets on by `m + n`. -/
theorem advancePass_add (s : State) (m n : Nat) : (s.advancePass m).advancePass n = s.advancePass (m + n) := by
  cases hp : s.sched.pass with
  | none => simp [State.advancePass, hp]
  | some p =>
    cases p with
    | deferRead todo found =>
      simp [State.advancePass, hp, State.setPass, List.take_add, List.any_append, Bool.or_assoc, State.pixel]
    | resolveRead todo found =>
      simp [State.advancePass, hp, State.setPass, List.take_add, List.any_append, Bool.or_assoc, State.pixel]
    | latching i todo =>
      cases hd : s.comp.draw with
      | some d => simp [State.advancePass, hp, hd]
      | none =>
        rw [advancePass_latching m hp hd, advancePass_latching (m + n) hp hd,
          advancePass_latching n (i := i) (todo := todo.drop m) rfl
            (by rw [← hd, ← latchPixels_comp i (todo.take m) s]; rfl),
          latchPixels_setPass, ← List.foldl_append, List.take_add, List.drop_drop]
        rfl

/-- A walk that gets on by no pixel. -/
theorem advancePass_zero (s : State) : s.advancePass 0 = s := by
  unfold State.advancePass
  split
  · rfl
  · rename_i hp; simp [State.setPass, ← hp]
  · rename_i hp; simp [State.setPass, ← hp]
  · rename_i hp
    split
    · rfl
    · simp [State.setPass, ← hp]

/-! ### What the walks in progress can do -/

/-- `t` is `s` with the running pass's walk got on and the other walker's state its own. -/
def Stage (s t : State) : Prop := ∃ n, t = (s.advancePass n).withWalkers t.intake.hold t.freeCount

theorem stage_freeAdvancePass {s t : State} (h : Stage s t) :
    Stage s t.freeAdvancePass ∧ t.freeAdvancePass.intake.hold = t.intake.hold := by
  obtain ⟨n, hn⟩ := h
  unfold State.freeAdvancePass
  split
  · exact ⟨⟨n, hn⟩, rfl⟩
  · rename_i hp
    have e : t.useFree.advancePass (Config.walkProgress t.freeCount) =
        (s.advancePass (n + Config.walkProgress t.freeCount)).withWalkers t.intake.hold (t.freeCount + 1) := by
      have : t.useFree = (s.advancePass n).withWalkers t.intake.hold (t.freeCount + 1) := by
        conv_lhs => rw [hn]
        rfl
      rw [this, advancePass_withWalkers, advancePass_add]
    rw [e]; exact ⟨⟨_, rfl⟩, rfl⟩

theorem stage_pixel {s t : State} (h : Stage s t) (k : Nat) : ∃ n, t.pixel k = (s.advancePass n).pixel k := by
  obtain ⟨n, hn⟩ := h; exact ⟨n, by rw [hn]; rfl⟩

theorem stage_setHold {s t : State} (h : Stage s t) (hold : Hold) : Stage s (t.setHold hold) := by
  obtain ⟨n, hn⟩ := h
  refine ⟨n, ?_⟩
  conv_lhs => rw [hn]
  rfl

theorem readOn_refl (s : State) : ReadOn s s.intake.hold :=
  ⟨fun _ => rfl, fun r hr => ⟨[], r.todo, [], rfl, rfl, by simp [hr], by simp⟩⟩

theorem readOne_on {s t : State} (h : Stage s t) (hr : ReadOn s t.intake.hold) :
    Stage s t.readOne ∧ ReadOn s t.readOne.intake.hold := by
  obtain ⟨h1, e1⟩ := stage_freeAdvancePass h
  unfold State.readOne
  simp only
  split
  · rename_i r hh
    split
    · exact ⟨h1, by rw [e1]; exact hr⟩
    · rename_i k rest htodo
      refine ⟨?_, ?_⟩
      · exact stage_setHold h1 _
      · obtain ⟨hr1, hr2⟩ := hr
        rw [← e1, hh] at hr1 hr2
        refine ⟨fun hno => ?_, fun r0 hr0 => ?_⟩
        · have := hr1 hno
          exact absurd this.symm (hno r)
        · obtain ⟨read, rest0, more, ht, hl, he, hv⟩ := hr2 r0 hr0
          injection he with he
          subst he
          simp only at htodo
          obtain ⟨n, hn⟩ := stage_pixel h1 k
          refine ⟨read ++ [k], rest, more ++ [fieldCode r0.selector (t.freeAdvancePass.pixel k)], ?_, ?_, ?_, ?_⟩
          · rw [ht, htodo]; simp
          · simp [hl]
          · simp [State.setHold]
          · intro j k' hj
            by_cases hlt : j < read.length
            · rw [List.getElem?_append_left hlt] at hj
              rw [List.getElem?_append_left (by omega)]
              exact hv j k' hj
            · rw [List.getElem?_append_right (by omega)] at hj
              rw [List.getElem?_append_right (by omega)]
              have hj0 : j - read.length = 0 := by
                have := (List.getElem?_eq_some_iff.mp hj).1; simp at this; omega
              rw [hj0] at hj; rw [hl, hj0]
              simp only [List.getElem?_cons_zero, Option.some.injEq] at hj ⊢
              subst hj
              exact ⟨n, by rw [hn]⟩
  · exact ⟨h1, by rw [e1]; exact hr⟩

theorem readMany_on {s : State} (n : Nat) : ∀ {t : State}, Stage s t → ReadOn s t.intake.hold →
    Stage s (State.readMany n t) ∧ ReadOn s (State.readMany n t).intake.hold := by
  induction n with
  | zero => intro t h hr; exact ⟨h, hr⟩
  | succ n ih => intro t h hr; exact ih (readOne_on h hr).1 (readOne_on h hr).2

theorem freeAdvanceRead_on (s : State) : Stage s s.freeAdvanceRead ∧ ReadOn s s.freeAdvanceRead.intake.hold := by
  have base : Stage s s ∧ Stage s s.useFree :=
    ⟨⟨0, by rw [advancePass_zero]; rfl⟩, ⟨0, by rw [advancePass_zero]; rfl⟩⟩
  unfold State.freeAdvanceRead
  split
  · exact readMany_on _ base.2 (readOn_refl s)
  · exact ⟨base.1, readOn_refl s⟩

/-- All that getting the walks on can do (R15, R114, R118). -/
theorem advanceWalks_walkedOn (s : State) : WalkedOn s s.advanceWalks := by
  obtain ⟨h, hr⟩ := freeAdvanceRead_on s
  obtain ⟨⟨n, hn⟩, he⟩ := stage_freeAdvancePass h
  refine ⟨⟨n, ?_⟩, ?_, advanceWalks_of_noWalk⟩
  · show s.freeAdvanceRead.freeAdvancePass = _
    conv_lhs => rw [hn, advancePass_frame s n]
    conv_rhs => rw [advancePass_frame s n]
    rfl
  · show ReadOn s s.freeAdvanceRead.freeAdvancePass.intake.hold
    rw [he]; exact hr

/-- A pass gets on by a free number of pixels, and not at all with none running. -/
theorem freeAdvancePass_eq (s : State) : ∃ m c, s.freeAdvancePass = (s.advancePass m).withWalkers s.intake.hold c ∧
    (s.sched.pass = none → c = s.freeCount) := by
  unfold State.freeAdvancePass
  split
  · exact ⟨0, s.freeCount, by rw [advancePass_zero]; rfl, fun _ => rfl⟩
  · rename_i hp
    refine ⟨Config.walkProgress s.freeCount, s.freeCount + 1, ?_, by simp [hp]⟩
    rw [show s.useFree = s.withWalkers s.intake.hold (s.freeCount + 1) from rfl, advancePass_withWalkers]

/-- With no pass running there is no walk to get on. -/
theorem advancePass_none {s : State} (h : s.sched.pass = none) (n : Nat) : s.advancePass n = s := by
  simp [State.advancePass, h]

/-- All that reading the rest of a READ of PIXELS can do (R15; log 28). -/
theorem readMany_reads {s : State} {r : PixelRead} (h : s.intake.hold = .readPixels r) :
    ∃ (more : Bytes) (n c : Nat) (passed : Nat → Nat),
      State.readMany r.todo.length s =
        (s.advancePass n).withWalkers (.readPixels { r with todo := [], values := r.values ++ more }) c ∧
      more.length = r.todo.length ∧ (∀ j, passed j ≤ passed (j + 1) ∧ passed j ≤ n) ∧
      (∀ j k : Nat, r.todo[j]? = some k →
        more[j]? = some (fieldCode r.selector ((s.advancePass (passed j)).pixel k))) ∧
      (s.sched.pass = none → c = s.freeCount) := by
  obtain ⟨sel, rect, tr, todo, values⟩ := r
  induction todo generalizing s values with
  | nil =>
    refine ⟨[], 0, s.freeCount, fun _ => 0, ?_, rfl, by simp, by simp, fun _ => rfl⟩
    rw [advancePass_zero, List.append_nil, ← h]; rfl
  | cons k rest ih =>
    obtain ⟨m, c1, e1, hc1⟩ := freeAdvancePass_eq s
    have one : s.readOne = (s.advancePass m).withWalkers
        (.readPixels ⟨sel, rect, tr, rest, values ++ [fieldCode sel ((s.advancePass m).pixel k)]⟩) c1 := by
      unfold State.readOne
      rw [e1, h]; rfl
    obtain ⟨more, n, c, passed, e, hl, hp, hv, hc⟩ := ih (s := s.readOne) _ (by rw [one]; rfl)
    refine ⟨fieldCode sel ((s.advancePass m).pixel k) :: more, m + n, c,
      fun j => match j with
        | 0 => m
        | j + 1 => m + passed j, ?_, by simpa using hl, ?_, ?_, ?_⟩
    · show State.readMany rest.length s.readOne = _
      rw [e, one, advancePass_withWalkers, advancePass_add, List.append_assoc]; rfl
    · intro j
      cases j with
      | zero => exact ⟨by simp, by simp⟩
      | succ j => have := hp j; exact ⟨by simp; omega, by simp; omega⟩
    · intro j k' hj
      cases j with
      | zero => simp only [List.getElem?_cons_zero, Option.some.injEq] at hj ⊢; rw [← hj]
      | succ j =>
        rw [List.getElem?_cons_succ] at hj
        rw [List.getElem?_cons_succ, hv j k' hj, one, advancePass_withWalkers, advancePass_add]; rfl
    · intro hn
      have : s.readOne.sched.pass = none := by rw [one, advancePass_none hn]; exact hn
      rw [hc this, one, ← hc1 hn]; rfl

/-- With no walk getting on, nothing has changed. -/
theorem walkedOn_refl (s : State) : WalkedOn s s :=
  ⟨⟨0, by rw [advancePass_zero]⟩, readOn_refl s, fun _ => rfl⟩

theorem atCut_walkedOn (s : State) : WalkedOn s (atCut s) := by
  unfold atCut; split
  · exact advanceWalks_walkedOn s
  · exact walkedOn_refl s

end Sys2Proof.Machine
end

