-- ==== Sys2Proof/Tests/Slice0.lean ====
section
/-! SUPPORT. Tests: the well-formedness check, one-step tests whose expected values come from the spec's tables
and worked examples (or are worked by hand from the rule named), and a witness of the hypotheses of every
statement that has any. -/

set_option maxRecDepth 20000

namespace Sys2Proof.Tests

open Sys2Proof Sys2Proof.Machine

/-! ### Well-formedness: a body of 4,097 bytes is refused by each check, one of 4,096 passes (R152) -/

theorem test_wf_recordReceived : (Instr.recordReceived (List.replicate 4097 0)).wellFormed = false := by
  simp [Instr.wellFormed, bodyFits, Config.maxBody]

theorem test_wf_cancel : (Instr.cancel (List.replicate 4097 0)).wellFormed = false := by
  simp [Instr.wellFormed, bodyFits, Config.maxBody]

theorem test_wf_halt : (Instr.halt (List.replicate 4097 0)).wellFormed = false := by
  simp [Instr.wellFormed, bodyFits, Config.maxBody]

theorem test_wf_wake : (Instr.wake (List.replicate 4097 0)).wellFormed = false := by
  simp [Instr.wellFormed, bodyFits, Config.maxBody]

theorem test_wf_reset : (Instr.reset (List.replicate 4097 0)).wellFormed = false := by
  simp [Instr.wellFormed, bodyFits, Config.maxBody]

theorem test_wf_resetKeepTables : (Instr.resetKeepTables (List.replicate 4097 0)).wellFormed = false := by
  simp [Instr.wellFormed, bodyFits, Config.maxBody]

theorem test_wf_largest : (Instr.recordReceived (List.replicate 4096 0)).wellFormed = true := by
  simp [Instr.wellFormed, bodyFits, Config.maxBody]

/-! ### Small states -/

/-- What a command leaves. -/
def after (c : Instr) (s : State) : State :=
  match exec c s with
  | .next t => t
  | .fault _ => s
  | .refused _ => s

/-- A station in RUN, with PGOOD low, at its pin-reset values. -/
def idle : State := { State.reset with power := .run }

/-- `s` with one record at the intake head. -/
def State.atHead (s : State) (k : RecordKind) (body : Bytes) : State :=
  { s with intake := ⟨[⟨k.code, body⟩], .free⟩ }

/-- `s` with a transaction in progress. -/
def State.receiving (s : State) (rx : Rx) : State := { s with link := { s.link with rx := some rx } }

/-- `s` with an express record in reception. -/
def State.expressed (s : State) (k : RecordKind) (n : Nat) : State :=
  State.receiving s ⟨k.code, 0, n, true, .express⟩

/-- A 64 × 64 window at the page corner. -/
def panel : Panel := { Panel.initial with w := 64, h := 64 }

/-- A bank with records for CLEAN, TONE16, BILEVEL and STROKE in band 1 (bounds 0 and 10, ceiling 40). -/
def bank : Bank := ⟨.active, [0, 10], 40,
  [(1, ⟨1, List.replicate 4 0⟩), (9, ⟨2, List.replicate 128 0x55⟩), (25, ⟨1, List.replicate 64 0xAA⟩),
   (33, ⟨1, List.replicate 64 0⟩)]⟩

/-- A slot with a TONE16 update of the pixel (3, 0), in a phase. -/
def slot (p : Phase) : Slot :=
  ⟨p, 7, true, .tone16, false, 1, .bankA, 2, ⟨0, 0, 4, 1⟩, 1, 0, [0], false⟩

/-- A slot that has taken pixel (3, 0), shown 15 with goal 4, in a phase, on the 64 × 64 window. -/
def holding (p : Phase) : State := { idle with
  store := ⟨[(3, ⟨some 15, 4, 4, some 0⟩)], panel⟩
  comp := Compose.initial panel.window
  wave := ⟨bank, Bank.initial⟩
  temp := ⟨.fixed, 400, 0, some 1, none, none, []⟩
  sched := { Sched.initial with slots := Sched.initial.slots.set 0 (some (slot p)) } }

/-- Slot 0 LATCHING: its pass has judged pixel (3, 0) last. -/
def latching : State := { holding .latching with
  sched := { (holding .latching).sched with pass := some (.latching 0 []) } }

/-- Slot 0 ARMED with the rails RISING. -/
def armed : State := { holding .armed with rails := ⟨.rising, some 20, none, none, false⟩ }

/-- Slot 0 RUNNING its frame 0 of 2 with the rails ON. -/
def running : State := { holding (.running 0) with
  rails := ⟨.on, none, none, none, true⟩, scan := some 12000 }

/-- Slot 0 RUNNING its last frame. -/
def lastFrame : State := { holding (.running 1) with
  rails := ⟨.on, none, none, none, true⟩, scan := some 12000 }

/-! ### Pins and Link Port -/

/-- 9.8: RESET_N asserted holds HOLD asserted and ATTN released. -/
theorem test_pinReset_lines : let t := after .pinReset running
    t.holdLine = true ∧ t.attnLine = false ∧ t.railEn = false ∧ t.sched = Sched.initial := by decide

/-- R169: ADDR0 is the low bit. -/
theorem test_resetNRelease_address :
    (after (.resetNRelease false true) (after .pinReset idle)).link.address = 2 := by decide

/-- R147: RUN, and the pixel records cleared. -/
theorem test_startingEnd : let t := after .startingEnd State.reset
    t.power = .run ∧ t.holdLine = false ∧ t.temp.readInFlight = some 0x49 := by decide

/-- 9.3: the header of a WAVEPUT with F = 60 reserves 3,848 bytes. -/
theorem test_headerDecode_reserves :
    (after (.headerDecode true 0 0x31 3844) idle).intakeUsed = 3848 := by decide

/-- R152: a length above 4,096 is FRAMING, and a broadcast fetch is ignored. -/
theorem test_headerDecode_length : (after (.headerDecode true 0 0x31 4097) idle).flag .framing = true ∧
    after (.headerDecode true 0x0F 0x7F 16) idle = idle := by decide

/-- 9.8: a broadcast CLIPRESET joins the intake queue. -/
theorem test_recordReceived_joins :
    (after (.recordReceived []) (after (.headerDecode true 0x0F 0x16 0) idle)).intake.queue = [⟨0x16, []⟩] := by
  decide

/-- 9.8: a FILL whose CS_N rises after 12 bytes is discarded with FRAMING. -/
theorem test_framingError_short : let t := after (.framingError (.afterHeader 8)) (after (.headerDecode true 0 0x10 9) idle)
    t.flag .framing = true ∧ t.intakeUsed = 0 ∧ t.intake.queue = [] := by decide

/-- 9.8: kind 0x3A is refused UNKNOWN_KIND. -/
theorem test_unknownKind : let t := after .unknownKind { idle with intake := ⟨[⟨0x3A, [0, 0]⟩], .free⟩ }
    t.ev.lastRefusal = some (0x3A, .unknownKind) ∧ t.flag .refused = true ∧ t.intake.queue = [] := by decide

/-- 9.6: a fetch of 8 bytes leaves a notice, one of 16 removes it. -/
theorem test_fetchqueue_partial :
    let n : Reply := .notice ⟨2, .done, some .stroke, some 3, false, 180, 256⟩
    let s := { idle with ev := { Events.initial with replies := [n] } }
    (after .fetchqueue (after (.headerDecode true 0 0x7F 8) s)).ev.replies = [n] ∧
      let t := after .fetchqueue (after (.headerDecode true 0 0x7F 16) s)
      t.ev.replies = [] ∧ t.link.miso = [1, 0, 0, 16, 2, 0, 4, 3, 0, 0, 0, 180, 1, 0, 0, 0] := by decide

/-- 10.6: the snapshot's first bytes of an idle station: RUN, OFF, nothing used or pending, 16 slots FREE. -/
theorem test_fetchlive_idle : (after .fetchlive (after (.headerDecode true 0 0x7E 6) idle)).link.miso =
    [1, 0, 0, 0, 0, 16] := by decide

/-! ### Drawing -/

/-- R57: only the pixels in the clip are written, at DRAW_END. -/
theorem test_fill_clipped :
    let s := State.atHead { idle with comp := { idle.comp with clip := ⟨2, 0, 2, 1⟩ } } .fill [0, 0, 0, 0, 0, 3, 0, 1, 14]
    (after .drawEnd (after .fill s)).store.pixels = [(2, ⟨none, 14, 15, none⟩)] := by decide

/-- R59: a column moved down by one over itself; each destination takes the source's old target. -/
theorem test_copy_overlap :
    let s := { idle with store := { idle.store with pixels :=
      [(0, ⟨none, 1, 15, none⟩), (8192, ⟨none, 2, 15, none⟩)] } }
    (after .drawEnd (after .copy (State.atHead s .copy [0, 0, 0, 0, 0, 1, 0, 2, 0, 0, 0, 1]))).store.pixels =
      [(0, ⟨none, 1, 15, none⟩), (8192, ⟨none, 1, 15, none⟩), (16384, ⟨none, 2, 15, none⟩)] := by decide

/-- 4.3: the table of body blends, column f = 11. -/
theorem test_hilite_table : [15, 12, 9, 6, 4, 1, 0].map (fun b => darken b 11) = [11, 9, 7, 4, 3, 1, 0] := by decide

/-- R62: a rectangle count of 0 is refused LENGTH, a style above 15 FIELD. -/
theorem test_hilite_refused :
    (after .hilite (State.atHead idle .hilite [0, 0])).ev.lastRefusal = some (0x12, .length) ∧
    (after .hilite (State.atHead idle .hilite [16, 1, 0, 0, 0, 0, 0, 0, 0, 0])).ev.lastRefusal =
      some (0x12, .field) := by decide

/-- The glyphs T and o of 3.7, their bitmaps read as 0, with the pair (84, 111). -/
def lettered (kern : List KernPair) : Tables := { Tables.emptied [] with
  fonts := (Tables.emptied []).fonts.set 2 (some ⟨40, none, kern⟩)
  directory := [(dirKey 2 84, ⟨11, 22, -1, 22, 77, []⟩), (dirKey 2 111, ⟨9, 16, 1, 16, 72, []⟩)] }

/-- 3.7: a run from pen 1,203 ends at 1,342. -/
theorem test_text_pen :
    (textRun (lettered [⟨84, 111, -10⟩]) Panel.initial.window [] ⟨40, none, [⟨84, 111, -10⟩]⟩
      ⟨2, false, 1203, 400, 0, true, 0, [84, 111]⟩ 0).pen = 1342 := by decide

/-- 3.7: a missing code between two glyphs, pens 66, 108 and 182, GLYPHMISS. -/
theorem test_text_missing :
    let r : Run := textRun (lettered [⟨84, 111, -10⟩]) Panel.initial.window [] ⟨40, none, [⟨84, 111, -10⟩]⟩
      ⟨2, true, 0, 30, 0, true, 2, [84, 0x2603, 111]⟩ (-13)
    r.pen = 182 ∧ r.misses = [0] := by decide

/-- R47, R48: the end of a TEXT with a miss still to come sets GLYPHMISS and writes the pen. -/
theorem test_text_end_sets_glyphmiss :
    let t := after .drawEnd { idle with comp := { idle.comp with draw := some (.writing (.text 182 0 [0]) []) } }
    t.flag .glyphmiss = true ∧ t.comp.pen = 182 ∧ t.comp.draw = none := by decide

/-- `idle` with a TEXT of two writes whose code between them has been found missing. -/
def found : State := { idle with comp := { idle.comp with
  draw := some (.writing (.text 182 1 []) [(0, 3), (1, 4)]) } }

/-- R50, 3.3: a RESET then keeps the write before the missing code; the other is open. -/
theorem test_abandon_keeps_found (n : Nat) : n = max 1 (Config.walkProgress found.freeCount) →
    (pixelAt (writeTargets [] ([(0, (3 : Tone)), (1, 4)].take n)) 0).target = 3 ∧
      found.abandonDraw.store.pixels = writeTargets [] ([(0, (3 : Tone)), (1, 4)].take n) := by
  rintro rfl
  refine ⟨?_, rfl⟩
  obtain ⟨m, hm⟩ : ∃ m, max 1 (Config.walkProgress found.freeCount) = m + 1 :=
    ⟨max 1 (Config.walkProgress found.freeCount) - 1, by omega⟩
  rw [hm]
  cases m with
  | zero => decide
  | succ m => simp only [List.take_succ_cons, List.take_nil]; decide

/-- 3.7: the table of coverage blends over paper and over a highlight. -/
theorem test_blend_table : [15, 12, 9, 6, 3, 1].map (blend 15 0) = [0, 3, 6, 9, 12, 14] ∧
    [15, 12, 9, 6, 3, 1].map (blend 11 0) = [0, 2, 4, 7, 9, 10] := by decide

/-- 4.6: push 8 over a full stack. -/
theorem test_clippush_overflow :
    let s := { idle with comp := { idle.comp with clipStack := List.replicate 7 idle.window, clip := ⟨1, 2, 3, 4⟩ } }
    let t := after .clippush (State.atHead s .clippush [0, 0, 0, 0, 0, 9, 0, 9])
    t.comp.excess = 1 ∧ t.comp.clip.isEmpty = true ∧ t.comp.heldClip = some ⟨1, 2, 3, 4⟩ ∧
      t.comp.clipStack.length = 7 ∧ t.flag .clipfault = true := by decide

/-- 4.6: a pop at depth 0 sets CLIPFAULT and changes nothing else. -/
theorem test_clippop_underflow : let t := after .clippop (State.atHead idle .clippop [])
    t.comp = idle.comp ∧ t.flag .clipfault = true := by decide

/-- 4.5: CLIPRESET widens to the window. -/
theorem test_clipreset : let s := { idle with comp := { idle.comp with clip := ⟨1, 2, 3, 4⟩, clipStack := [⟨0, 0, 9, 9⟩] } }
    (after .clipreset (State.atHead s .clipreset [])).comp = idle.comp := by decide

/-! ### Tables: the worked example of 2.5 -/

/-- Slot 2 DEFINED with T on its two blocks. -/
def oneGlyph : State := { idle with tables := { Tables.emptied [] with
  fonts := (Tables.emptied []).fonts.set 2 (some ⟨40, some 0x3F, []⟩)
  directory := [(dirKey 2 84, ⟨11, 22, -1, 22, 77, [0, 1]⟩)] } }

theorem test_fontdef_example :
    (after .fontdef (State.atHead idle .fontdef [2, 0, 40, 1, 0, 0, 0x3F])).tables.font 2 = some ⟨40, some 0x3F, []⟩ := by
  decide

/-- 9 × 16: 72 bytes, 2 blocks, 16,382 − 2 = 16,380 free. -/
theorem test_glyphput_blocks :
    let t := after .glyphput (State.atHead oneGlyph .glyphput ([2, 0, 0, 111, 9, 16, 1, 16, 0, 0, 0, 72] ++ List.replicate 72 0))
    t.tables.freeBlocks = 16380 ∧ (t.tables.glyphWrite.map fun g => g.entry.blocks.length) = some 2 ∧
      t.tableBusy = true := by decide

/-- Slot 5 EMPTY: refused NO_FONT. -/
theorem test_glyphput_noFont :
    (after .glyphput (State.atHead oneGlyph .glyphput [5, 0, 0, 84, 0, 0, 0, 0, 0, 0, 0, 0])).ev.lastRefusal =
      some (0x21, .noFont) := by decide

/-- R24, R172: 1 × 3 values 9, 8, 7 packed with a padding half-byte stored as 0. -/
theorem test_glyphWriteEnd :
    let s := after .glyphput (State.atHead oneGlyph .glyphput [2, 0, 0, 111, 1, 3, 0, 0, 0, 0, 0, 72, 0x98, 0x7F])
    let t := after .glyphWriteEnd s
    t.tables.glyphWrite = none ∧ ((t.tables.entry 2 111).map t.tables.bitmap) = some [0x98, 0x70] := by decide

theorem test_glyphdrop_absent : (after .glyphdrop (State.atHead oneGlyph .glyphdrop [2, 0, 0, 63])).tables = oneGlyph.tables := by
  decide

theorem test_fontdrop_returns : let t := after .fontdrop (State.atHead oneGlyph .fontdrop [2])
    t.tables.font 2 = none ∧ t.tables.directory = [] ∧ t.tables.freeBlocks = 16384 := by decide

/-- 2.6: the second pair is below the first: ORDER, and the list stays. -/
theorem test_kernload_order : let s := { idle with tables := lettered [⟨84, 111, -10⟩] }
    let t := after .kernload (State.atHead s .kernload [2, 0, 2, 0, 0, 84, 0, 0, 111, 0xF6, 0, 0, 84, 0, 0, 97, 0xF8])
    t.ev.lastRefusal = some (0x24, .order) ∧ t.tables = s.tables := by decide

theorem test_kernload_replaces : let s := { idle with tables := lettered [] }
    let t := after .kernload (State.atHead s .kernload [2, 0, 1, 0, 0, 84, 0, 0, 97, 0xF8])
    t.tables.kernOf 2 84 97 = some (-8) ∧ t.tables.kernOf 2 97 84 = none := by decide

/-- R29: tones and thickness are clamped. -/
theorem test_styleset_clamps :
    (after .styleset (State.atHead idle .styleset [3, 200, 2, 1, 16, 9])).tables.style 3 =
      ⟨15, .box, .dotted, 15, 4⟩ := by decide

/-! ### Waveforms -/

theorem test_wavebegin : let t := after .wavebegin (State.atHead running .wavebegin [2, 0xF6, 0, 45])
    t.wave.bankB = ⟨.loading, [-10, 0], 45, []⟩ ∧ t.wave.bankA = bank := by decide

/-- Bank B of 5.5 filled to its budget: 40 records, 1,024 frames. -/
def fullBank : Bank := ⟨.loading, [0, 1, 2, 3, 4, 5, 6, 7], 40,
  (List.range 40).map fun n => (n, ⟨[60, 40, 16, 8, 4].getD (n / 8) 0, []⟩)⟩

/-- 5.5: 1,024 − 4 + 5 = 1,025 is STORE_FULL, 1,024 − 4 + 3 fits, and band 8 is FIELD. -/
theorem test_waveput_budget : fullBank.frames = 1024 ∧ fullBank.fits .stroke 7 5 = false ∧
    fullBank.fits .stroke 7 3 = true ∧ checkWaveput (some fullBank) [4, 8, 0, 4] = .refuse .field := by decide

/-- R82: with no bank LOADING a WAVEPUT is refused STATE. -/
theorem test_waveput_state : (after .waveput (State.atHead running .waveput [1, 0, 0, 1])).ev.lastRefusal =
    some (0x31, .state) := by decide

theorem test_wavecommit : let s := { running with wave := ⟨bank, { bank with state := .loading, bounds := [30], ceiling := 40 }⟩ }
    let t := after .wavecommit (State.atHead s .wavecommit [])
    t.wave.bankA.state = .retired ∧ t.wave.bankB.state = .active ∧ t.temp.band = some 0 ∧
      t.flag .temprange = true := by decide

/-! ### Updates -/

/-- 5.1: the level sets. -/
theorem test_quantize_table :
    ((List.finRange 16).map (quantize .tone4)) = [0, 0, 0, 5, 5, 5, 5, 5, 10, 10, 10, 10, 10, 15, 15, 15] ∧
    ((List.finRange 16).map (quantize .bilevel)) = [0, 0, 0, 0, 0, 0, 0, 0, 15, 15, 15, 15, 15, 15, 15, 15] := by
  decide

/-- A request over the corner pixel. -/
def request (allowed : List Mode) (promote : Bool) : Request :=
  ⟨1, ⟨0, 0, 1, 1⟩, allowed, true, promote, true, true⟩

/-- 6.4: requests a to d of the series. -/
theorem test_resolve_a_to_d : let s := { running with residue := [(0, 3)] }
    s.resolve (request [.tone4, .bilevel] false) false = some (.bilevel, false) ∧
    s.resolve (request [.tone4] false) false = none ∧
    s.resolve (request [.stroke] false) true = some (.clean, false) ∧
    s.resolve (request [.tone16, .clean] false) false = some (.tone16, false) := by decide

/-- 6.4: requests e to h of the series. -/
theorem test_resolve_e_to_h : let s := fun n => { running with residue := [(0, n)] }
    (s 11).resolve (request [.bilevel] true) false = some (.tone16, true) ∧
    (s 9).resolve (request [.bilevel] true) false = some (.bilevel, false) ∧
    (s 15).resolve (request [.clean] true) false = some (.clean, false) ∧
    (s 14).resolve (request [.stroke, .bilevel] false) false = some (.bilevel, false) := by decide

/-- R110: a request outside the window ends EMPTY with its notice. -/
theorem test_update_empty :
    let t := after .update (State.atHead idle .update [9, 0x7F, 0, 0, 0, 0, 1, 0, 1, 31, 0, 2])
    t.ev.replies = [.notice ⟨9, .empty, none, none, false, 0, 0⟩] ∧ t.flag .done = true ∧
      t.sched.requests = [] ∧ t.intake.hold = .free := by decide

/-- R113: with a FREE slot the pass begins the reads of the head's resolution. -/
theorem test_admissionPass :
    let s := after .update (State.atHead (holding .armed) .update [9, 0, 10, 0, 10, 0, 2, 0, 1, 2, 0, 2])
    (after .admissionPass s).sched.pass = some (.resolveRead [pixelKey 10 10, pixelKey 11 10] false) := by decide

/-- R115: the FREE slot of lowest number takes the request and pins the ACTIVE bank. -/
theorem test_resolutionPixelReadsEnd :
    let s := { holding .armed with
      store := ⟨[(1, ⟨some 15, 0, 15, none⟩), (3, ⟨some 15, 4, 4, some 0⟩)], panel⟩
      sched := { (holding .armed).sched with
        requests := [⟨9, ⟨1, 0, 1, 1⟩, [.bilevel], true, false, true, true⟩], pass := some (.resolveRead [1] false) } }
    let t := after .resolutionPixelReadsEnd s
    t.slot 1 = some ⟨.latching, 9, true, .bilevel, false, 1, .bankA, 1, ⟨1, 0, 1, 1⟩, 0, 0, [], false⟩ ∧
      t.pins .bankA = 2 ∧ t.sched.requests = [] := by decide

/-- R119, R139: the slot becomes ARMED and the rails rise. -/
theorem test_latchEnd_arms : let t := after .latchEnd latching
    (t.slot 0).map Slot.isArmed = some true ∧ t.rails.state = .rising ∧ t.railEn = true ∧
      t.sched.pass = none := by decide

/-- R117: pixel (2, 0) is skipped under STROKE when its target is paper, taken when it is ink. -/
theorem test_latch_stroke : let s := { latching with sched := { latching.sched with
      slots := latching.sched.slots.set 0 (some { slot .latching with mode := .stroke }) } }
    (latchPixel 0 (s.setPixel 2 ⟨some 0, 15, 15, none⟩) 2).slot 0 = s.slot 0 ∧
    (latchPixel 0 (s.setPixel 2 ⟨some 15, 7, 15, none⟩) 2).pixel 2 = ⟨some 15, 7, 0, some 0⟩ := by decide

/-- R121, R122, R135: the last frame completes the slot; goal becomes shown; the hold timer starts. -/
theorem test_frameEnd_completes : let t := after .frameEnd lastFrame
    t.slot 0 = none ∧ t.pixel 3 = ⟨some 4, 4, 4, none⟩ ∧ t.scan = none ∧ t.rails.hold = some 2000 ∧
      t.ev.replies = [.notice ⟨7, .done, some .tone16, some 1, false, 1, 0⟩] := by decide

/-- R121: a frame before the last advances the frame index. -/
theorem test_frameEnd_advances : let t := after .frameEnd running
    (t.slot 0).map Slot.phase = some (.running 1) ∧ t.scan = some 12000 ∧ t.pixel 3 = running.pixel 3 := by
  decide +kernel

/-- R124: an ARMED slot with the tag is released at once. -/
theorem test_cancel_armed : let t := after (.cancel [7]) (State.expressed armed .cancel 1)
    t.slot 0 = none ∧ t.pixel 3 = ⟨some 15, 4, 4, none⟩ ∧
      t.ev.replies = [.notice ⟨7, .cancelled, some .tone16, some 1, false, 1, 0⟩] := by decide

/-- R126: a HALT aborts a RUNNING slot; 9.8: one with a body is refused LENGTH. -/
theorem test_halt_running : let t := after (.halt []) (State.expressed running .halt 0)
    (t.slot 0 = none ∧ (t.pixel 3).shown = none ∧ t.scan = none) ∧
    (after (.halt [0]) (State.expressed running .halt 1)).ev.lastRefusal = some (0x42, .length) := by decide

/-- 6.5: a CLEAN over (100, 100, 200, 100). -/
theorem test_residue_clean :
    residueReport Panel.initial .clean ⟨100, 100, 200, 100⟩ [33, 66, 67] [(33, 8), (66, 8), (67, 13)] = [(33, 4)] := by
  decide

/-- 6.5: strokes over tile 349, and a promoted TONE16. -/
theorem test_residue_strokes :
    residueReport Panel.initial .stroke ⟨0, 0, 1, 1⟩ [349] [(349, 14)] = [(349, 15)] ∧
    residueReport Panel.initial .tone16 ⟨0, 0, 1, 1⟩ [349] [(349, 12)] = [(349, 6)] := by decide

/-! ### Panel and rails -/

/-- 1.6: a frame period of 50,000 is taken as 40,000. -/
theorem test_panelset_clamps :
    (after .panelset (State.atHead idle .panelset
      [0, 0, 4, 0, 6, 128, 0xC3, 0x50, 20, 1, 244, 10, 0x49, 0, 60, 10])).store.panel =
      ⟨0, 1024, 1664, 40000, 20, 500, 10, 0x49, 60, 10⟩ := by decide

/-- R9: the Dispatcher is held until the reinitialization ends, which triggers a pass. -/
theorem test_reinitEnd : let s := after .panelset (State.atHead idle .panelset
      [0, 0, 4, 0, 6, 128, 0xC3, 0x50, 20, 1, 244, 10, 0x49, 0, 60, 10])
    s.intake.hold = .reinit ∧ (after .reinitEnd s).intake.hold = .free ∧
      (after .reinitEnd s).sched.passDue = true := by decide

/-- 8.2: PGOOD at 7 ms brings ON, and slot 0 RUNNING at index 0. -/
theorem test_pgoodAsserted : let t := after .pgoodAsserted armed
    t.rails = ⟨.on, none, none, none, true⟩ ∧ (t.slot 0).map Slot.phase = some (.running 0) ∧
      t.scan = some 12000 := by decide +kernel

/-- 8.2: PGOOD lost enters FAULT and aborts slot 0. -/
theorem test_pgoodLost : let t := after .pgoodLost running
    t.rails.state = .fault ∧ t.railEn = false ∧ t.flag .railfault = true ∧ t.slot 0 = none ∧
      (t.pixel 3).shown = none := by decide

theorem test_riseTimerExpiry : let t := after .riseTimerExpiry armed
    t.rails.state = .fault ∧ (t.pixel 3).shown = some 15 ∧ t.slot 0 = none := by decide

/-- 8.2: the hold timer's expiry starts a fall of 10 ms. -/
theorem test_holdTimerExpiry : let s := { idle with rails := ⟨.on, none, some 2000, none, true⟩ }
    (after .holdTimerExpiry s).rails = ⟨.falling, none, none, some 10, true⟩ := by decide

/-- 8.2: OFF, then RISING at once with a slot ARMED. -/
theorem test_fallTimerExpiry : let s := { armed with rails := ⟨.falling, none, none, some 10, false⟩ }
    (after .fallTimerExpiry s).rails = ⟨.rising, some 20, none, none, false⟩ := by decide

theorem test_railctlOff : let s := State.atHead { idle with rails := ⟨.on, none, some 2000, none, true⟩ } .railctl [0]
    (after .railctlOff s).rails.state = .falling ∧ after .railctlClear s = s := by decide

theorem test_railctlClear : let s := State.atHead { idle with rails := ⟨.fault, none, none, none, false⟩ } .railctl [1]
    (after .railctlClear s).rails.state = .off ∧ (after .railctlClear s).sched.passDue = true := by decide

/-! ### Temperature -/

/-- 6.3: the table of bands. -/
theorem test_band_table :
    [-4, 15, 16, -10, -11, -25, 45, 46].map (bandOf [-10, 0, 8, 16, 24, 32] 45) =
      [(0, false), (2, false), (3, false), (0, false), (0, true), (0, true), (5, false), (5, true)] := by decide

/-- 6.3: a raw value of 32,752 is clamped to 1,360; R92: the first byte is acknowledged, the second not. -/
theorem test_sensorReadEnd :
    let s := { running with temp := ⟨.sensor, 352, 2, some 1, some 0x49, some 60, [.start, .address 0x49]⟩ }
    let t := after (.sensorReadEnd (0x7F, 0xF0)) s
    t.temp = ⟨.sensor, 1360, 0, some 1, none, some 60, [.start, .address 0x49, .ack, .nack, .stop]⟩ ∧
      t.flag .temprange = true := by decide

/-- R92: the first byte is the most significant, and the count is signed. -/
theorem test_sensorReadEnd_signed :
    let s := { running with temp := ⟨.sensor, 352, 2, some 1, some 0x49, some 60, [.start, .address 0x49]⟩ }
    (after (.sensorReadEnd (0xFF, 0xF0)) s).temp.current = -16 := by decide

/-- 6.3: the third failure sets TEMPFAIL, the first does not. R93: a missing acknowledge ends with a stop. -/
theorem test_sensor_failures :
    let s := fun n => { idle with temp := ⟨.sensor, 352, n, none, some 0x49, some 60, [.start, .address 0x49]⟩ }
    (after .sensorNoAck (s 0)).flag .tempfail = false ∧ (after .sensorReadTimeout (s 2)).flag .tempfail = true ∧
      (after .sensorNoAck (s 3)).flag .tempfail = false ∧
      (after .sensorNoAck (s 0)).temp.wire = [.start, .address 0x49, .stop] := by decide

/-- R93: a timed-out read releases the lines without a stop condition. -/
theorem test_sensor_timeout_releases :
    let s := { idle with temp := ⟨.sensor, 352, 0, none, some 0x49, some 60, [.start, .address 0x49]⟩ }
    (after .sensorReadTimeout s).temp.wire.getLast? = some .release := by
  simp [after, exec, execSensorReadTimeout, idle, State.failRead, State.setFlagIf, State.endRead, State.useFree,
    State.cutEvents]
  rw [← List.cons_append, List.getLast?_concat]

theorem test_sampleIntervalExpiry : let s := { idle with temp := ⟨.sensor, 352, 0, none, none, some 60, [.stop]⟩ }
    let t := after .sampleIntervalExpiry s
    t.temp.readInFlight = some 0x49 ∧ t.temp.wire = [.start, .address 0x49] := by decide

/-- R95: FIXED below the range is taken as −640. -/
theorem test_tempset : (after .tempsetFixed (State.atHead idle .tempset [1, 0x80, 0])).temp =
      ⟨.fixed, -640, 0, none, none, none, []⟩ ∧
    (after .tempsetSensor (State.atHead idle .tempset [0, 0, 0])).temp =
      ⟨.sensor, 400, 0, none, some 0x49, some 60, [.start, .address 0x49]⟩ := by
  decide

/-! ### Events, reads, power -/

/-- R166, R167: bit 12 names no flag. -/
theorem test_evmask : (after .evmask (State.atHead idle .evmask [0x10, 0])).ev.lastRefusal = some (0x60, .field) ∧
    (after .evmask (State.atHead idle .evmask [0, 1])).ev.mask = 1 := by decide

theorem test_evclear : let s := State.atHead { idle with ev := { Events.initial with flags := 0x011 } } .evclear [0, 0x10]
    (after .evclear s).ev.flags = 1 := by decide

/-- 10.5: an absent entry answers with 14 bytes. -/
theorem test_readGlyph_absent : ((after .readGlyph (State.atHead idle .read [0, 5, 0, 0, 84])).ev.replies.map Reply.bytes) =
    [[2, 0, 0, 14, 5, 0, 0, 84, 0, 0, 0, 0, 0x40, 0]] := by decide

theorem test_readGlyphEnd : let s := after .readGlyph (State.atHead oneGlyph .read [0, 2, 0, 0, 84])
    s.reserved = 1 ∧ (after .readGlyphEnd s).ev.replies.map (fun r => r.bytes.length) = [22 + 121] ∧
      (after .readGlyphEnd s).intake.hold = .free := by decide

theorem test_readKern : let s := { idle with tables := lettered [⟨84, 111, -10⟩] }
    ((after .readKern (State.atHead s .read [1, 2, 0, 0])).ev.replies.map Reply.bytes) =
      [[2, 1, 0, 18, 2, 1, 0, 1, 0, 0, 1, 0, 0, 84, 0, 0, 111, 0xF6]] := by decide

theorem test_readStyle : (after .readStyle (State.atHead idle .read [2])).ev.replies.map (fun r => r.bytes.length) = [84] := by
  decide

theorem test_readWave : ((after .readWave (State.atHead running .read [3, 0])).ev.replies.map fun r => r.bytes.length) =
    [21 + 4 * 4] := by decide

/-- R105, R108: a 64 × 64 window has one tile. -/
theorem test_readResidue : let s := { running with residue := [(0, 12)] }
    ((after .readResidue (State.atHead s .read [4, 0, 0, 0, 9])).ev.replies.map Reply.bytes) =
      [[2, 4, 0, 11, 1, 1, 0, 0, 0, 1, 12]] := by decide

/-- 1.7: a READ over 40 × 40 pixels is truncated at column 23 of row 25. -/
theorem test_readPixels_truncated :
    (match (after .readPixels (State.atHead idle .read [5, 0, 0, 0, 0, 0, 40, 0, 40, 0])).intake.hold with
      | .readPixels r => some (r.truncated, r.todo.length, r.todo.getLast?)
      | _ => none) = some (true, 1024, some (pixelKey 23 25)) := by decide +kernel

/-- R15, R174: SHOWN of an UNKNOWN pixel is 0xFF. -/
theorem test_readPixelsEnd : let s := after .readPixels (State.atHead running .read [5, 0, 2, 0, 0, 0, 2, 0, 1, 0])
    ((after .readPixelsEnd s).ev.replies.map Reply.bytes) =
      [[2, 5, 0, 18, 0, 0, 0, 2, 0, 0, 0, 2, 0, 1, 0, 2, 0xFF, 15]] := by decide

/-- R148: rails FALLING are BUSY; OFF lets the station sleep with HOLD released. -/
theorem test_sleep : (after .sleep (State.atHead { idle with rails := ⟨.falling, none, none, some 10, false⟩ } .sleep [0])).ev.lastRefusal
      = some (0x70, .busy) ∧
    (after .sleep (State.atHead idle .sleep [0])).power = .sleep ∧
    (after .sleep (State.atHead idle .sleep [0])).holdLine = false := by decide

theorem test_sleepDeep : let t := after .sleepDeep (State.atHead { running with sched := Sched.initial, scan := none, rails := ⟨.off, none, none, none, false⟩ } .sleep [1])
    t.power = .deep ∧ t.store.pixels = [] ∧ t.store.panel = panel := by decide

/-- 8.5: a last byte that differs is ignored; the pattern wakes. -/
theorem test_wake : let s := State.receiving { idle with power := .sleep } ⟨0x71, 1, 8, false, .wakeMatch⟩
    (after (.wake [1, 0xFE, 1, 0xFE, 1, 0xFE, 1, 0xFF]) s).power = .sleep ∧
    (after (.wake [1, 0xFE, 1, 0xFE, 1, 0xFE, 1, 0xFE]) s).power = .waking false := by decide

/-- 8.5: the end of WAKING from DEEP: RUN, WAKE, fonts empty. -/
theorem test_wakingEnd : let t := after .wakingEnd { oneGlyph with power := .waking true }
    t.power = .run ∧ t.flag .wake = true ∧ t.tables.font 2 = none ∧ t.tables.directory = [] := by decide

/-- 8.2: a soft reset in ON enters FALLING and leaves the pixels of a RUNNING slot UNKNOWN. -/
theorem test_reset : let t := after (.reset [0]) (State.expressed lastFrame .reset 1)
    t.rails.state = .falling ∧ t.wave.bankA = Bank.initial ∧ t.temp.band = none := by
  simp [after, exec]
  decide

theorem test_resetKeepTables : let t := after (.resetKeepTables [1]) (State.expressed oneGlyph .reset 1)
    t.tables = oneGlyph.tables ∧ t.ev = Events.initial := by decide

/-! ### Frames -/

/-- R76, R172: 0x55 holds DARKEN four times. -/
theorem test_drive : running.outputDrive 3 0 = .darken ∧ running.outputDrive 2 0 = .none := by decide

/-! ### Witnesses: states and operands that meet the hypotheses of each statement, clause by clause -/

theorem onPage_of {r : Rect} (h : 0 ≤ r.x ∧ r.x + r.w ≤ 8192 ∧ 0 ≤ r.y) : r.onPage := by
  intro x y hr
  simp only [Rect.has, Bool.and_eq_true, decide_eq_true_eq] at hr
  omega

theorem window_onPage : panel.window.onPage := onPage_of (by decide)

theorem dispatches {s : State} {k : RecordKind} {body : Bytes} (h : s.power = .run) :
    Dispatches (State.atHead s k body) k body [] := ⟨h, rfl, rfl⟩

theorem isExpressed (s : State) (k : RecordKind) (n : Nat) : Expressed (State.expressed s k n) k n := ⟨0, true, rfl⟩

/-- The slots of `holding`. -/
theorem holding_slot {p : Phase} {i : Fin 16} {sl : Slot} (h : (holding p).slot i = some sl) :
    i = 0 ∧ sl = slot p := by
  fin_cases i
  · exact ⟨rfl, (Option.some.inj h).symm⟩
  all_goals exact absurd h (by simp [State.slot, holding, Sched.initial])

theorem running_stores : StoresCanonical running := ⟨by decide, by decide, by decide, by decide, by decide, by decide, by decide⟩

theorem running_panel : PanelLegal panel :=
  ⟨by decide, by decide, by decide, by decide, by decide, by decide, by decide, by decide, by decide, by decide⟩

theorem running_clip : ClipLegal running where
  clip := fun _ _ h => h
  stack := by simp [running, holding, Compose.initial]
  held := by simp [running, holding, Compose.initial]
  depth := by decide
  excess := by decide
  deep := by decide
  shallow := by decide

theorem running_queues : QueuesBounded running := ⟨by decide, by decide, by decide⟩

theorem running_banks : BanksLegal running where
  active := by decide
  loading := by decide
  budgets := by unfold Bank.inBudget; decide
  empty := by intro b h; cases b <;> first | rfl | exact absurd h (by decide)
  pins := by intro i sl h; obtain ⟨rfl, rfl⟩ := holding_slot h; decide
  pinned := by intro i sl h; obtain ⟨rfl, rfl⟩ := holding_slot h; exact ⟨_, rfl, by decide, by decide⟩
  index := by
    intro i sl k h hp; obtain ⟨rfl, rfl⟩ := holding_slot h
    simp only [slot, Phase.running.injEq] at hp; subst hp; decide

theorem running_owners : OwnersLegal running where
  owners := by decide
  taken := by intro i sl h; obtain ⟨rfl, rfl⟩ := holding_slot h; decide
  driving := by intro i sl h _; obtain ⟨rfl, rfl⟩ := holding_slot h; decide
  unknown := by
    intro e he i sl _ hs _
    simp only [running, holding, List.mem_singleton] at he; subst he; simp at hs
  latching := by intro i sl h hp; obtain ⟨rfl, rfl⟩ := holding_slot h; simp [slot] at hp
  walking := by intro i todo h; simp [running, holding, Sched.initial] at h
  reading := by decide

theorem running_rails : RailsLegal running where
  running := by intro i sl h _; obtain ⟨rfl, rfl⟩ := holding_slot h; decide
  scanning := fun _ => ⟨rfl, 0, _, rfl, rfl⟩
  armed := by intro i sl h hp; obtain ⟨rfl, rfl⟩ := holding_slot h; simp [slot, Slot.isArmed] at hp
  holding := by decide
  rising := by decide
  falling := by decide
  fault := fun h => absurd h (by decide)

theorem armed_owners : OwnersLegal armed where
  owners := by decide
  taken := by intro i sl h; obtain ⟨rfl, rfl⟩ := holding_slot h; decide
  driving := by intro i sl h _; obtain ⟨rfl, rfl⟩ := holding_slot h; decide
  unknown := by
    intro e he i sl _ hs _
    simp only [armed, holding, List.mem_singleton] at he; subst he; simp at hs
  latching := by intro i sl h hp; obtain ⟨rfl, rfl⟩ := holding_slot h; simp [slot] at hp
  walking := by intro i todo h; simp [armed, holding, Sched.initial] at h
  reading := by decide

/-- `oneGlyph` with a glyph write of 1 × 3 values in progress. -/
def writing : State := { oneGlyph with tables := { oneGlyph.tables with
  glyphWrite := some ⟨2, 111, ⟨1, 3, 0, 0, 72, [2]⟩, [0x98, 0x70]⟩ } }

theorem oneGlyph_pool : PoolLegal oneGlyph.tables where
  sorted := by decide
  once := by decide
  inPool := by decide
  sizes := by decide
  ranges := by intro e he; simp only [oneGlyph, List.mem_singleton] at he; subst he; unfold Entry.inRange; decide
  fonts := by decide
  room := by decide
  writing := by intro g h; simp [oneGlyph, Tables.emptied] at h

theorem writing_pool : PoolLegal writing.tables where
  sorted := by decide
  once := by decide
  inPool := by decide
  sizes := by decide
  ranges := by intro e he; simp only [Sys2Proof.Tests.writing, oneGlyph, List.mem_singleton] at he; subst he; unfold Entry.inRange; decide
  fonts := by decide
  room := by decide
  writing := by
    intro g h
    simp only [Sys2Proof.Tests.writing, Option.some.injEq] at h; subst h; unfold Entry.inRange; decide

/-- `running` with bank B LOADING, one frame short of its budget under a new key: 3 records, 1,023 frames. -/
def loading : State := { running with wave := ⟨bank, ⟨.loading, [0, 10], 40,
  [(0, ⟨60, []⟩), (1, ⟨960, []⟩), (8, ⟨3, []⟩)]⟩⟩ }

theorem loading_stores : StoresCanonical loading :=
  ⟨by decide, by decide, by decide, by decide, by decide, by decide, by decide⟩

theorem loading_banks : BanksLegal loading where
  active := by decide
  loading := by decide
  budgets := by unfold Bank.inBudget; decide
  empty := by intro b h; cases b <;> first | rfl | exact absurd h (by decide)
  pins := by intro i sl h; obtain ⟨rfl, rfl⟩ := holding_slot h; decide
  pinned := by intro i sl h; obtain ⟨rfl, rfl⟩ := holding_slot h; exact ⟨_, rfl, by decide, by decide⟩
  index := by
    intro i sl k h hp; obtain ⟨rfl, rfl⟩ := holding_slot h
    simp only [slot, Phase.running.injEq] at hp; subst hp; decide

theorem witness_StepRunsFrontCommand :
    ({ idle with pending := [.fill, .text] } : State).pending = .fill :: [.text] ∧ idle.pending = [] := ⟨rfl, rfl⟩

theorem witness_PinResetAndStartSetEveryBlock : (State.reset.power = .starting ∧ State.reset.link.resetAsserted = false ∧
      State.reset.temp.source = .sensor) ∧
    let s : State := { State.reset with temp := { Thermal.initial with source := .fixed } }
    s.power = .starting ∧ s.link.resetAsserted = false ∧ s.temp.source = .fixed := by decide

/-- An intake queue with 4,084 bytes free: three records of the largest size. -/
def crowded : State := { idle with intake := ⟨List.replicate 3 ⟨0x10, List.replicate 4096 0⟩, .free⟩ }

theorem crowded_free : crowded.intakeFree = 4084 := by
  simp [State.intakeFree, State.intakeUsed, crowded, idle, State.reset, Config.intakeBytes, List.replicate]

/-- The largest length of a clause and the smallest of the next, in each power state that has its own clause. -/
theorem witness_HeaderDecodeFollowsPowerState :
    (idle.link.resetAsserted = false ∧ idle.link.rx = none) ∧
    (crowded.link.resetAsserted = false ∧ crowded.link.rx = none ∧ crowded.power = .run ∧
      4 + 4080 ≤ crowded.intakeFree ∧ crowded.intakeFree < 4 + 4081) ∧
    (¬ ((0x01 : Byte).toNat = idle.link.address.val ∨ (0x01 : Byte) = 0x0F)) ∧
    ((0x0F : Byte) = 0x0F ∧ ((0x7E : Byte) = 0x7E ∨ (0x7E : Byte) = 0x7F)) ∧
    ((0x00 : Byte).toNat = idle.link.address.val ∧ 4096 < (4097 : BitVec 16).toNat ∧
      (4096 : BitVec 16).toNat ≤ 4096) ∧
    (State.reset.link.resetAsserted = false ∧ State.reset.link.rx = none ∧ State.reset.power ≠ .run) ∧
    (idle.missesLeft = [] ∧ idle.power ≠ .waking true) ∧
    -- a TEXT with a lookup to come, and a wake from DEEP
    (let s := State.setDraw idle (some (.writing (.text 182 0 [1]) [(0, 3), (1, 4)]));
      s.link.resetAsserted = false ∧ s.link.rx = none ∧ s.missesLeft ≠ [] ∧ s.power ≠ .waking true) ∧
    (let s : State := { idle with power := .waking true };
      s.link.resetAsserted = false ∧ s.link.rx = none ∧ s.power = .waking true ∧ s.missesLeft = []) := by
  refine ⟨by decide, ⟨rfl, rfl, rfl, ?_, ?_⟩, by decide, by decide, by decide, by decide, ⟨rfl, by decide⟩,
    by decide, by decide⟩ <;>
    simp [crowded_free]

theorem witness_RecordReceivedJoinsTail :
    (∀ d ∈ [Disposition.reserved, .overrun, .silent],
      (State.receiving idle ⟨0x10, 0, ([] : Bytes).length, true, d⟩).link.rx = some ⟨0x10, 0, 0, true, d⟩ ∧
      ¬ ((0x10 : Byte) = 0x41 ∨ (0x10 : Byte) = 0x42 ∨ (0x10 : Byte) = 0x71 ∨ (0x10 : Byte) = 0x72 ∨
        (0x10 : Byte) = 0x7E ∨ (0x10 : Byte) = 0x7F)) ∧
    -- an untaken CANCEL, HALT, RESET, RESET_KEEP_TABLES and WAKE
    (∀ e ∈ ([(.cancel [7], 0x41, [7]), (.halt [], 0x42, []), (.reset [0], 0x72, [0]),
        (.resetKeepTables [1], 0x72, [1]), (.wake [0], 0x71, [0])] : List (Instr × Byte × Bytes)),
      (e.1, e.2.1) ∈ ([(.cancel e.2.2, 0x41), (.halt e.2.2, 0x42), (.reset e.2.2, 0x72),
        (.resetKeepTables e.2.2, 0x72), (.wake e.2.2, 0x71)] : List (Instr × Byte)) ∧
      (e.1 = .reset e.2.2 → e.2.2 ≠ [1]) ∧ (e.1 = .resetKeepTables e.2.2 → e.2.2 ≠ [0]) ∧
      ∀ d, (State.receiving idle ⟨e.2.1, 0, e.2.2.length, true, d⟩).link.rx =
        some ⟨e.2.1, 0, e.2.2.length, true, d⟩) ∧
    (State.receiving idle ⟨0x7F, 0, 16, true, .overrun⟩).link.rx = some ⟨0x7F, 0, 16, true, .overrun⟩ := by
  refine ⟨fun d _ => ⟨rfl, by decide⟩, ?_, rfl⟩
  intro e he
  simp only [List.mem_cons, List.not_mem_nil, or_false] at he
  rcases he with rfl | rfl | rfl | rfl | rfl <;> exact ⟨by decide, by decide, by decide, fun _ => rfl⟩

theorem witness_FramingErrorDiscardsRecord :
    (∀ d, (State.receiving idle ⟨0x10, 0, 9, true, d⟩).link.rx = some ⟨0x10, 0, 9, true, d⟩) ∧
      idle.link.resetAsserted = false ∧ idle.link.rx = none ∧
    -- a WAKE ignored in RUN, and a record that met a full intake queue
    idle.disposition 0x71 1 = some .ignored ∧
    (let full : State := { idle with intake := ⟨List.replicate 4 ⟨0x10, List.replicate 4092 0⟩, .free⟩ };
      full.disposition 0x10 9 = none ∧ (full.decodeHeader 0 0x10 9).link.rx = none) :=
  ⟨fun _ => rfl, by decide, rfl, by decide, by decide, by decide⟩

/-- `idle` while a FILL draws. -/
def drawing : State := { idle with comp := { idle.comp with draw := some (.writing .fill []) } }

theorem witness_HeadRefusalsLeaveTheQueue :
    (let s : State := { idle with intake := ⟨[⟨0x3A, []⟩], .free⟩ };
      s.power = .run ∧ s.intake.hold = .free ∧ s.intake.queue = [⟨0x3A, []⟩] ∧
        ∀ k : RecordKind, k.code ≠ 0x3A) ∧
    (∀ e ∈ fixedLengths,
      let body : Bytes := List.replicate (e.2.2 + 1) 0
      let s := State.atHead idle e.2.1 body
      Dispatches s e.2.1 body [] ∧ ¬ lengthWaits e.2.1 s ∧ body.length ≠ e.2.2) ∧
    -- a kind without a wait of its own, while a draw, a latch pass or a glyph write is in progress
    (∀ s ∈ [drawing, latching, writing], ∀ k ∈ ([.update, .panelset, .railctl, .tempset, .wavecommit, .evmask,
        .evclear] : List RecordKind), ∀ body,
      Dispatches (State.atHead s k body) k body [] ∧ ¬ lengthWaits k (State.atHead s k body)) ∧
    -- each wait is the kind's own: SLEEP in a latch pass, a table record beside a FILL, a draw beside a glyph write
    (¬ lengthWaits .sleep (State.atHead latching .sleep []) ∧
      ¬ lengthWaits .fontdef (State.atHead drawing .fontdef []) ∧
      ¬ lengthWaits .fill (State.atHead writing .fill [])) ∧
    latching.latching = true ∧ drawing.comp.draw.isSome = true ∧ writing.tableBusy = true := by
  refine ⟨⟨rfl, rfl, rfl, fun k => by cases k <;> decide⟩, fun e he => ⟨dispatches rfl, ?_, by simp⟩, ?_, ?_,
    rfl, rfl, rfl⟩
  · revert e; unfold lengthWaits; decide
  · intro s hs k hk body
    simp only [List.mem_cons, List.not_mem_nil, or_false] at hs hk
    rcases hs with rfl | rfl | rfl <;> refine ⟨dispatches rfl, ?_⟩ <;>
      rcases hk with rfl | rfl | rfl | rfl | rfl | rfl | rfl <;> simp [lengthWaits]
  · unfold lengthWaits; decide

theorem witness_WaitingHeadsStay :
    (∀ k body, Dispatches (State.atHead drawing k body) k body []) ∧ drawing.comp.draw.isSome = true ∧
    (∀ k body, Dispatches (State.atHead latching k body) k body []) ∧ latching.latching = true ∧
    (∀ k body, Dispatches (State.atHead writing k body) k body [] ∧
      (State.atHead writing k body).tableBusy = true) ∧
    (∃ u, parseUpdate [9, 0, 0, 0, 0, 0, 1, 0, 1, 31, 0, 2] = .ok u ∧
      let s := State.atHead { idle with sched := { Sched.initial with
        requests := List.replicate 24 (request [.clean] false) } } .update [9, 0, 0, 0, 0, 0, 1, 0, 1, 31, 0, 2]
      Dispatches s .update [9, 0, 0, 0, 0, 0, 1, 0, 1, 31, 0, 2] [] ∧ meetsWindow s u.rect ∧
        24 ≤ s.sched.requests.length) ∧
    (∃ h, parseWavebegin [1, 0, 85] = .ok h ∧
      let s := State.atHead { running with wave := ⟨{ bank with state := .retired }, bank⟩ } .wavebegin [1, 0, 85]
      Dispatches s .wavebegin [1, 0, 85] [] ∧ (s.bank s.beginTarget).state = .retired ∧ 0 < s.pins s.beginTarget) ∧
    (∃ p, parsePanelset (encodePanelset panel) = .ok p) ∧ running.anyBusy = true ∧
    -- a PANELSET that came to the head with no slot and no draw in progress, but with a pass running or triggered
    (∀ body, Dispatches (State.atHead (State.setPass idle (some (.resolveRead [] false))) .panelset body)
      .panelset body []) ∧ (State.setPass idle (some (.resolveRead [] false))).sched.pass.isSome = true ∧
    (∀ body, Dispatches (State.atHead idle.trigger .panelset body) .panelset body []) ∧
    idle.trigger.sched.passDue = true :=
  ⟨fun _ _ => dispatches rfl, rfl, fun _ _ => dispatches rfl, rfl, fun _ _ => ⟨dispatches rfl, rfl⟩,
    ⟨_, rfl, dispatches rfl, ⟨0, 0, by decide, by decide⟩, by decide⟩,
    ⟨_, rfl, dispatches rfl, by decide, by decide⟩, ⟨_, rfl⟩, by decide, fun _ => dispatches rfl, rfl,
    fun _ => dispatches rfl, rfl⟩

theorem idle_onPage : idle.comp.clip.onPage := onPage_of (by decide)

theorem witness_FillPaintsRectangle (body : Bytes) :
    Dispatches (State.atHead idle .fill body) .fill body [] ∧ (State.atHead idle .fill body).drawWaits = false ∧
      (List.replicate 8 (0 : Byte)).length ≠ 9 ∧ (List.replicate 9 (0 : Byte)).length = 9 ∧
      (State.atHead idle .fill body).comp.clip.onPage :=
  ⟨dispatches rfl, rfl, by decide, by decide, idle_onPage⟩

theorem witness_CopyTakesOldTargets (body : Bytes) :
    Dispatches (State.atHead idle .copy body) .copy body [] ∧ (State.atHead idle .copy body).drawWaits = false ∧
      (List.replicate 11 (0 : Byte)).length ≠ 12 ∧ (List.replicate 12 (0 : Byte)).length = 12 ∧
      (State.atHead idle .copy body).comp.clip.onPage ∧
      -- on the same rows, at its left column and one to the right
      (∀ e ∈ [((0 : Byte), true), (1, false)], let b : Bytes := [0, 0, 0, 0, 0, 2, 0, 1, 0, e.1, 0, 0];
        b.length = 12 ∧ decide (s16 b 10 = (rectAt b 0).y ∧ s16 b 8 ≤ (rectAt b 0).x) = e.2) :=
  ⟨dispatches rfl, rfl, by decide, by decide, idle_onPage, by decide⟩

theorem witness_CopyInPlaceWalkAgrees : (⟨8191, 0, 1, 1664⟩ : Rect).onPage ∧ panel.window.onPage :=
  ⟨onPage_of (by decide), window_onPage⟩

theorem witness_HilitePaintsBodyThenEdges (body : Bytes) :
    (Dispatches (State.atHead idle .hilite body) .hilite body [] ∧
      (State.atHead idle .hilite body).drawWaits = false ∧ idle.tables.glyphWrite = none ∧
      idle.comp.clip.onPage) ∧
    (Dispatches (State.atHead writing .hilite body) .hilite body [] ∧
      (State.atHead writing .hilite body).drawWaits = false ∧ writing.tables.glyphWrite.isSome = true) ∧
    (let one : Bytes := [15, 1, 0, 0, 0, 0, 0, 1, 0, 1];
      2 ≤ one.length ∧ 1 ≤ u8 one 1 ∧ u8 one 1 ≤ 32 ∧ one.length = 2 + 8 * u8 one 1 ∧ u8 one 0 ≤ 15) ∧
    15 < u8 [16, 1, 0, 0, 0, 0, 0, 1, 0, 1] 0 ∧ 32 < u8 [0, 33] 1 :=
  ⟨⟨dispatches rfl, rfl, rfl, idle_onPage⟩, ⟨dispatches rfl, rfl, rfl⟩, by decide, by decide, by decide⟩

/-- A TEXT of the code 84 in slot 2. -/
def textBody : Bytes := encodeText ⟨2, false, 0, 30, 0, true, 0, [84]⟩

/-- A TEXT in each range's end: the largest baseline and code, the smallest pen. -/
def textEdge : Bytes := encodeText ⟨7, false, -8192, 2047, 15, true, 0, [0x10FFFF]⟩

theorem witness_TextRunsAndSetsPen :
    ((∃ kind todo, drawing.comp.draw = some (.writing kind todo)) ∧
      ∃ pen made misses todo, found.comp.draw = some (.writing (.text pen made misses) todo)) ∧
    (∀ body ∈ [textBody, textEdge], (15 ≤ body.length ∧ 1 ≤ u8 body 14 ∧ u8 body 14 ≤ 250 ∧
        body.length = 15 + 3 * u8 body 14) ∧
      u8 body 0 ≤ 7 ∧ u8 body 1 ≤ 1 ∧ u8 body 9 ≤ 1 ∧ -256 ≤ s16 body 6 ∧ s16 body 6 ≤ 2047 ∧
      (u8 body 1 = 0 → -8192 ≤ s32 body 2 ∧ s32 body 2 ≤ 65535) ∧
      ∀ c ∈ (List.range (u8 body 14)).map fun j => u24 body (15 + 3 * j), c ≤ 0x10FFFF) ∧
    u8 textBody 0 = 2 ∧ ¬ (15 + 3 * u8 (textBody ++ [0]) 14 = (textBody ++ [0]).length) ∧
    (let b : Bytes := encodeText ⟨2, false, -8193, 30, 0, true, 0, [84]⟩;
      b.length = 15 + 3 * u8 b 14 ∧ u8 b 1 = 0 ∧ ¬ -8192 ≤ s32 b 2) ∧
    (Dispatches (State.atHead writing .text textBody) .text textBody [] ∧
      (State.atHead writing .text textBody).drawWaits = false ∧ writing.tables.glyphWrite.isSome = true) ∧
    (Dispatches (State.atHead idle .text textBody) .text textBody [] ∧
      (State.atHead idle .text textBody).drawWaits = false ∧ idle.tables.glyphWrite = none ∧
      idle.tables.font 2 = none) ∧
    (Dispatches (State.atHead oneGlyph .text textBody) .text textBody [] ∧
      (State.atHead oneGlyph .text textBody).drawWaits = false ∧ oneGlyph.tables.glyphWrite = none ∧
      ∃ f, oneGlyph.tables.font 2 = some f) :=
  ⟨⟨⟨_, _, rfl⟩, _, _, _, _, rfl⟩, by decide, by decide, by decide, by decide, ⟨dispatches rfl, rfl, rfl⟩,
    ⟨dispatches rfl, rfl, rfl, rfl⟩, ⟨dispatches rfl, rfl, rfl, _, rfl⟩⟩

theorem witness_TextCodeFollowsTable :
    (∃ e, oneGlyph.tables.entry 2 84 = some e) ∧
    (oneGlyph.tables.entry 2 0x2603 = none ∧ ∃ e, oneGlyph.tables.entry 2 84 = some e ∧
      (⟨40, some 84, []⟩ : Font).fallback = some 84) ∧
    (oneGlyph.tables.entry 2 0x2603 = none ∧
      ∀ fb, (⟨40, some 0x3F, []⟩ : Font).fallback = some fb → oneGlyph.tables.entry 2 fb = none) :=
  ⟨⟨_, rfl⟩, ⟨rfl, _, rfl, rfl⟩, rfl, by intro fb h; cases h; rfl⟩

theorem witness_GlyphBlendsCoverage : (⟨6144, 0, 2048, 1664⟩ : Rect).onPage ∧ 8191 < 8192 ∧ 15 ≤ 15 :=
  ⟨onPage_of (by decide), by decide, by decide⟩

/-- `idle` with `n` saved clips and an excess count. -/
def clipped (n excess : Nat) (held : Option Rect) : State := { idle with comp := { idle.comp with
  clipStack := List.replicate n idle.window, excess := excess, heldClip := held } }

theorem witness_ClipRecordsFollowTables (body : Bytes) :
    (∀ n excess held, Dispatches (State.atHead (clipped n excess held) .clippush body) .clippush body [] ∧
      Dispatches (State.atHead (clipped n excess held) .clippop body) .clippop body [] ∧
      Dispatches (State.atHead (clipped n excess held) .clipreset body) .clipreset body [] ∧
      (State.atHead (clipped n excess held) .clippush body).drawWaits = false) ∧
    ((clipped 6 0 none).comp.clipStack.length < 7 ∧ (clipped 6 0 none).comp.excess = 0) ∧
    (clipped 7 0 none).comp.clipStack.length = 7 ∧
    (clipped 7 255 (some ⟨0, 0, 1, 1⟩)).comp.clipStack.length = 7 ∧
    2 ≤ (clipped 7 2 (some ⟨0, 0, 1, 1⟩)).comp.excess ∧
    ((clipped 7 1 (some ⟨0, 0, 1, 1⟩)).comp.excess = 1 ∧
      (clipped 7 1 (some ⟨0, 0, 1, 1⟩)).comp.heldClip = some ⟨0, 0, 1, 1⟩) ∧
    ((clipped 1 0 none).comp.excess = 0 ∧ ∃ c cs, (clipped 1 0 none).comp.clipStack = c :: cs) ∧
    ((clipped 0 0 none).comp.excess = 0 ∧ (clipped 0 0 none).comp.clipStack = []) :=
  ⟨fun _ _ _ => ⟨dispatches rfl, dispatches rfl, dispatches rfl, rfl⟩, by decide, by decide, by decide, by decide,
    by decide, ⟨by decide, _, _, rfl⟩, by decide⟩

theorem witness_FontdefDefinesSlot (body : Bytes) :
    Dispatches (State.atHead idle .fontdef body) .fontdef body [] ∧
      (State.atHead idle .fontdef body).tableBusy = false ∧
      (let b : Bytes := [7, 0x0F, 0xFF, 1, 0x10, 0xFF, 0xFF];
        b.length = 7 ∧ ¬ (7 < u8 b 0 ∨ 4095 < u16 b 1 ∨ 1 < u8 b 3 ∨ (u8 b 3 = 1 ∧ 0x10FFFF < u24 b 4))) ∧
      (let b : Bytes := [7, 0x10, 0x00, 0, 0, 0, 0];
        b.length = 7 ∧ 4095 < u16 b 1) :=
  ⟨dispatches rfl, rfl, by decide, by decide⟩

theorem witness_DropsReturnBlocks (body : Bytes) :
    (Dispatches (State.atHead oneGlyph .fontdrop body) .fontdrop body [] ∧
      Dispatches (State.atHead oneGlyph .glyphdrop body) .glyphdrop body [] ∧
      (State.atHead oneGlyph .fontdrop body).tableBusy = false ∧ PoolLegal oneGlyph.tables) ∧
    (([] : Bytes).length ≠ 1 ∧ ([7] : Bytes).length = 1 ∧ u8 [7] 0 ≤ 7 ∧ oneGlyph.tables.font 7 = none ∧ 7 < u8 [8] 0) ∧
    (let b : Bytes := [7, 0x10, 0xFF, 0xFF];
      b.length = 4 ∧ u8 b 0 ≤ 7 ∧ u24 b 1 ≤ 0x10FFFF) ∧
    0x10FFFF < u24 [7, 0x11, 0, 0] 1 ∧
    oneGlyph.tables.entry (u8 [2, 0, 0, 84] 0) (u24 [2, 0, 0, 84] 1) = some ⟨11, 22, -1, 22, 77, [0, 1]⟩ ∧
    oneGlyph.tables.entry (u8 [2, 0, 0, 85] 0) (u24 [2, 0, 0, 85] 1) = none :=
  ⟨⟨dispatches rfl, dispatches rfl, rfl, oneGlyph_pool⟩, by decide, by decide, by decide, by decide, by decide⟩

/-- The conditions of checks 2 and 4 of a GLYPHPUT. -/
def glyphFields (body : Bytes) : Prop := (u8 body 0 ≤ 7 ∧ u24 body 1 ≤ 0x10FFFF) ∧ u8 body 4 ≤ 80 ∧
  u8 body 5 ≤ 80 ∧ -64 ≤ s8 body 6 ∧ s8 body 6 ≤ 63 ∧ -80 ≤ s8 body 7 ∧ s8 body 7 ≤ 127 ∧ 0 ≤ s32 body 8 ∧
  s32 body 8 ≤ 4095

/-- A GLYPHPUT of 1 × 1 values at every range's end. -/
def edgePut : Bytes := [2, 0x10, 0xFF, 0xFF, 1, 1, 0xC0, 0x7F, 0, 0, 15, 255, 0]

theorem witness_GlyphputTakesBlocks (body : Bytes) :
    (Dispatches (State.atHead oneGlyph .glyphput body) .glyphput body [] ∧
      (State.atHead oneGlyph .glyphput body).tableBusy = false ∧ PoolLegal oneGlyph.tables) ∧
    (edgePut.length = 12 + 1 ∧ glyphFields edgePut ∧ (oneGlyph.tables.font (u8 edgePut 0)).isSome = true ∧
      oneGlyph.tables.directory.length < 8192 ∧ 1 ≤ oneGlyph.tables.freeBlocks) ∧
    (let b : Bytes := [2, 0, 0, 84, 0, 80, 0, 0, 0, 0, 0, 0];
      b.length = 12 + 0 ∧ glyphFields b ∧ oneGlyph.tables.entry (u8 b 0) (u24 b 1) = some ⟨11, 22, -1, 22, 77, [0, 1]⟩) ∧
    (oneGlyph.tables.font 5 = none ∧ u8 [8, 0, 0, 84] 0 = 8 ∧ s8 [0, 0, 0, 0, 0, 0, 64] 6 = 64 ∧
      s32 [0, 0, 0, 0, 0, 0, 0, 0, 0, 0, 16, 0] 8 = 4096) ∧
    ((([] : Bytes).length < 12) ∧ (edgePut ++ [0]).length ≠ 12 + 1) ∧
    8192 ≤ ({ oneGlyph.tables with directory := List.replicate 8192 (0, ⟨0, 0, 0, 0, 0, []⟩) } : Tables).directory.length :=
  ⟨⟨dispatches rfl, rfl, oneGlyph_pool⟩, by unfold glyphFields; decide, by unfold glyphFields; decide, by decide,
    by decide, (List.length_replicate ..).ge⟩

theorem witness_GlyphWriteEndStoresBitmap :
    (∃ g, writing.tables.glyphWrite = some g ∧ g.bitmap.length = bitmapBytes (g.entry.width * g.entry.height)) ∧
      PoolLegal writing.tables ∧
      ((∀ x, writing.comp.draw ≠ some (.textHeld x)) ∧ ∀ h, writing.comp.draw ≠ some (.hiliteHeld h)) ∧
      (∃ x, (State.setDraw writing (some (.textHeld x))).comp.draw = some (.textHeld x) ∧
        writing.tables.font x.slot = none) ∧
      (∃ x f, (State.setDraw writing (some (.textHeld x))).comp.draw = some (.textHeld x) ∧
        writing.tables.font x.slot = some f) ∧
      ∃ h, (State.setDraw writing (some (.hiliteHeld h))).comp.draw = some (.hiliteHeld h) :=
  ⟨⟨_, rfl, by decide⟩, writing_pool, ⟨by intro x; simp [writing, oneGlyph, idle, State.reset, Compose.initial],
    by intro h; simp [writing, oneGlyph, idle, State.reset, Compose.initial]⟩,
    ⟨⟨0, false, 0, 0, 0, false, 0, []⟩, rfl, rfl⟩, ⟨⟨2, false, 0, 0, 0, false, 0, [84]⟩, _, rfl, rfl⟩, ⟨0, []⟩, rfl⟩

theorem witness_KernloadReplacesList (body : Bytes) :
    (Dispatches (State.atHead oneGlyph .kernload body) .kernload body [] ∧
      (State.atHead oneGlyph .kernload body).tableBusy = false ∧ (oneGlyph.tables.font 2).isSome = true ∧
      oneGlyph.tables.font 7 = none) ∧
    (([2, 2, 1] : Bytes).length ≠ 3 + 7 * u16 [2, 2, 1] 1 ∧ 7 < u8 [8, 0, 0] 0 ∧ 512 < u16 [2, 2, 1] 1 ∧
      u16 [2, 2, 0] 1 ≤ 512) ∧
    -- two pairs in ascending order, the last at the largest code
    (let b : Bytes := [2, 0, 2, 0, 0, 0, 0, 0, 0, 0x80, 0x10, 0xFF, 0xFF, 0x10, 0xFF, 0xFF, 0x7F];
      b.length = 3 + 7 * u16 b 1 ∧ u24 b 10 = 0x10FFFF ∧ u24 b 3 < u24 b 10) ∧
    -- the same pair twice, and a second pair whose code is too large
    (let b : Bytes := [2, 0, 2, 0, 0, 1, 0, 0, 1, 0, 0, 0, 1, 0, 0, 1, 0];
      b.length = 3 + 7 * u16 b 1 ∧ ¬ (u24 b 3 < u24 b 10 ∨ (u24 b 3 = u24 b 10 ∧ u24 b 6 < u24 b 13))) ∧
    0x10FFFF < u24 [0x11, 0, 0] 0 ∧ (([2, 0, 0] : Bytes).length = 3 + 7 * u16 [2, 0, 0] 1) :=
  ⟨⟨dispatches rfl, rfl, rfl, rfl⟩, by decide, by decide, by decide, by decide, by decide⟩

theorem witness_StylesetWritesStyle (body : Bytes) :
    (Dispatches (State.atHead idle .styleset body) .styleset body [] ∧
      (State.atHead idle .styleset body).tableBusy = false) ∧
    (let b : Bytes := [15, 255, 2, 1, 255, 0];
      b.length = 6 ∧ u8 b 0 ≤ 15 ∧ u8 b 2 ≤ 2 ∧ u8 b 3 ≤ 1) ∧
    (let b : Bytes := [15, 0, 3, 0, 0, 0];
      b.length = 6 ∧ 2 < u8 b 2) :=
  ⟨⟨dispatches rfl, rfl⟩, by decide, by decide⟩

theorem atHead_banks {s : State} (h : BanksLegal s) (k : RecordKind) (body : Bytes) :
    BanksLegal (State.atHead s k body) := ⟨h.active, h.loading, h.budgets, h.empty, h.pins, h.pinned, h.index⟩

theorem idle_banks : BanksLegal idle where
  active := by decide
  loading := by decide
  budgets := by unfold Bank.inBudget; decide
  empty := by intro b _; cases b <;> rfl
  pins := by intro i sl h; exact absurd h (by fin_cases i <;> simp [State.slot, idle, State.reset, Sched.initial])
  pinned := by intro i sl h; exact absurd h (by fin_cases i <;> simp [State.slot, idle, State.reset, Sched.initial])
  index := by intro i sl k h; exact absurd h (by fin_cases i <;> simp [State.slot, idle, State.reset, Sched.initial])

/-- `running` on a RETIRED bank A, with bank B ACTIVE. -/
def retired : State := { running with wave := ⟨{ bank with state := .retired }, bank⟩ }

theorem retired_banks : BanksLegal retired where
  active := by decide
  loading := by decide
  budgets := by unfold Bank.inBudget; decide
  empty := by intro b h; cases b <;> exact absurd h (by decide)
  pins := by intro i sl h; obtain ⟨rfl, rfl⟩ := holding_slot h; decide
  pinned := by intro i sl h; obtain ⟨rfl, rfl⟩ := holding_slot h; exact ⟨_, rfl, by decide, by decide⟩
  index := by
    intro i sl k h hp; obtain ⟨rfl, rfl⟩ := holding_slot h
    simp only [slot, Phase.running.injEq] at hp; subst hp; decide

/-- A WAVEBEGIN with eight bands, from −40 to the ceiling 85. -/
def beginBody : Bytes := [8, 0xD8, 0, 1, 2, 3, 4, 5, 85, 85]

theorem witness_WavebeginClearsTarget :
    (∀ b ∈ [beginBody, [1, 0, 0]], 1 ≤ u8 b 0 ∧ u8 b 0 ≤ 8 ∧ b.length = 2 + u8 b 0 ∧
      let bounds := (List.range (u8 b 0)).map fun j => s8 b (1 + j)
      (∀ z ∈ bounds, -40 ≤ z ∧ z ≤ 85) ∧ bounds.Pairwise (· < ·) ∧ (∀ z ∈ bounds, z ≤ s8 b (1 + u8 b 0)) ∧
        s8 b (1 + u8 b 0) ≤ 85) ∧
    (u8 [0] 0 = 0 ∧ 8 < u8 [9] 0 ∧ ([1, 0] : Bytes).length ≠ 2 + u8 [1, 0] 0 ∧
      ¬ (s8 [2, 5, 5, 85] 1 < s8 [2, 5, 5, 85] 2) ∧ 85 < s8 [1, 0, 86] 2 ∧ s8 [1, 0xD7, 0] 1 < -40) ∧
    (Dispatches (State.atHead running .wavebegin beginBody) .wavebegin beginBody [] ∧
      BanksLegal (State.atHead running .wavebegin beginBody) ∧
      (running.bank BankId.bankB.other).state = .active ∧ (running.bank .bankB).state = .empty) ∧
    (Dispatches (State.atHead idle .wavebegin beginBody) .wavebegin beginBody [] ∧
      BanksLegal (State.atHead idle .wavebegin beginBody) ∧
      (idle.bank .bankA).state ≠ .active ∧ (idle.bank .bankB).state ≠ .active ∧
      (idle.bank .bankB).state ≠ .loading) ∧
    (Dispatches (State.atHead retired .wavebegin beginBody) .wavebegin beginBody [] ∧
      BanksLegal (State.atHead retired .wavebegin beginBody) ∧ (retired.bank BankId.bankA.other).state = .active ∧
      (retired.bank .bankA).state = .retired ∧ 0 < retired.pins .bankA) :=
  ⟨by decide, by decide, ⟨dispatches rfl, atHead_banks running_banks _ _, by decide⟩,
    ⟨dispatches rfl, atHead_banks idle_banks _ _, by decide⟩, dispatches rfl, atHead_banks retired_banks _ _, by decide⟩

/-- A WAVEPUT of `f` CLEAN frames for band 0 of the LOADING bank, which holds 60 under that key. -/
def cleanBody (f : Byte) (n : Nat) : Bytes := [0, 0, 0, f] ++ List.replicate n 0

theorem witness_WaveputAddsRecord :
    (Dispatches (State.atHead running .waveput [0, 0, 0, 1]) .waveput [0, 0, 0, 1] [] ∧
      ([0, 0, 0] : Bytes).length < 4 ∧ 4 ≤ ([0, 0, 0, 1] : Bytes).length ∧
      (running.bank .bankA).state ≠ .loading ∧ (running.bank .bankB).state ≠ .loading) ∧
    (BanksLegal (State.atHead loading .waveput (cleanBody 1 4)) ∧
      StoresCanonical (State.atHead loading .waveput (cleanBody 1 4)) ∧ (loading.bank .bankB).state = .loading) ∧
    (4 < u8 [5, 0, 0, 1] 0 ∧ (loading.bank .bankB).bounds.length ≤ u8 [4, 2, 0, 1] 1 ∧ u16 [0, 0, 0, 0] 2 = 0 ∧
      60 < u16 [0, 0, 0, 61] 2 ∧ (cleanBody 1 5).length ≠ 4 + 4 * 1) ∧
    (∀ e ∈ [((1 : Byte), 4), (60, 240)], Mode.clean.code = u8 (cleanBody e.1 e.2) 0 ∧
      u8 (cleanBody e.1 e.2) 1 < (loading.bank .bankB).bounds.length ∧ 1 ≤ u16 (cleanBody e.1 e.2) 2 ∧
      u16 (cleanBody e.1 e.2) 2 ≤ 60 ∧
      (cleanBody e.1 e.2).length = 4 + 4 * u16 (cleanBody e.1 e.2) 2) ∧
    ((loading.bank .bankB).frames = 1023 ∧ (loading.bank .bankB).record .tone16 1 = none ∧
      (loading.bank .bankB).frames - 0 + 1 ≤ 1024 ∧ 1024 < (loading.bank .bankB).frames - 0 + 2) :=
  ⟨⟨dispatches rfl, by decide⟩, ⟨atHead_banks loading_banks _ _, ⟨loading_stores.pixels, loading_stores.pool,
    loading_stores.directory, loading_stores.residue, loading_stores.counts, loading_stores.recordsA,
    loading_stores.recordsB⟩, rfl⟩, by decide, by decide, by decide⟩

theorem witness_WavecommitSwitchesBanks :
    (Dispatches (State.atHead running .wavecommit []) .wavecommit [] [] ∧
      BanksLegal (State.atHead running .wavecommit []) ∧ (running.bank .bankA).state ≠ .loading ∧
      (running.bank .bankB).state ≠ .loading) ∧
    (Dispatches (State.atHead loading .wavecommit []) .wavecommit [] [] ∧
      BanksLegal (State.atHead loading .wavecommit []) ∧ (loading.bank .bankB).state = .loading ∧
      (loading.bank .bankB).records ≠ [] ∧ (loading.bank BankId.bankB.other).state = .active) ∧
    Dispatches (State.atHead loading .wavecommit [0]) .wavecommit [0] [] ∧
    (let s : State := { idle with wave := ⟨⟨.loading, [0], 0, []⟩, Bank.initial⟩ };
      Dispatches (State.atHead s .wavecommit []) .wavecommit [] [] ∧
      (s.bank .bankA).state = .loading ∧ (s.bank .bankA).records = []) :=
  ⟨⟨dispatches rfl, atHead_banks running_banks _ _, by decide⟩,
    ⟨dispatches rfl, atHead_banks loading_banks _ _, by decide⟩, dispatches rfl, dispatches rfl, rfl, rfl⟩

/-- An UPDATE over the corner pixel, with NOTIFY. -/
def updateBody : Bytes := [9, 0, 0, 0, 0, 0, 1, 0, 1, 31, 1, 3]

/-- An UPDATE whose rectangle lies left of the window, with NOTIFY. -/
def missBody : Bytes := [9, 0xFF, 0xFF, 0, 0, 0, 1, 0, 1, 31, 1, 3]

/-- `idle` with `n` replies queued. -/
def replied (n : Nat) : State := { idle with ev := { Events.initial with
  replies := List.replicate n (.readback 2 []) } }

/-- `idle` with `n` pending requests. -/
def requested (n : Nat) : State := { idle with sched := { Sched.initial with
  requests := List.replicate n (request [.clean] false) } }

theorem witness_UpdateJoinsOrEndsEmpty :
    (∀ b ∈ [updateBody, missBody], b.length = 12 ∧
      (1 ≤ u8 b 9 ∧ u8 b 9 ≤ 31 ∧ u8 b 10 ≤ 1 ∧ u8 b 11 ≤ 3)) ∧
    (let b : Bytes := [9, 0, 0, 0, 0, 0, 1, 0, 1, 32, 1, 3]; b.length = 12 ∧ ¬ u8 b 9 ≤ 31) ∧
    (Dispatches (State.atHead idle .update missBody) .update missBody [] ∧
      ¬ meetsWindow (State.atHead idle .update missBody) (rectAt missBody 1)) ∧
    (∀ n, Dispatches (State.atHead (requested n) .update updateBody) .update updateBody [] ∧
      meetsWindow (State.atHead (requested n) .update updateBody) (rectAt updateBody 1)) ∧
    (requested 23).sched.requests.length < 24 ∧ 24 ≤ (requested 24).sched.requests.length := by
  refine ⟨by decide, by decide, ⟨dispatches rfl, ?_⟩,
    fun n => ⟨dispatches rfl, ⟨0, 0, by decide, rfl⟩⟩, by decide, by decide⟩
  rintro ⟨x, y, h, hw⟩
  simp only [Rect.has, Bool.and_eq_true, decide_eq_true_eq] at h hw
  have h1 : x < 0 := by
    have := h.1.1.2
    have e : (rectAt missBody 1).x + ((rectAt missBody 1).w : Int) = 0 := by decide
    omega
  have h2 : 0 ≤ x := hw.1.1.1
  omega

theorem witness_NoticesQueueAndEncode :
    ((replied 15).ev.replies.length + (replied 15).reserved < 16 ∧
      16 ≤ (replied 16).ev.replies.length + (replied 16).reserved) ∧
    (let n : Notice := ⟨255, .noMode, none, some 7, false, 4294967295, 65535⟩;
      (∀ b ∈ n.band, b < 8) ∧ n.taken < 4294967296 ∧ n.skipped ≤ 65535) := by decide

/-- A request that no window can hold. -/
def farRequest : Request := ⟨4, ⟨-9, 0, 1, 1⟩, [.clean], false, false, true, false⟩

theorem farRequest_misses (s : State) (h : s.window = Panel.initial.window) : ¬ meetsWindow s farRequest.rect := by
  rintro ⟨x, y, hr, hw⟩
  rw [h] at hw
  simp only [Rect.has, Bool.and_eq_true, decide_eq_true_eq] at hr hw
  simp only [farRequest, Panel.initial, Panel.window] at hr hw
  omega

/-- `idle` with a pass due, a far request and perhaps others queued, and the slots given. -/
def passDue (slots : Vector (Option Slot) 16) (more : List Request) : State := { idle with sched := { Sched.initial with
  requests := farRequest :: more, passDue := true, slots := slots } }

theorem passDue_here (slots : Vector (Option Slot) 16) (more : List Request) :
    meetsWindow (passDue slots more) (request [.clean] false).rect := ⟨0, 0, by decide, rfl⟩

/-- A request examined before, over the corner pixel or beside it. -/
def stands (x : Int) : Request := ⟨1, ⟨x, 0, 1, 1⟩, [.clean], true, false, true, false⟩

theorem witness_AdmissionPassExaminesInOrder :
    (∀ slots more, (passDue slots more).sched.passDue = true ∧ (passDue slots more).sched.pass = none ∧
      (passDue slots more).rails.state ≠ .fault ∧ (passDue slots more).intake.hold ≠ .reinit ∧
      (∀ body rest, ¬ Dispatches (passDue slots more) .panelset body rest) ∧ ¬ meetsWindow (passDue slots more) farRequest.rect) ∧
    idle.sched.passDue = false ∧
    -- a PANELSET of the smallest window waits
    (∃ body rest, Dispatches (State.atHead (passDue (Vector.replicate 16 (some (slot .armed))) []) .panelset
        [24, 0, 0, 64, 0, 64, 0, 0, 0, 0, 0, 0, 255, 0, 0, 0]) .panelset body rest ∧ body.length = 16 ∧
      u16 body 0 ≤ 6144 ∧ 8 ∣ u16 body 0 ∧ 64 ≤ u16 body 2 ∧ u16 body 2 ≤ 2048 ∧ 8 ∣ u16 body 2 ∧
      64 ≤ u16 body 4 ∧ u16 body 4 ≤ 1664) ∧
    (∀ slots q, q.due = false → (∀ r ∈ [q], r.due = false) ∧ (request [.clean] false).due = true ∧
      (State.setRequests (passDue slots []) [q, request [.clean] false]).sched.requests =
        [q] ++ request [.clean] false :: [] ∧
      meetsWindow (State.setRequests (passDue slots []) [q, request [.clean] false]) (request [.clean] false).rect) ∧
    sharesPixel idle (stands 0) (request [.clean] false) ∧ ¬ sharesPixel idle (stands 1) (request [.clean] false) ∧
    (∃ i, (passDue (Vector.replicate 16 none) []).slot i = none) ∧
    ∀ i, ((passDue (Vector.replicate 16 (some (slot .armed))) []).slot i).isSome = true := by
  refine ⟨fun _ _ => ⟨rfl, rfl, by simp [passDue, idle, State.reset], by simp [passDue, idle, State.reset],
      fun _ _ h => by simp [Dispatches, passDue, idle, State.reset] at h, farRequest_misses _ rfl⟩, rfl,
    ⟨_, _, dispatches rfl, by decide⟩,
    fun _ q hq => ⟨by simpa using hq, rfl, rfl, 0, 0, by decide, rfl⟩, ⟨0, 0, by decide, by decide, by decide⟩, ?_,
    ⟨0, rfl⟩, by decide⟩
  rintro ⟨x, y, h, hr, _⟩
  simp only [Rect.has, Bool.and_eq_true, decide_eq_true_eq] at h hr
  simp only [stands, request] at h hr
  omega

/-- `armed` with a pass reading for the one request it examines, which lies on pixel (3, 0). -/
def reading (pass : Pass) : State := { armed with sched := { armed.sched with
  requests := [⟨9, ⟨3, 0, 1, 1⟩, [.bilevel], false, false, true, true⟩], pass := some pass } }

theorem witness_DeferHoldsOwnedRequest :
    (∀ todo found, ∃ r q, (reading (.deferRead todo found)).sched.pass = some (.deferRead todo found) ∧
      (reading (.deferRead todo found)).sched.requests = [] ++ r :: [] ∧ r.due = true ∧
      (State.setRequests (reading (.deferRead todo found)) [q, r]).sched.requests = [q] ++ r :: [] ∧
      ∀ p ∈ [q], p.due = false) ∧
    (∃ k ∈ [3], ((reading (.deferRead [3] false)).pixel k).owner.isSome = true) ∧
    (∀ k ∈ [2], ((reading (.deferRead [2] false)).pixel k).owner = none) :=
  ⟨fun _ _ => ⟨_, stands 0, rfl, rfl, rfl, rfl, by simp [stands]⟩, ⟨3, by decide, by decide⟩, by decide⟩

theorem witness_ResolutionAdmitsOrEndsNoMode : armed.window.onPage ∧
    (∀ todo found, ∃ r, (reading (.resolveRead todo found)).sched.pass = some (.resolveRead todo found) ∧
      (reading (.resolveRead todo found)).sched.requests = [] ++ r :: [] ∧ r.due = true) ∧
    (let s := reading (.resolveRead [] false);
      s.resolve (request [.bilevel] false) false = some (.bilevel, false) ∧ s.slot 1 = none ∧
      (∀ j : Fin 16, j < 1 → (s.slot j).isSome = true) ∧ s.activeBank = some .bankA ∧ s.temp.band = some 1 ∧
      (s.bank .bankA).record .bilevel 1 = some ⟨1, List.replicate 64 0xAA⟩) ∧
    (reading (.resolveRead [] false)).resolve (request [.tone4] false) false = none :=
  ⟨window_onPage, fun _ _ => ⟨_, rfl, rfl, rfl⟩, by decide, by decide⟩

theorem witness_ModeResolutionFollowsSteps :
    running.activeBank = some .bankA ∧ idle.activeBank = none ∧ running.activeBank.isSome = true ∧
    (∀ m ∈ (request [.tone4] false).allowed, running.available m = false) ∧
    ([Mode.tone16, .tone4, .bilevel, .stroke, .clean] = [.tone16, .tone4] ++ .bilevel :: [.stroke, .clean] ∧
      Mode.bilevel ∈ (request [.bilevel] true).allowed ∧ running.available .bilevel = true ∧
      (∀ q ∈ [Mode.tone16, .tone4], q ∈ (request [.bilevel] true).allowed → running.available q = false) ∧
      1 ≤ running.store.panel.residueThreshold) ∧
    (let s : State := { running with residue := [(0, 10)] };
      (request [.bilevel] true).promote = true ∧ Mode.bilevel ∈ [Mode.tone4, .bilevel, .stroke] ∧
      (∃ n, n < (s.store.panel.w + 63) / 64 * ((s.store.panel.h + 63) / 64) ∧
        (∃ x y : Int, (s.store.panel.tileRect n).has x y = true ∧ (request [.bilevel] true).rect.has x y = true) ∧
        s.store.panel.residueThreshold ≤ s.residueOf n) ∧ s.available .tone16 = true) :=
  ⟨by decide, by decide, by decide, by decide, by decide, by decide, by decide,
    ⟨0, by decide, ⟨0, 0, by decide, by decide⟩, by decide⟩, by decide⟩

/-- `s` while slot 1 is LATCHING, with pixels (2, 0) and (4, 0) still to judge. -/
def walking (s : State) : State := { s with sched := { s.sched with
  slots := s.sched.slots.set 1 (some { slot .latching with taken := 0, tiles := [] })
  pass := some (.latching 1 [2, 4]) } }

/-- `s` while a READ of PIXELS has pixels (2, 0) and (3, 0) still to read. -/
def readingPixels (s : State) : State :=
  { s with intake := ⟨[], .readPixels ⟨.owner, ⟨2, 0, 2, 1⟩, false, [2, 3], []⟩⟩ }

theorem witness_LatchJudgesPixel :
    ((walking armed).sched.pass = some (.latching 1 [2, 4]) ∧ (walking armed).comp.draw = none ∧
      (walking drawing).sched.pass = some (.latching 1 [2, 4]) ∧ (walking drawing).comp.draw.isSome = true) ∧
    (panel.x0 ≤ 0 ∧ 8191 < 8192) ∧
    (∃ sl, latching.slot 0 = some sl ∧ sl.mode = .tone16 ∧
      (latching.pixel 3).owner.isSome = true ∧
      ((latching.pixel 2).owner = none ∧ (latching.pixel 2).shown = none)) ∧
    (let s := latching.setPixel 2 ⟨some 0, 1, 15, none⟩;
      ¬ ((s.pixel 2).owner.isSome = true ∨ (s.pixel 2).shown = none) ∧ (s.pixel 2).shown ≠ some (quantize .tone16 1)) ∧
    (let s := latching.setPixel 2 ⟨some 1, 1, 15, none⟩;
      ¬ ((s.pixel 2).owner.isSome = true ∨ (s.pixel 2).shown = none) ∧ (s.pixel 2).shown = some (quantize .tone16 1)) :=
  ⟨⟨rfl, rfl, rfl, rfl⟩, by decide, ⟨_, rfl, by decide, by decide, by decide⟩, by decide, by decide⟩

/-- `latching` with the slot's taken count and cancel mark, and rails, as given. -/
def ending (taken : Nat) (cancel : Bool) (rails : Rails) (scan : Option Nat) : State := { latching with
  sched := { latching.sched with slots := latching.sched.slots.set 0 (some
    { slot .latching with taken := taken, cancel := cancel }) }, rails := rails, scan := scan }

theorem witness_LatchEndSettlesSlot :
    (∀ taken cancel rails scan,
      (ending taken cancel rails scan).sched.pass = some (.latching 0 []) ∧ (ending taken cancel rails scan).comp.draw = none ∧
      (∀ r, (ending taken cancel rails scan).intake.hold ≠ .readPixels r) ∧
      (([] : List Nat).foldl (latchPixel 0) (ending taken cancel rails scan)).slot 0 =
        some { slot .latching with taken := taken, cancel := cancel } ∧
      Store.wf PixelRec.initial (ending taken cancel rails scan).store.pixels) ∧
    -- a walk with two pixels to judge, a READ of PIXELS got on within it, and slot 0 ARMED beside it
    (let s := readingPixels (walking armed);
      s.sched.pass = some (.latching 1 [2, 4]) ∧ s.comp.draw = none ∧
      (∃ sl, (([2, 4] : List Nat).foldl (latchPixel 1) s).slot 1 = some sl) ∧
      Store.wf PixelRec.initial s.store.pixels ∧ (∃ r, s.intake.hold = .readPixels r) ∧
      ∃ sl, s.slot 0 = some sl ∧ sl.phase = .armed) ∧
    (ending 1 false ⟨.off, none, none, none, false⟩ none).rails.state = .off ∧
    (ending 1 false ⟨.off, none, none, none, true⟩ none).rails.pgood = true ∧
    ((ending 1 false ⟨.on, none, some 2000, none, true⟩ none).rails.state = .on ∧
      (ending 1 false ⟨.on, none, some 2000, none, true⟩ none).scan = none) ∧
    (ending 1 false ⟨.on, none, none, none, true⟩ (some 12000)).scan.isSome = true ∧
    (ending 1 false ⟨.rising, some 20, none, none, false⟩ none).rails.state = .rising ∧
    (ending 1 false ⟨.falling, none, none, some 10, false⟩ none).rails.state = .falling :=
  ⟨fun _ _ _ _ => ⟨rfl, rfl, by intro r; simp [ending, latching, holding, idle, State.reset], rfl, by simp [ending, latching, holding]; decide⟩,
    ⟨rfl, rfl, ⟨_, rfl⟩, by decide, ⟨_, rfl⟩, _, rfl, rfl⟩, rfl, rfl, ⟨rfl, rfl⟩, rfl, rfl, rfl⟩

/-- With no walk in progress, with a latch pass and with a READ of PIXELS in progress. -/
theorem witness_FrameEndSettlesSlots :
    ∀ s ∈ [running, lastFrame, walking running, readingPixels (walking lastFrame)],
      s.scan.isSome = true ∧ Store.wf PixelRec.initial s.store.pixels := by
  intro s hs
  simp only [List.mem_cons, List.not_mem_nil, or_false] at hs
  rcases hs with rfl | rfl | rfl | rfl <;> exact ⟨rfl, by decide⟩

/-- The last tile column of a window 1,000 wide, and two counts. -/
theorem witness_CompletionReportsResidue :
    15 < (({ panel with w := 1000 } : Panel).w + 63) / 64 ∧ ([33, 66, 67] : List Nat).Nodup ∧
      Store.wf 0 [(33, 8), (66, 15)] := by decide

/-- The hypotheses of CANCEL's first two clauses; its third is met by `reading` with an expressed CANCEL of tag 9. -/
theorem witness_CancelActsByState (s : State) (hs : s = armed ∨ s = running ∨ s = walking armed) :
    Expressed (State.expressed s .cancel 1) .cancel 1 ∧
      Store.wf PixelRec.initial (State.expressed s .cancel 1).store.pixels ∧
      (State.expressed s .cancel 1).anyDriving = true ∧
      (Expressed (State.expressed s .cancel 2) .cancel 2 ∧ ([7, 7] : Bytes).length ≠ 1) ∧
      ∀ todo found, let u := State.expressed (reading (.resolveRead todo found)) .cancel 1
        Expressed u .cancel 1 ∧ u.sched.pass = some (.resolveRead todo found) ∧
          (∃ r, u.sched.requests = [] ++ r :: [] ∧ r.due = true ∧ r.tag = 9) ∧
          ∀ i sl, u.slot i = some sl → sl.tag ≠ 9 := by
  have hu : ∀ todo found i sl, (State.expressed (reading (.resolveRead todo found)) .cancel 1).slot i = some sl →
      sl.tag ≠ 9 := by
    intro todo found i sl h; obtain ⟨rfl, rfl⟩ := holding_slot (p := .armed) h; decide
  rcases hs with rfl | rfl | rfl <;>
    exact ⟨isExpressed _ _ _,
      by decide, by decide, ⟨isExpressed _ _ _, by decide⟩,
      fun todo found => ⟨isExpressed _ _ _, rfl, ⟨_, rfl, rfl, rfl⟩, hu todo found⟩⟩

theorem expressed_owners {s : State} (h : OwnersLegal s) (k : RecordKind) (n : Nat) :
    OwnersLegal (State.expressed s k n) :=
  ⟨h.owners, h.taken, h.driving, h.unknown, h.latching, h.walking, h.reading⟩

theorem witness_HaltEndsEverything :
    (Expressed (State.expressed running .halt 0) .halt 0 ∧ OwnersLegal (State.expressed running .halt 0) ∧
      Store.wf PixelRec.initial (State.expressed running .halt 0).store.pixels ∧ running.rails.state = .on ∧
      running.anyDriving = true ∧ 0 < running.store.panel.holdTime) ∧
    (Expressed (State.expressed running .halt 1) .halt 1 ∧ ([0] : Bytes).length ≠ 0) ∧
    (OwnersLegal (State.expressed armed .halt 0) ∧ armed.rails.state ≠ .on) :=
  ⟨⟨isExpressed _ _ _, expressed_owners running_owners _ _, by decide, by decide⟩,
    ⟨isExpressed _ _ _, by decide⟩, expressed_owners armed_owners _ _, by decide⟩

/-- A PANELSET body with the smallest window. -/
def smallPanel : Bytes := [24, 0, 0, 64, 0, 64, 0, 0, 0, 0, 0, 0, 255, 0, 0, 0]

theorem witness_PanelsetTakesEffect :
    (Dispatches (State.atHead idle .panelset smallPanel) .panelset smallPanel [] ∧ smallPanel.length = 16 ∧
      (u16 smallPanel 0 ≤ 6144 ∧ 8 ∣ u16 smallPanel 0 ∧ 64 ≤ u16 smallPanel 2 ∧ u16 smallPanel 2 ≤ 2048 ∧
        8 ∣ u16 smallPanel 2 ∧ 64 ≤ u16 smallPanel 4 ∧ u16 smallPanel 4 ≤ 1664) ∧
      (∀ i, idle.slot i = none) ∧ idle.comp.draw = none ∧ idle.sched.pass = none ∧ idle.sched.passDue = false ∧
      (⟨u16 smallPanel 0, 0, u16 smallPanel 2, u16 smallPanel 4⟩ : Rect) ≠ idle.window) ∧
    ((⟨0, 0, u16 [0, 0, 8, 0, 6, 128] 2, u16 [0, 0, 8, 0, 6, 128] 4⟩ : Rect) = idle.window) ∧
    (let b : Bytes := [0, 0, 0, 63, 0, 64, 0, 0, 0, 0, 0, 0, 0, 0, 0, 0];
      b.length = 16 ∧ ¬ 64 ≤ u16 b 2) ∧
    (∀ s : State, ({ s with intake := ⟨[], .reinit⟩ } : State).intake.hold = .reinit) :=
  ⟨⟨dispatches rfl, by decide⟩, by decide, by decide, fun _ => rfl⟩

theorem witness_PgoodAndRiseTimerMoveRails :
    (armed.rails.state = .rising ∧ armed.anyArmed = true ∧ armed.rails.rise.isSome = true) ∧
    (let s : State := { idle with rails := ⟨.rising, some 20, none, none, false⟩ };
      s.rails.state = .rising ∧ s.anyArmed = false ∧ 0 < s.store.panel.holdTime) ∧
    (let s : State := { idle with
        rails := ⟨.rising, some 20, none, none, false⟩
        store := { idle.store with panel := { panel with holdTime := 0 } } };
      s.rails.state = .rising ∧ s.anyArmed = false ∧ s.store.panel.holdTime = 0) ∧
    idle.rails.state ≠ .rising ∧ idle.rails.state ≠ .on ∧
    (OwnersLegal running ∧ Store.wf PixelRec.initial running.store.pixels ∧ running.rails.state = .on) ∧
    (OwnersLegal armed ∧ Store.wf PixelRec.initial armed.store.pixels) :=
  ⟨by decide, by decide, by decide, by decide, by decide, ⟨running_owners, by decide, rfl⟩, armed_owners, by decide⟩

/-- `idle` with the rails given. -/
def railed (r : Rails) : State := { idle with rails := r }

/-- In FAULT with one request pending, a RAILCTL CLEAR at the head and a PANELSET behind it. -/
def clearing : State := { railed ⟨.fault, none, none, none, false⟩ with
  intake := ⟨[⟨RecordKind.railctl.code, [1]⟩, ⟨RecordKind.panelset.code, smallPanel⟩], .free⟩
  sched := { Sched.initial with requests := [request [.clean] false] } }

/-- R112, R127: the pass of leaving FAULT examines the request before the PANELSET behind takes effect. -/
theorem test_clear_before_panelset : let t := after .railctlClear clearing
    after .panelset t = t ∧ (after .admissionPass t).sched.pass.isSome = true ∧
      (after .admissionPass t).window = idle.window := by decide +kernel

/-- R7, the worked example of chapter 01: the pass a frame end would trigger does not run while a PANELSET waits. -/
theorem test_frame_end_suspended : let t := after .frameEnd (State.atHead running .panelset smallPanel)
    (t.slot 0).map Slot.phase = some (.running 1) ∧ t.sched.passDue = false ∧
      (after .frameEnd running).sched.passDue = true := by decide +kernel

theorem witness_RailsFallAndClear :
    (∀ r body, Dispatches (State.atHead (railed r) .railctl body) .railctl body [] ∧
      ∀ i, (State.atHead (railed r) .railctl body).slot i = none) ∧
    ((railed ⟨.on, none, some 2000, none, true⟩).rails.state = .on ∧
      (railed ⟨.on, none, some 2000, none, true⟩).rails.hold.isSome = true) ∧
    (([2] : Bytes).length = 1 ∧ 1 < u8 [2] 0 ∧ u8 [0] 0 = 0 ∧ u8 [1] 0 = 1 ∧ ([] : Bytes).length ≠ 1) ∧
    (Dispatches (State.atHead armed .railctl [0]) .railctl [0] [] ∧ (armed.slot 0).isSome = true) ∧
    (let s : State := { armed with rails := ⟨.falling, none, none, some 10, false⟩ };
      s.rails.state = .falling ∧ s.rails.fall.isSome = true ∧ s.anyArmed = true ∧ s.rails.pgood = false) ∧
    (let s : State := { armed with rails := ⟨.falling, none, none, some 10, true⟩ };
      s.anyArmed = true ∧ s.rails.pgood = true) ∧
    (railed ⟨.falling, none, none, some 10, false⟩).anyArmed = false ∧
    -- a CLEAR in FAULT with a PANELSET directly behind it
    (Dispatches clearing .railctl [1] [⟨RecordKind.panelset.code, smallPanel⟩] ∧ clearing.rails.state = .fault ∧
      clearing.sched.pass = none ∧ ∃ p, parsePanelset smallPanel = .ok p) :=
  ⟨fun r _ => ⟨dispatches rfl, fun i => by fin_cases i <;> rfl⟩, by decide, by decide, ⟨dispatches rfl, by decide⟩,
    by decide, by decide, by decide, ⟨⟨rfl, rfl, rfl⟩, rfl, rfl, _, rfl⟩⟩

theorem witness_TempsetSelectsSource (body : Bytes) :
    Dispatches (State.atHead running .tempset body) .tempset body [] ∧ ([2, 0, 0] : Bytes).length = 3 ∧
      1 < u8 [2, 0, 0] 0 ∧ u8 [1, 0x80, 0] 0 = 1 ∧ u8 [0, 0, 0] 0 = 0 :=
  ⟨dispatches rfl, by decide⟩

theorem witness_SensorReadsUpdateTemperature :
    (let s : State := { idle with temp := ⟨.sensor, 400, 0, none, none, some 60, []⟩ };
      s.temp.timer.isSome = true ∧ s.temp.readInFlight = none ∧ s.temp.source = .sensor ∧ s.power = .run) ∧
    (let s : State := { running with temp := ⟨.sensor, 400, 2, some 1, some 0x49, some 60, [.start, .address 0x49]⟩ };
      s.temp.readInFlight.isSome = true ∧ s.activeBank = some .bankA) := by decide

theorem witness_BandFollowsHeader :
    let bounds : List Int := [-10, 0, 8, 16, 24, 32]
    bounds ≠ [] ∧ bounds.Pairwise (· < ·) ∧ (∀ z ∈ bounds, z ≤ 45) ∧
      (-11 : Int) < bounds.headD 0 ∧ (45 : Int) < 46 ∧ bounds.headD 0 ≤ -10 ∧ (45 : Int) ≤ 45 := by decide

theorem witness_MaskAndClearFollowBody (body : Bytes) :
    Dispatches (State.atHead idle .evmask body) .evmask body [] ∧
      Dispatches (State.atHead idle .evclear body) .evclear body [] ∧ idle.link.resetAsserted = false ∧
      (State.atHead idle .evclear body).missesLeft = [] ∧
      Dispatches (State.atHead found .evclear body) .evclear body [] ∧
      found.comp.draw = some (.writing (.text 182 1 []) [(0, 3), (1, 4)]) ∧
      ([0x10, 0] : Bytes).length = 2 ∧ 0xFFF < u16 [0x10, 0] 0 ∧ u16 [0x0F, 0xFF] 0 ≤ 0xFFF :=
  ⟨dispatches rfl, dispatches rfl, rfl, rfl, dispatches rfl, rfl, by decide⟩

/-- `idle` with a kern list of two pairs in slot 2. -/
def kerned : State := { idle with tables := { Tables.emptied [] with
  fonts := (Tables.emptied []).fonts.set 2 (some ⟨4095, some 0x10FFFF, [⟨65, 86, -128⟩, ⟨0x10FFFF, 0x10FFFF, 127⟩]⟩) } }

/-- The KERN layout of 10.5 on the two pairs. -/
theorem test_kern_readback : (after .readKern (State.atHead kerned .read [1, 2, 0, 0])).ev.replies =
    [.readback 1 [2, 1, 0, 2, 0, 0, 2, 0, 0, 65, 0, 0, 86, 0x80, 0x10, 0xFF, 0xFF, 0x10, 0xFF, 0xFF, 0x7F]] := by decide

theorem kerned_fonts : FontsLegal kerned.tables := by
  have only : ∀ n f, kerned.tables.font n = some f →
      f = ⟨4095, some 0x10FFFF, [⟨65, 86, -128⟩, ⟨0x10FFFF, 0x10FFFF, 127⟩]⟩ := by
    intro n f h
    by_cases hn : n < 8
    · have : ∀ m : Fin 8, ∀ g, kerned.tables.font m = some g →
          g = ⟨4095, some 0x10FFFF, [⟨65, 86, -128⟩, ⟨0x10FFFF, 0x10FFFF, 127⟩]⟩ := by
        intro m g; fin_cases m <;> intro h <;> cases h
        rfl
      exact this ⟨n, hn⟩ f h
    · simp [Tables.font, Vector.getElem?_eq_none (Nat.le_of_not_lt hn)] at h
  refine ⟨?_, ?_, ?_, ?_, by decide⟩ <;> intro n f h <;> obtain rfl := only n f h
  · exact ⟨by decide, fun c hc => by cases hc; decide⟩
  · decide
  · decide
  · decide

theorem witness_TableReadsQueueReadback :
    (∀ n body, Dispatches (State.atHead (replied n) .read body) .read body [] ∧
      (State.atHead (replied n) .read body).tableBusy = false) ∧
    ((replied 15).ev.replies.length < 16 ∧ 16 ≤ (replied 16).ev.replies.length) ∧
    (∀ row ∈ ([(0, 5), (1, 4), (2, 1), (3, 2), (4, 5), (5, 10)] : List (Byte × Nat)),
      let b : Bytes := row.1 :: List.replicate row.2 0; b ≠ [] ∧ u8 b 0 = row.1.toNat ∧ b.length ≠ row.2) ∧
    5 < u8 [6] 0 ∧
    (let b : Bytes := [1, 7, 0xFF, 0xFF]; u8 b 0 = 1 ∧ b.length = 4 ∧ u8 b 1 ≤ 7 ∧ 7 < u8 [1, 8, 0, 0] 1) ∧
    (u8 [2] 0 = 2 ∧ ([2] : Bytes).length = 1) ∧
    (let b : Bytes := [3, 1]; u8 b 0 = 3 ∧ b.length = 2 ∧ 1 = u8 b 1 ∧ 1 < u8 [3, 2] 1) ∧ bank.inBudget ∧
      bank.records[1]? = some (waveKey .tone16 1, ⟨2, List.replicate 128 0x55⟩) ∧
    (let b : Bytes := [4, 0xFF, 0xFF, 0xFF, 0xFF]; u8 b 0 = 4 ∧ b.length = 5) ∧ PanelLegal panel ∧
    (∃ f, kerned.tables.font 2 = some f ∧ f.kern.length ≤ 512 ∧ f.kern[0 + 1]? = some ⟨0x10FFFF, 0x10FFFF, 127⟩ ∧
      f.kern[0]? = some ⟨65, 86, -128⟩) ∧
    (∃ st, kerned.tables.styles[15]? = some st ∧ st.thickness ≤ 4) :=
  ⟨fun _ _ => ⟨dispatches rfl, rfl⟩, by decide, by decide, by decide, by decide, by decide, by decide,
    running_banks.budgets.1, rfl, by decide, running_panel, ⟨_, rfl, by decide, rfl, rfl⟩, ⟨_, rfl, by decide⟩⟩

theorem witness_GlyphReadHoldsDispatcher :
    (∀ body, Dispatches (State.atHead oneGlyph .read body) .read body [] ∧
      (State.atHead oneGlyph .read body).tableBusy = false) ∧
    (let b : Bytes := [0, 2, 0, 0, 84];
      u8 b 0 = 0 ∧ b.length = 5 ∧ u8 b 1 ≤ 7 ∧ u24 b 2 ≤ 0x10FFFF ∧ oneGlyph.ev.replies.length < 16) ∧
    PoolLegal oneGlyph.tables ∧
    oneGlyph.tables.entry 2 85 = none ∧
    (∃ e, oneGlyph.tables.entry 2 84 = some e ∧ 0 < e.width * e.height) ∧
    (0x10FFFF < u24 [0, 2, 0x11, 0, 0] 2 ∧ 16 ≤ (replied 16).ev.replies.length) ∧
    (∀ s : State, ({ s with intake := ⟨[], .readGlyph [2]⟩ } : State).intake.hold = .readGlyph [2]) :=
  ⟨fun _ => ⟨dispatches rfl, rfl⟩, by decide, oneGlyph_pool, by decide, ⟨_, rfl, by decide⟩, by decide, fun _ => rfl⟩

/-- `s` while a READ of PIXELS has read pixel (2, 0) and has pixel (3, 0) still to read. -/
def readPartly (s : State) : State :=
  { s with intake := ⟨[], .readPixels ⟨.owner, ⟨2, 0, 2, 1⟩, false, [3], [0xFF]⟩⟩ }

theorem witness_PixelReadReturnsFields :
    (∀ n body, Dispatches (State.atHead (replied n) .read body) .read body [] ∧
      (State.atHead (replied n) .read body).comp.draw = none ∧
      (State.atHead (replied n) .read body).sched.pass = none ∧
      (State.atHead (replied n) .read body).window.onPage) ∧
    (let b : Bytes := [5, 0, 0, 0, 0, 0, 40, 0, 40, 3];
      u8 b 0 = 5 ∧ b.length = 10 ∧ u8 b 9 ≤ 3 ∧ PixelField.owner.code = u8 b 9) ∧
    3 < u8 [5, 0, 0, 0, 0, 0, 0, 0, 0, 4] 9 ∧ (replied 15).ev.replies.length < 16 ∧
    16 ≤ (replied 16).ev.replies.length ∧
    -- a READ dispatched while a latch pass walks, and one that ends in it, without and with a value already read
    (∀ body, Dispatches (State.atHead (walking armed) .read body) .read body [] ∧
      (State.atHead (walking armed) .read body).comp.draw = none) ∧
    (walking armed).sched.pass = some (.latching 1 [2, 4]) ∧ armed.ev.replies.length < 16 ∧ armed.window.onPage ∧
    (∀ s, (readingPixels s).intake.hold = .readPixels ⟨.owner, ⟨2, 0, 2, 1⟩, false, [2, 3], []⟩) ∧
    (∀ s, (readPartly s).intake.hold = .readPixels ⟨.owner, ⟨2, 0, 2, 1⟩, false, [3], [0xFF]⟩) :=
  ⟨fun _ _ => ⟨dispatches rfl, rfl, rfl, idle_onPage⟩, by decide, by decide, by decide, by decide,
    fun _ => ⟨dispatches rfl, rfl⟩, rfl, by decide, window_onPage, fun _ => rfl, fun _ => rfl⟩

/-- A READ that had read pixel (2, 0) as NONE returns that value first and then pixel (3, 0)'s owner. -/
theorem test_partial_read_end : (after .readPixelsEnd (readPartly idle)).ev.replies =
    [.readback 5 [3, 0, 0, 2, 0, 0, 0, 2, 0, 1, 0, 2, 0xFF, 0xFF]] := by decide

theorem witness_SleepEntersPowerState :
    (∀ r body, Dispatches (State.atHead (railed r) .sleep body) .sleep body [] ∧
      (State.atHead (railed r) .sleep body).comp.draw = none ∧
      (State.atHead (railed r) .sleep body).tableBusy = false) ∧
    (([2] : Bytes).length = 1 ∧ 1 < u8 [2] 0 ∧ u8 [0] 0 = 0 ∧ u8 [1] 0 = 1) ∧
    -- a SLEEP at the head while a record of any disposition is in reception
    (∀ kind n d body, let s := State.atHead (State.receiving idle ⟨kind, 0, n, true, d⟩) .sleep body
      Dispatches s .sleep body [] ∧ s.comp.draw = none ∧ s.tableBusy = false ∧
        s.link.rx = some ⟨kind, 0, n, true, d⟩ ∧ (∀ i, (s.slot i).isSome = false) ∧ s.sched.requests = [] ∧
        s.rails.state = .off) ∧
    ((railed ⟨.falling, none, none, some 10, false⟩).rails.state ≠ .off ∧
      (railed ⟨.falling, none, none, some 10, false⟩).rails.state ≠ .fault) ∧
    ∀ r ∈ [RailState.off, .fault], ¬ ((∃ i, ((railed ⟨r, none, none, none, false⟩).slot i).isSome = true) ∨
      (railed ⟨r, none, none, none, false⟩).sched.requests ≠ [] ∨
      ((railed ⟨r, none, none, none, false⟩).rails.state ≠ .off ∧
        (railed ⟨r, none, none, none, false⟩).rails.state ≠ .fault)) :=
  ⟨fun _ _ => ⟨dispatches rfl, rfl, rfl⟩, by decide,
    fun _ _ _ _ => ⟨dispatches rfl, rfl, rfl, rfl, fun i => by fin_cases i <;> rfl, rfl, rfl⟩, by decide, by decide⟩

/-- Asleep, with a broadcast WAKE of eight bytes in reception. -/
def asleep (deep : Bool) : State :=
  State.receiving { idle with power := if deep then .deep else .sleep } ⟨0x71, 0x0F, 8, false, .wakeMatch⟩

theorem witness_WakePatternEndsSleep :
    (∀ deep : Bool, (asleep deep).power = (if deep then .deep else .sleep) ∧ (asleep deep).link.rx =
      some ⟨0x71, 0x0F, ([0x0F, 0xF0, 0x0F, 0xF0, 0x0F, 0xF0, 0x0F, 0xF0] : Bytes).length, false, .wakeMatch⟩) ∧
    BitVec.ofNat 8 (255 - (0x0F : Byte).toNat) = 0xF0 ∧
    (∀ deep : Bool, ({ idle with power := .waking deep } : State).power = .waking deep ∧
      ({ idle with power := .waking deep } : State).temp.source = .sensor ∧
      ({ running with power := .waking deep } : State).temp.source = .fixed) :=
  ⟨fun _ => ⟨rfl, rfl⟩, by decide, fun _ => ⟨rfl, rfl, rfl⟩⟩

/-- The slots of `idle`: none. -/
theorem idle_slot (i : Fin 16) : idle.slot i = none := by fin_cases i <;> rfl

theorem found_owners : OwnersLegal found where
  owners := by decide
  taken := by intro i sl h; exact absurd (h.symm.trans (idle_slot i)) (by simp)
  driving := by intro i sl h; exact absurd (h.symm.trans (idle_slot i)) (by simp)
  unknown := by intro e he; exact absurd he (by simp [found, idle, State.reset])
  latching := by intro i sl h; exact absurd (h.symm.trans (idle_slot i)) (by simp)
  walking := by intro i todo h; exact absurd h (by simp [found, idle, State.reset, Sched.initial])
  reading := by decide

theorem witness_SoftResetInEveryBlock :
    (Expressed (State.expressed idle .reset 2) .reset 2 ∧ ([0, 0] : Bytes).length ≠ 1 ∧
      Expressed (State.expressed idle .reset 1) .reset 1 ∧ ([2] : Bytes).length = 1 ∧ 1 < u8 [2] 0) ∧
    (∀ s, s = armed ∨ s = running ∨ s = found → Expressed (State.expressed s .reset 1) .reset 1 ∧
      OwnersLegal (State.expressed s .reset 1) ∧
      Store.wf PixelRec.initial (State.expressed s .reset 1).store.pixels) ∧
    (∀ kind writes, armed.comp.draw ≠ some (.writing kind writes)) ∧
    found.comp.draw = some (.writing (.text 182 1 []) [(0, 3), (1, 4)]) := by
  refine ⟨⟨isExpressed _ _ _, by decide, isExpressed _ _ _, by decide, by decide⟩, ?_,
    by intro kind writes; simp [armed, holding, Compose.initial], rfl⟩
  rintro s (rfl | rfl | rfl)
  · exact ⟨isExpressed _ _ _, expressed_owners armed_owners _ _, by decide⟩
  · exact ⟨isExpressed _ _ _, expressed_owners running_owners _ _, by decide⟩
  · exact ⟨isExpressed _ _ _, expressed_owners found_owners _ _, by decide⟩

theorem running_pool : PoolLegal running.tables where
  sorted := by decide
  once := by decide
  inPool := by decide
  sizes := by decide
  ranges := by intro e he; exact absurd he (by simp [running, holding, idle, State.reset, Tables.emptied])
  fonts := by decide
  room := by decide
  writing := by intro g h; simp [running, holding, idle, State.reset, Tables.emptied] at h

theorem running_temperature : TemperatureLegal running where
  current := by decide
  failures := by decide
  band := by intro b h; simp only [running, holding, Option.some.injEq] at h; omega
  reading := by intro a h; simp [running, holding] at h
  ended := fun _ => .inl rfl

theorem running_pen : PenLegal running where
  register := by unfold penRange; decide
  ending := by intro pen made misses todo h; simp [running, holding, Compose.initial] at h
  starting := by intro x h; simp [running, holding, Compose.initial] at h

theorem running_safe : Safe running where
  stores := running_stores
  panel := running_panel
  clip := running_clip
  queues := running_queues
  banks := running_banks
  owners := running_owners
  rails := running_rails
  pool := running_pool
  quiet := fun h => absurd rfl h
  asserted := fun h => absurd h (by decide)
  temperature := running_temperature
  pen := running_pen

theorem witness_FetchesDriveMiso :
    Safe running ∧ (let rx : Rx := ⟨0x7E, 0, 41, true, .fetchLive idle.liveStatus⟩; (State.receiving idle rx).link.rx = some rx) ∧
    (∀ n ∈ [15, 16], let rx : Rx := ⟨0x7F, 0, n, true, .fetchQueue (some (.notice ⟨2, .done, none, none, false, 0, 0⟩))⟩
      let s := State.receiving { idle with ev := { Events.initial with
        replies := [.notice ⟨2, .done, none, none, false, 0, 0⟩] } } rx
      s.link.rx = some rx ∧ s.ev.replies = .notice ⟨2, .done, none, none, false, 0, 0⟩ :: [] ∧
        (Reply.notice ⟨2, .done, none, none, false, 0, 0⟩).bytes.length = 16) ∧
    (let rx : Rx := ⟨0x7F, 0, 4, true, .fetchQueue none⟩; (State.receiving idle rx).link.rx = some rx) := by
  refine ⟨running_safe, rfl, fun n _ => ⟨rfl, rfl, by decide⟩, rfl⟩

theorem witness_FrameDrivesFollowMatrix :
    (idle.scan = none ∧ panel.w ≤ 64 ∧ panel.h ≤ 64 ∧ (running.pixel (pixelKey 63 63)).owner = none) ∧
    (∃ sl, (armed.pixel (pixelKey 3 0)).owner = some 0 ∧ armed.slot 0 = some sl ∧ sl.isRunning = false) ∧
    (∃ sl v, running.scan.isSome = true ∧ 3 < running.store.panel.w ∧ 0 < running.store.panel.h ∧
      (running.pixel (pixelKey (running.store.panel.x0 + 3) 0)).owner = some 0 ∧ running.slot 0 = some sl ∧
      sl.phase = .running 0 ∧ (running.bank sl.bank).record sl.mode sl.band = some v ∧ 0 < v.frames ∧
      sl.mode ≠ .clean ∧ (running.pixel (pixelKey (running.store.panel.x0 + 3) 0)).shown = some 15) :=
  ⟨by decide, ⟨_, by decide, rfl, rfl⟩, _, _, rfl, by decide, by decide, by decide, rfl, rfl, rfl, by decide,
    by decide, by decide⟩

theorem witness_RecordBodiesRoundTrip :
    (∃ x : TextRec, x.slot ≤ 7 ∧ x.continued = true ∧ x.penX = -2147483648 ∧ x.baseline = -256 ∧ x.track = 63 ∧
      x.codes.length = 250 ∧ ∀ c ∈ x.codes, c ≤ 0x10FFFF) ∧
    (∃ x : TextRec, x.continued = false ∧ -8192 ≤ x.penX ∧ x.penX ≤ 65535 ∧ x.codes.length = 1) ∧
    (∃ h : HiliteRec, h.style ≤ 15 ∧ h.rects.length = 32 ∧ ∀ r ∈ h.rects, Rect.onWire r) ∧
    (∃ u : UpdateRec, Rect.onWire u.rect ∧ u.allowed ≠ [] ∧ u.allowed = Mode.all.filter (fun m => m ∈ u.allowed)) ∧
    PanelLegal panel ∧
    ∃ st : Style, 1 ≤ st.thickness ∧ st.thickness ≤ 4 :=
  ⟨⟨⟨7, true, -2147483648, -256, 0, true, 63, List.replicate 250 0x10FFFF⟩, by decide, rfl, rfl, rfl, rfl,
      by simp, by intro c hc; rw [List.eq_of_mem_replicate hc]⟩,
    ⟨⟨0, false, 65535, 2047, 15, false, -64, [0]⟩, by decide⟩,
    ⟨⟨15, List.replicate 32 ⟨-32768, 32767, 65535, 65535⟩⟩, by decide, by decide, by
      intro r hr; rw [List.eq_of_mem_replicate hr]; unfold Rect.onWire; decide⟩,
    ⟨⟨0, ⟨-32768, 32767, 0, 65535⟩, [.clean, .stroke], true, true, false⟩, by unfold Rect.onWire; decide, by decide,
      by decide⟩,
    running_panel, Style.initial, by decide⟩

/-! Each invariant and its step: `running` takes a frame end, `oneGlyph` a FONTDROP, a sleeping station idles. -/

/-- `running` with a frame end waiting. -/
def ticking : State := { running with pending := [.frameEnd] }

theorem ticking_steps : ∃ t, step ticking = .next t := ⟨_, rfl⟩

theorem witness_StepKeepsStoresCanonical : StoresCanonical ticking ∧ ∃ t, step ticking = .next t :=
  ⟨⟨running_stores.pixels, running_stores.pool, running_stores.directory, running_stores.residue,
    running_stores.counts, running_stores.recordsA, running_stores.recordsB⟩, ticking_steps⟩

theorem witness_StepKeepsClipInWindow :
    ClipLegal ticking ∧ PanelLegal ticking.store.panel ∧ ∃ t, step ticking = .next t :=
  ⟨⟨running_clip.clip, running_clip.stack, running_clip.held, running_clip.depth, running_clip.excess,
    running_clip.deep, running_clip.shallow⟩, running_panel, ticking_steps⟩

theorem witness_StepKeepsQueuesBounded : QueuesBounded ticking ∧ ∃ t, step ticking = .next t :=
  ⟨⟨running_queues.intake, running_queues.replies, running_queues.requests⟩, ticking_steps⟩

theorem witness_StepKeepsBanksLegal : BanksLegal ticking ∧ StoresCanonical ticking ∧ ∃ t, step ticking = .next t :=
  ⟨⟨running_banks.active, running_banks.loading, running_banks.budgets, running_banks.empty, running_banks.pins, running_banks.pinned,
    running_banks.index⟩, witness_StepKeepsStoresCanonical⟩

/-- A station in SLEEP that takes a WAKE in reception. -/
def sleeping : State := { State.receiving { idle with power := .sleep }
  ⟨0x71, 0, 8, false, .wakeMatch⟩ with pending := [.wake [0, 0xFF, 0, 0xFF, 0, 0xFF, 0, 0xFF]] }

theorem sleeping_quiet : Quiet sleeping where
  intake := rfl
  slots := by decide
  requests := by decide
  drawing := by decide
  rails := by decide
  sensor := by decide
  link := by
    intro rx h
    simp only [sleeping, State.receiving, Option.some.injEq] at h
    subst h; decide

theorem witness_StepKeepsOwnersAndRails :
    (let s : State := { clearing with pending := [.railctlClear] }; PassLegal s ∧ ∃ t, step s = .next t) ∧
    (StoresCanonical ticking ∧ OwnersLegal ticking ∧ RailsLegal ticking ∧ ticking.power = .run ∧
      ticking.link.resetAsserted = false ∧ ∃ t, step ticking = .next t) ∧
    (sleeping.power ≠ .run ∧ Quiet sleeping ∧ sleeping.link.resetAsserted = false ∧ ∃ t, step sleeping = .next t) :=
  ⟨⟨⟨by decide, by decide, by decide⟩, _, rfl⟩, ⟨witness_StepKeepsStoresCanonical.1,
    ⟨running_owners.owners, running_owners.taken, running_owners.driving, running_owners.unknown,
      running_owners.latching, running_owners.walking, running_owners.reading⟩,
    ⟨running_rails.running, running_rails.scanning, running_rails.armed, running_rails.holding,
      running_rails.rising, running_rails.falling, running_rails.fault⟩, rfl, rfl, ticking_steps⟩,
    by decide, sleeping_quiet, rfl, _, rfl⟩

theorem witness_StepKeepsPoolLegal :
    let s : State := { State.atHead oneGlyph .fontdrop [2] with pending := [.fontdrop] }
    (PoolLegal s.tables ∧ ∃ t, step s = .next t) ∧
    let s : State := { State.atHead kerned .kernload [2, 0, 1, 0, 0, 65, 0, 0, 66, 0x80] with pending := [.kernload] }
    FontsLegal s.tables ∧ ∃ t, step s = .next t := ⟨⟨oneGlyph_pool, _, rfl⟩, kerned_fonts, _, rfl⟩

/-- A sensor read of address 0x49 in flight, a TEXT running, and the read's end waiting. -/
def sampling : State := { found with
  temp := ⟨.sensor, -640, 255, some 7, some 0x49, some 60, [.stop, .start, .address 0x49]⟩
  pending := [.sensorReadEnd (0x80, 0)] }

theorem witness_StepKeepsTemperatureAndPen :
    (TemperatureLegal sampling ∧ PenLegal sampling ∧ PanelLegal sampling.store.panel ∧ BanksLegal sampling) ∧
      ∃ t, step sampling = .next t :=
  ⟨⟨{ current := by decide
      failures := by decide
      band := by intro b h; simp only [sampling, Option.some.injEq] at h; omega
      reading := by
        intro a h; simp only [sampling, Option.some.injEq] at h; subst h
        exact ⟨by decide, [.stop], rfl⟩
      ended := by intro h; simp [sampling] at h },
    { register := by unfold penRange; decide
      ending := by
        intro pen made misses todo h
        simp only [sampling, found, Option.some.injEq, Draw.writing.injEq, DrawKind.text.injEq] at h
        unfold penRange; omega
      starting := by intro x h; simp [sampling, found] at h },
    ⟨by decide, by decide, by decide, by decide, by decide, by decide, by decide, by decide, by decide, by decide⟩,
    ⟨idle_banks.active, idle_banks.loading, idle_banks.budgets, idle_banks.empty, idle_banks.pins,
      idle_banks.pinned, idle_banks.index⟩⟩, _, rfl⟩

end Sys2Proof.Tests
end

section
/-! SUPPORT. What every command keeps of the canonical lists, the clips and the panel fields (R6, R21, R68, R79,
R105). `Preserves` is shown once for each operation of the model; `exec_preserves` puts them together. -/

namespace Sys2Proof.Machine

open Host (Outcome)

/-! ### Telling outcomes (R130) -/

/-- Telling outcomes changes the Event and Reply Unit alone. -/
theorem tell_eq (os : List (Bool × Notice)) (s : State) :
    os.foldl (fun s o => s.notify o.1 o.2) s = { s with ev := told s os } := by
  unfold told
  induction os generalizing s with
  | nil => rfl
  | cons o os ih =>
    simp only [List.foldl_cons]
    rw [ih, notify_frame s o.1 o.2]

/-- What telling an outcome leaves rests on the Event and Reply Unit and the reserved places alone. -/
theorem notify_ev_congr {s t : State} (he : t.ev = s.ev) (hr : t.reserved = s.reserved) (w : Bool) (n : Notice) :
    (t.notify w n).ev = (s.notify w n).ev := by
  have hf : t.repliesFull = s.repliesFull := by simp [State.repliesFull, he, hr]
  simp only [State.notify_ev, hf, he]

theorem told_congr {s t : State} (he : t.ev = s.ev) (hr : t.reserved = s.reserved) (os : List (Bool × Notice)) :
    told t os = told s os := by
  unfold told
  induction os generalizing s t with
  | nil => exact he
  | cons o os ih =>
    simp only [List.foldl_cons]
    exact ih (notify_ev_congr he hr o.1 o.2) (by simpa [State.reserved] using hr)

theorem told_append (s : State) (as bs : List (Bool × Notice)) :
    told s (as ++ bs) = told { s with ev := told s as } bs := by
  rw [← tell_eq]
  unfold told
  rw [List.foldl_append]

/-- The requests that a CANCEL or a HALT removes are told CANCELLED in queue order. -/
theorem tellRequests_eq (rs : List Request) (s : State) :
    rs.foldl (fun s r => s.notify r.notify (r.notice .cancelled none)) s =
      { s with ev := told s (rs.map fun r => requestOutcome r .cancelled) } := by
  rw [← tell_eq, List.foldl_map]; rfl

/-! ### What a command preserves -/

/-- `t` meets each of the three invariants that `s` meets: canonical lists, legal clips, panel fields in range. -/
structure Preserves (s t : State) : Prop where
  stores : StoresCanonical s → StoresCanonical t
  clip : ClipLegal s → ClipLegal t
  panel : PanelLegal s.store.panel → PanelLegal t.store.panel

/-- The parts of a state that the three invariants read. -/
structure Contents where
  store : PixelStore
  pool : List Host.Cell
  directory : List (Nat × Entry)
  residue : List (Nat × Nat)
  recordsA : List (Nat × WaveRec)
  recordsB : List (Nat × WaveRec)
  clip : Rect
  clipStack : List Rect
  excess : Nat
  heldClip : Option Rect

/-- The contents of a state. -/
def State.contents (s : State) : Contents :=
  ⟨s.store, s.tables.pool, s.tables.directory, s.residue, s.wave.bankA.records, s.wave.bankB.records, s.comp.clip,
    s.comp.clipStack, s.comp.excess, s.comp.heldClip⟩

theorem Preserves.refl (s : State) : Preserves s s := ⟨id, id, id⟩

theorem Preserves.trans {s t u : State} (h : Preserves s t) (h' : Preserves t u) : Preserves s u :=
  ⟨h'.stores ∘ h.stores, h'.clip ∘ h.clip, h'.panel ∘ h.panel⟩

theorem Preserves.of_contents {s t : State} (h : t.contents = s.contents) : Preserves s t := by
  simp only [State.contents, Contents.mk.injEq] at h
  obtain ⟨hs, hp, hd, hr, ha, hb, hc, hk, he, hh⟩ := h
  refine ⟨fun c => ?_, fun c => ?_, fun c => hs ▸ c⟩
  · exact ⟨hs ▸ c.pixels, hp ▸ c.pool, hd ▸ c.directory, hr ▸ c.residue, hr ▸ c.counts, ha ▸ c.recordsA,
      hb ▸ c.recordsB⟩
  · have hw : t.window = s.window := by unfold State.window; rw [hs]
    exact ⟨hw ▸ hc ▸ c.clip, hw ▸ hk ▸ c.stack, hw ▸ hh ▸ c.held, hk ▸ c.depth, he ▸ c.excess,
      he ▸ hk ▸ hc ▸ hh ▸ c.deep, he ▸ hh ▸ c.shallow⟩

theorem Preserves.setPixels {s : State} {m : List (Nat × PixelRec)}
    (h : Store.wf PixelRec.initial s.store.pixels → Store.wf PixelRec.initial m) : Preserves s (s.setPixels m) :=
  ⟨fun c => ⟨h c.pixels, c.pool, c.directory, c.residue, c.counts, c.recordsA, c.recordsB⟩,
    fun c => ⟨c.clip, c.stack, c.held, c.depth, c.excess, c.deep, c.shallow⟩, id⟩

theorem Preserves.setTables {s : State} {tb : Tables} (hp : Memory.wf s.tables.pool → Memory.wf tb.pool)
    (hd : Store.sorted s.tables.directory → Store.sorted tb.directory) : Preserves s { s with tables := tb } :=
  ⟨fun c => ⟨c.pixels, hp c.pool, hd c.directory, c.residue, c.counts, c.recordsA, c.recordsB⟩,
    fun c => ⟨c.clip, c.stack, c.held, c.depth, c.excess, c.deep, c.shallow⟩, id⟩

theorem Preserves.setBank {s : State} (b : BankId) {v : Bank}
    (h : Store.sorted (s.bank b).records → Store.sorted v.records) : Preserves s (s.setBank b v) := by
  refine ⟨fun c => ?_, fun c => ?_, ?_⟩
  · cases b
    · exact ⟨c.pixels, c.pool, c.directory, c.residue, c.counts, h c.recordsA, c.recordsB⟩
    · exact ⟨c.pixels, c.pool, c.directory, c.residue, c.counts, c.recordsA, h c.recordsB⟩
  · cases b <;> exact ⟨c.clip, c.stack, c.held, c.depth, c.excess, c.deep, c.shallow⟩
  · cases b <;> exact id

/-- A change that leaves the contents as they are may come first. -/
theorem Preserves.after {s s' t : State} (h : Preserves s' t) (e : s'.contents = s.contents) : Preserves s t :=
  (Preserves.of_contents e).trans h

/-- A change that leaves the contents as they are may come last. -/
theorem Preserves.andThen {s t t' : State} (h : Preserves s t) (e : t'.contents = t.contents) : Preserves s t' :=
  h.trans (Preserves.of_contents e)

/-- What each step of a fold preserves, the fold does. -/
theorem Preserves.foldl {α : Type} {f : State → α → State} (h : ∀ s a, Preserves s (f s a)) (as : List α)
    (s : State) : Preserves s (as.foldl f s) := by
  induction as generalizing s with
  | nil => exact .refl s
  | cons a as ih => exact (h s a).trans (ih _)

theorem preserves_withHead {s : State} {k : RecordKind} {f : Bytes → State} (h : ∀ body, Preserves s (f body)) :
    Preserves s (s.withHead k f) := by
  rcases withHead_cases s k f with ⟨-, e⟩ | ⟨body, -, -, e⟩
  · rw [e]; exact .refl s
  · rw [e]; exact h body

theorem preserves_withDraw {s : State} {k : RecordKind} {f : Bytes → State} (h : ∀ body, Preserves s (f body)) :
    Preserves s (s.withDraw k f) := by
  refine preserves_withHead fun body => ?_
  split
  · exact .refl s
  · exact h body

theorem preserves_withTable {s : State} {k : RecordKind} {f : Bytes → State} (h : ∀ body, Preserves s (f body)) :
    Preserves s (s.withTable k f) := by
  refine preserves_withHead fun body => ?_
  split
  · exact .refl s
  · exact h body

theorem preserves_csRise {s : State} {isKind : Byte → Bool} {body : Bytes} {f : Rx → State → State}
    (h : ∀ rx s', Preserves s' (f rx s')) : Preserves s (s.csRise isKind body f) := by
  rcases csRise_cases s isKind body f with e | ⟨rx, -, -, ⟨-, e⟩ | ⟨-, e⟩⟩
  · rw [e]; exact .refl s
  · rw [e]; exact .of_contents (by simp [State.contents])
  · rw [e]; exact (h rx (s.setRx none)).after rfl

theorem preserves_endUntaken (s : State) (rx : Rx) : Preserves s (s.endUntaken rx) := by
  unfold State.endUntaken
  split
  · exact .of_contents rfl
  · exact .refl s

theorem preserves_express {s : State} {k : RecordKind} {body : Bytes} {f : State → State}
    (h : ∀ s', Preserves s' (f s')) : Preserves s (s.express k body f) := by
  refine preserves_csRise fun rx s' => ?_
  split
  · exact h s'
  · exact preserves_endUntaken s' rx

theorem preserves_refuseHead (s : State) (k : RecordKind) (r : Reason) : Preserves s (s.refuseHead k r) :=
  .of_contents rfl

theorem preserves_setFlagIf (s : State) (c : Bool) (f : Flag) : Preserves s (s.setFlagIf c f) :=
  .of_contents (by simp [State.contents])

theorem preserves_notify (s : State) (w : Bool) (n : Notice) : Preserves s (s.notify w n) :=
  .of_contents (by simp [State.contents])

/-! ### Walks -/

theorem preserves_latchPixel (i : Fin 16) (s : State) (k : Nat) : Preserves s (latchPixel i s k) := by
  unfold latchPixel
  split
  · exact .refl s
  · dsimp only
    split
    · exact .of_contents rfl
    · split
      · exact (Preserves.setPixels fun h => Store.wf_set h _ _).trans (.of_contents rfl)
      · exact .refl s

theorem preserves_advancePass (s : State) (n : Nat) : Preserves s (s.advancePass n) := by
  unfold State.advancePass
  split
  · exact .refl s
  · exact .of_contents rfl
  · exact .of_contents rfl
  · split
    · exact .refl s
    · exact (Preserves.foldl (preserves_latchPixel _) _ s).trans (.of_contents rfl)

theorem preserves_freeAdvancePass (s : State) : Preserves s s.freeAdvancePass := by
  unfold State.freeAdvancePass
  split
  · exact .refl s
  · exact (preserves_advancePass s.useFree _).after rfl

theorem preserves_readOne (s : State) : Preserves s s.readOne := by
  refine (preserves_freeAdvancePass s).trans ?_
  unfold State.readOne
  dsimp only
  split
  · split <;> exact .of_contents rfl
  · exact .refl _

theorem preserves_readMany (n : Nat) (s : State) : Preserves s (State.readMany n s) := by
  induction n generalizing s with
  | zero => exact .refl s
  | succ n ih => exact (preserves_readOne s).trans (ih _)

theorem preserves_freeAdvanceRead (s : State) : Preserves s s.freeAdvanceRead := by
  unfold State.freeAdvanceRead
  split
  · exact (preserves_readMany _ s.useFree).after rfl
  · exact .refl s

theorem preserves_advanceWalks (s : State) : Preserves s s.advanceWalks :=
  (preserves_freeAdvanceRead s).trans (preserves_freeAdvancePass _)

theorem preserves_rebuildAfterDeep (s : State) : Preserves s s.rebuildAfterDeep := by
  refine ⟨fun c => ?_, fun _ => ?_, id⟩
  · exact ⟨⟨.nil, by simp [State.rebuildAfterDeep]⟩, c.pool, .nil, c.residue, c.counts, c.recordsA, c.recordsB⟩
  · exact ⟨fun _ _ h => h, by simp [State.rebuildAfterDeep, Compose.initial],
      by simp [State.rebuildAfterDeep, Compose.initial], by simp [State.rebuildAfterDeep, Compose.initial],
      by simp [State.rebuildAfterDeep, Compose.initial], by simp [State.rebuildAfterDeep, Compose.initial],
      fun _ => rfl⟩

theorem contents_freeMisses (s : State) : s.freeMisses.contents = s.contents := by
  rw [freeMisses_frame]; rfl

theorem preserves_advanceShown (s : State) : Preserves s s.advanceShown := by
  suffices h : Preserves s.freeMisses s.freeMisses.freeRebuild from h.after (contents_freeMisses s)
  unfold State.freeRebuild
  split
  · split
    · exact .of_contents rfl
    · exact (preserves_rebuildAfterDeep s.freeMisses.useFree).after rfl
  · exact .refl _

/-! ### The ends of slots -/

theorem preserves_endSlot (s : State) (i : Fin 16) (sl : Slot) (e : Ending) : Preserves s (s.endSlot i sl e) :=
  .of_contents (by rw [endSlot_frame]; rfl)

theorem preserves_mapOwned (s : State) (i : Fin 16) (f : PixelRec → PixelRec) :
    Preserves s (s.setPixels (mapOwned i f s.store.pixels)) :=
  .setPixels fun h => mapOwned_wf h.1 i f

theorem preserves_releaseSlot (s : State) (i : Fin 16) (sl : Slot) (e : Ending) :
    Preserves s (s.releaseSlot i sl e) :=
  (preserves_mapOwned s i _).trans (preserves_endSlot _ i sl e)

theorem preserves_abortSlot (s : State) (i : Fin 16) (sl : Slot) : Preserves s (s.abortSlot i sl) :=
  (preserves_mapOwned s i _).trans (preserves_endSlot _ i sl _)

theorem preserves_cutSlot (s : State) (i : Fin 16) : Preserves s (s.cutSlot i) := by
  unfold State.cutSlot
  split
  · exact .refl s
  · split
    · exact preserves_abortSlot s i _
    · exact preserves_releaseSlot s i _ _

theorem preserves_cutSlots (s : State) : Preserves s s.cutSlots := by
  unfold State.cutSlots
  split
  · exact (preserves_advanceWalks s).trans (.foldl preserves_cutSlot _ _)
  · exact .refl s

/-- The residue counts are canonical and lie in 0..15 (R105). -/
def ResidueLegal (m : List (Nat × Nat)) : Prop := Store.wf 0 m ∧ ∀ e ∈ m, e.2 ≤ 15

theorem residueLegal_mapValues {m : List (Nat × Nat)} (h : ResidueLegal m) {f : Nat → Nat → Nat}
    (hf : ∀ n c, f n c ≤ c) : ResidueLegal (Store.mapValues 0 f m) := by
  refine ⟨Store.wf_mapValues h.1.1 f, fun e he => ?_⟩
  obtain ⟨e', he', rfl⟩ := List.mem_map.mp (List.mem_filter.mp he).1
  exact (hf _ _).trans (h.2 e' he')

theorem residueLegal_add {m : List (Nat × Nat)} (h : ResidueLegal m) (weight : Nat) (tiles : List Nat) :
    ResidueLegal (tiles.foldl (fun r n => Store.set 0 r n (min 15 (Store.getD r n 0 + weight))) m) := by
  induction tiles generalizing m with
  | nil => exact h
  | cons n tiles ih =>
    refine ih ⟨Store.wf_set h.1 _ _, fun e he => ?_⟩
    rcases Store.mem_set he with ⟨rfl, -⟩ | he
    · exact Nat.min_le_left _ _
    · exact h.2 e he

/-- A report to the Residue Map keeps its counts canonical and in 0..15 (R105, R106). -/
theorem residueLegal_report {res : List (Nat × Nat)} (h : ResidueLegal res) (p : Panel) (m : Mode) (rect : Rect)
    (tiles : List Nat) : ResidueLegal (residueReport p m rect tiles res) := by
  cases m with
  | clean =>
    unfold residueReport
    refine residueLegal_mapValues h fun n c => ?_
    split
    · exact Nat.zero_le c
    · split
      · exact Nat.div_le_self c 2
      · exact le_rfl
  | tone16 =>
    unfold residueReport
    refine residueLegal_mapValues h fun n c => ?_
    split
    · exact Nat.div_le_self c 2
    · exact le_rfl
  | tone4 => exact residueLegal_add h _ tiles
  | bilevel => exact residueLegal_add h _ tiles
  | stroke => exact residueLegal_add h _ tiles

theorem preserves_setResidue {s : State} {res : List (Nat × Nat)} (h : ResidueLegal s.residue → ResidueLegal res) :
    Preserves s { s with residue := res } := by
  refine ⟨fun c => ?_, fun c => ⟨c.clip, c.stack, c.held, c.depth, c.excess, c.deep, c.shallow⟩, id⟩
  obtain ⟨hr, hc⟩ := h ⟨c.residue, c.counts⟩
  exact ⟨c.pixels, c.pool, c.directory, hr, hc, c.recordsA, c.recordsB⟩

theorem preserves_completeSlot (s : State) (i : Fin 16) (sl : Slot) : Preserves s (s.completeSlot i sl) :=
  (preserves_mapOwned s i _).trans
    ((preserves_setResidue fun h => residueLegal_report h _ _ _ _).trans (preserves_endSlot _ i sl _))

theorem preserves_frameSlot (s : State) (i : Fin 16) : Preserves s (s.frameSlot i) := by
  unfold State.frameSlot
  split
  · exact .refl s
  · split
    · exact .refl s
    · exact .refl s
    · split
      · exact preserves_completeSlot s i _
      · split
        · exact preserves_abortSlot s i _
        · exact .of_contents rfl

theorem preserves_cancelSlot (tag : Byte) (s : State) (i : Fin 16) : Preserves s (s.cancelSlot tag i) := by
  unfold State.cancelSlot
  split
  · exact .refl s
  · split
    · exact .refl s
    · split
      · exact (preserves_releaseSlot s i _ _).trans (.of_contents rfl)
      · exact .of_contents rfl

theorem preserves_resetSlotPixels (s : State) (i : Fin 16) : Preserves s (s.resetSlotPixels i) := by
  unfold State.resetSlotPixels
  split
  · exact .refl s
  · exact preserves_mapOwned s i _

/-! ### Passes, rails and temperature: none of them touches the contents -/

theorem preserves_continuePass (s : State) : Preserves s s.continuePass :=
  .of_contents (by rw [continuePass_frame]; rfl)

theorem preserves_endPass (s : State) : Preserves s s.endPass := .of_contents (by rw [endPass_frame]; rfl)

theorem preserves_startHold (s : State) : Preserves s s.startHold := .of_contents (by simp [State.contents])

theorem preserves_holdIfLeft (s : State) (before : Bool) : Preserves s (s.holdIfLeft before) :=
  .of_contents (by rw [holdIfLeft_frame]; rfl)

theorem preserves_reachOn (s : State) : Preserves s s.reachOn := .of_contents (by rw [reachOn_frame]; rfl)

theorem preserves_onArmed (s : State) : Preserves s s.onArmed := .of_contents (by rw [onArmed_frame]; rfl)

theorem preserves_enterRising (s : State) : Preserves s s.enterRising :=
  .of_contents (by rw [enterRising_frame]; rfl)

/-- The rails in FAULT and RAILFAULT set, before the slots are ended (R144). -/
def State.failing (s : State) : State :=
  State.setFlag { s with
    rails := { s.rails with state := .fault, rise := none, hold := none, fall := none } } .railfault

theorem enterFault_eq (s : State) :
    s.enterFault = (State.dropPass { s.failing.cutSlots with scan := none }).freeUpdate true := rfl

theorem preserves_enterFault (s : State) : Preserves s s.enterFault := by
  refine ((preserves_cutSlots s.failing).after (s := s) rfl).andThen ?_
  rw [enterFault_eq, freeUpdate_frame]; rfl

theorem preserves_recomputeBand (s : State) : Preserves s s.recomputeBand :=
  .of_contents (by rw [recomputeBand_frame]; rfl)

theorem preserves_startReadIfSensor (s : State) (lead : List WireEvent) : Preserves s (s.startReadIfSensor lead) :=
  .of_contents (by rw [startReadIfSensor_frame]; rfl)

theorem preserves_abandonRead (s : State) : Preserves s s.abandonRead := .of_contents (by simp [State.contents])

theorem contents_tempset (s : State) (source : Source) : (s.tempset source).contents = s.contents := by
  simp [State.tempset, State.contents]

theorem preserves_failRead (s : State) (events : List WireEvent) : Preserves s (s.failRead events) :=
  .of_contents (by rw [failRead_frame]; rfl)

theorem preserves_enterSlot (s : State) (r : Request) (i : Fin 16) (m : Mode) (promoted : Bool) :
    Preserves s (s.enterSlot r i m promoted) := .of_contents rfl

/-! ### Tables and banks -/

theorem preserves_commit (s : State) (g : GlyphWrite) : Preserves s { s with tables := s.tables.commit g } :=
  .setTables (fun h => Memory.wf_writeBitmap h _ _ _) fun h => Store.sorted_put h _ _

theorem preserves_startText (s : State) (t : TextRec) : Preserves s (s.startText t) := by
  unfold State.startText
  split
  · exact .of_contents rfl
  · exact .of_contents (contents_freeMisses _)

theorem preserves_accept (s : State) (g : GlyphputRec) : Preserves s { s with tables := s.tables.accept g } := by
  unfold Tables.accept
  dsimp only
  split
  · exact .setTables (fun h => Memory.wf_writeBitmap h _ _ _) fun h =>
      Store.sorted_put (Store.sorted_drop h _) _ _
  · exact .setTables id fun h => Store.sorted_drop h _

theorem preserves_commitBank (s : State) (b : BankId) : Preserves s (s.commitBank b) := by
  unfold State.commitBank
  refine .trans ?_ (preserves_recomputeBand _)
  split
  · exact .setBank b id
  · rename_i old _
    exact (Preserves.setBank (v := (s.bank old).withState .retired) old id).trans (.setBank b id)

/-! ### The clip stack and PANELSET -/

theorem inter_inside_left {a c : Rect} (h : a.Inside c) (b : Rect) : (Rect.inter a b).Inside c := by
  intro x y hxy
  rw [Rect.has_inter, Bool.and_eq_true] at hxy
  exact h x y hxy.1

/-- CLIPPUSH keeps the clip state legal (R69). -/
theorem clipLegal_push {s : State} (c : ClipLegal s) (rect : Rect) :
    ClipLegal { s with comp := s.comp.push rect } := by
  unfold Compose.push
  split
  · rename_i hroom
    have shallow : s.comp.excess = 0 := by
      by_contra h
      have := (c.deep (Nat.pos_of_ne_zero h)).1
      rw [this] at hroom; exact absurd hroom (by decide)
    refine ⟨inter_inside_left c.clip rect, fun d hd => ?_, c.held, hroom, c.excess,
      fun h => absurd shallow (Nat.ne_of_gt h), c.shallow⟩
    rcases List.mem_cons.mp hd with rfl | hd
    · exact c.clip
    · exact c.stack d hd
  · rename_i hfull
    have full : s.comp.clipStack.length = 7 := le_antisymm c.depth (not_lt.mp hfull)
    have empty : ∀ r : Rect, Rect.none.Inside r := fun r x y h => by simp [Rect.has_none] at h
    split
    · exact ⟨empty _, c.stack, fun d hd => (Option.some.inj hd) ▸ c.clip, c.depth, Nat.le_of_ble_eq_true rfl,
        fun _ => ⟨full, rfl, rfl⟩, fun h => absurd h Nat.one_ne_zero⟩
    · rename_i hex
      have deep := c.deep (Nat.pos_of_ne_zero hex)
      exact ⟨empty _, c.stack, c.held, c.depth, Nat.min_le_left _ _, fun _ => ⟨full, rfl, deep.2.2⟩, fun h => by
        have h : min 255 (s.comp.excess + 1) = 0 := h
        omega⟩

/-- CLIPPOP keeps the clip state legal (R70). -/
theorem clipLegal_popClip {s : State} (c : ClipLegal s) : ClipLegal { s with comp := s.comp.popClip } := by
  unfold Compose.popClip
  split
  · rename_i hmany
    have deep := c.deep (by omega)
    exact ⟨c.clip, c.stack, c.held, c.depth, (Nat.sub_le _ _).trans c.excess, fun _ => deep, fun h => by
      have h : s.comp.excess - 1 = 0 := h
      omega⟩
  · split
    · rename_i hone
      obtain ⟨-, -, hheld⟩ := c.deep (by omega)
      obtain ⟨d, hd⟩ := Option.isSome_iff_exists.mp hheld
      refine ⟨?_, c.stack, fun _ h => by simp at h, c.depth, Nat.zero_le _, fun h => absurd h (by simp), fun _ => rfl⟩
      show (s.comp.heldClip.getD Rect.none).Inside s.window
      rw [hd]; exact c.held d hd
    · rename_i hmany hone
      have shallow : s.comp.excess = 0 := by omega
      split
      · exact c
      · rename_i top rest hstack
        have hmem : ∀ d, d ∈ top :: rest → d.Inside s.window := fun d hd => c.stack d (hstack ▸ hd)
        have hdepth := c.depth
        rw [hstack, List.length_cons] at hdepth
        exact ⟨hmem top (List.mem_cons_self ..), fun d hd => hmem d (List.mem_cons_of_mem _ hd), c.held, by
          show rest.length ≤ 7
          omega, c.excess, fun h => absurd shallow (Nat.ne_of_gt h), c.shallow⟩

/-- A clip state set back to the window is legal (R71, R73). -/
theorem clipLegal_whole {s : State} (hc : s.comp.clip = s.window) (hk : s.comp.clipStack = [])
    (he : s.comp.excess = 0) (hh : s.comp.heldClip = none) : ClipLegal s := by
  refine ⟨hc ▸ fun _ _ h => h, by simp [hk], by simp [hh], by simp [hk], by simp [he], fun h => ?_, fun _ => hh⟩
  omega

theorem preserves_setClips {s : State} {c : Compose} (h : ClipLegal s → ClipLegal { s with comp := c }) :
    Preserves s { s with comp := c } :=
  ⟨fun k => ⟨k.pixels, k.pool, k.directory, k.residue, k.counts, k.recordsA, k.recordsB⟩, h, id⟩

theorem clampNat_bounds {lo hi : Nat} (h : lo ≤ hi) (n : Nat) : lo ≤ clampNat lo hi n ∧ clampNat lo hi n ≤ hi := by
  unfold clampNat
  split
  · omega
  · split <;> omega

/-- A PANELSET that passes its checks has its fields in their ranges (R6). -/
theorem panelLegal_of_parse {b : Bytes} {p : Panel} (h : parsePanelset b = .ok p) : PanelLegal p := by
  unfold parsePanelset at h
  split at h
  · cases h
  · split at h
    · cases h
    · rename_i hwin
      injection h with h
      subst h
      refine ⟨by dsimp only; omega, by dsimp only; omega, by dsimp only; omega,
        clampNat_bounds (lo := 8000) (hi := 40000) (by decide) _, clampNat_bounds (lo := 1) (hi := 100) (by decide) _,
        (clampNat_bounds (lo := 0) (hi := 10000) (by decide) _).2,
        clampNat_bounds (lo := 1) (hi := 100) (by decide) _, Nat.mod_lt _ (by decide),
        clampNat_bounds (lo := 1) (hi := 600) (by decide) _, clampNat_bounds (lo := 1) (hi := 15) (by decide) _⟩

theorem preserves_setPanel {s : State} {p : Panel} (hp : PanelLegal p) (hw : p.sameWindow s.store.panel = true) :
    Preserves s (s.setPanel p) := by
  have hw : p.window = s.window := by
    obtain ⟨hx, hw, hh⟩ := of_decide_eq_true hw
    simp [Panel.window, State.window, hx, hw, hh]
  refine ⟨fun k => ⟨k.pixels, k.pool, k.directory, k.residue, k.counts, k.recordsA, k.recordsB⟩, fun c => ?_,
    fun _ => hp⟩
  have hw' : (s.setPanel p).window = s.window := hw
  exact ⟨hw' ▸ c.clip, hw' ▸ c.stack, hw' ▸ c.held, c.depth, c.excess, c.deep, c.shallow⟩

theorem preserves_geometryChange {s : State} {p : Panel} (hp : PanelLegal p) :
    Preserves s (s.geometryChange p) :=
  ⟨fun k => ⟨⟨.nil, by simp [State.geometryChange]⟩, k.pool, k.directory, ⟨.nil, by simp [State.geometryChange]⟩,
    by simp [State.geometryChange], k.recordsA, k.recordsB⟩, fun _ => clipLegal_whole rfl rfl rfl rfl, fun _ => hp⟩

/-! ### Power states and resets -/

theorem preserves_fallAsleep (s : State) (p : Power) : Preserves s (s.fallAsleep p) :=
  (preserves_abandonRead s).trans (.of_contents rfl)

theorem preserves_loseSdram (s : State) : Preserves s s.loseSdram :=
  ⟨fun k => ⟨⟨.nil, by simp [State.loseSdram]⟩, ⟨⟨.nil, by simp [State.loseSdram]⟩, by simp [State.loseSdram]⟩,
    k.directory, k.residue, k.counts, k.recordsA, k.recordsB⟩,
    fun c => ⟨c.clip, c.stack, c.held, c.depth, c.excess, c.deep, c.shallow⟩, id⟩

theorem preserves_abandonDraw (s : State) : Preserves s s.abandonDraw := by
  unfold State.abandonDraw
  split
  · exact (Preserves.setPixels (s := s.useFree) fun h => writeTargets_wf h _).after rfl
  · exact .refl s

theorem preserves_resetRails (s : State) : Preserves s s.resetRails := by
  unfold State.resetRails
  split <;> exact .of_contents rfl

theorem preserves_resetTables (s : State) (keep : Bool) : Preserves s (s.resetTables keep) := by
  unfold State.resetTables
  split
  · exact .of_contents rfl
  · exact ⟨fun k => ⟨k.pixels, k.pool, .nil, k.residue, k.counts, .nil, .nil⟩,
      fun c => ⟨c.clip, c.stack, c.held, c.depth, c.excess, c.deep, c.shallow⟩, id⟩

theorem preserves_resetSensor (s : State) : Preserves s s.resetSensor :=
  (preserves_abandonRead s).trans
    ((preserves_startReadIfSensor { s.abandonRead with temp := { s.abandonRead.temp with failures := 0 } } _).after rfl)

/-- Every block but the pixels, rails, tables and sensor as a soft reset leaves it (R168). -/
def State.clearBlocks (s : State) : State :=
  { s with
    intake := ⟨[], s.intake.hold.afterReset⟩
    ev := Events.initial
    comp := Compose.initial s.window
    sched := Sched.initial
    scan := none }

/-- The pixels at a soft reset: the walks it stops have got on, its slots and its draw record are ended (R13, R50). -/
def State.settlePixels (s : State) : State := (slotIds.foldl State.resetSlotPixels (atCut s)).abandonDraw

theorem softReset_eq (s : State) (keep : Bool) :
    s.softReset keep = ((s.settlePixels.clearBlocks.resetRails).resetTables keep).resetSensor := by
  unfold State.softReset State.settlePixels atCut
  dsimp only
  generalize (slotIds.foldl State.resetSlotPixels _).abandonDraw = u
  rfl

theorem preserves_atCut (s : State) : Preserves s (atCut s) := by
  unfold atCut
  split
  · exact preserves_advanceWalks s
  · exact .refl s

theorem preserves_settlePixels (s : State) : Preserves s s.settlePixels :=
  ((preserves_atCut s).trans (.foldl preserves_resetSlotPixels slotIds _)).trans (preserves_abandonDraw _)

theorem preserves_clearBlocks (s : State) : Preserves s s.clearBlocks :=
  ⟨fun k => ⟨k.pixels, k.pool, k.directory, k.residue, k.counts, k.recordsA, k.recordsB⟩,
    fun _ => clipLegal_whole rfl rfl rfl rfl, id⟩

theorem preserves_softReset (s : State) (keep : Bool) : Preserves s (s.softReset keep) := by
  rw [softReset_eq]
  exact ((((preserves_settlePixels s).trans (preserves_clearBlocks _)).trans (preserves_resetRails _)).trans
    (preserves_resetTables _ keep)).trans (preserves_resetSensor _)

theorem preserves_resetRecord (s : State) (option : Nat) (keep : Bool) (body : Bytes) :
    Preserves s (s.resetRecord option keep body) := by
  unfold State.resetRecord
  split
  · exact .refl s
  · refine preserves_express fun s' => ?_
    split
    · exact .of_contents rfl
    · split
      · exact .of_contents rfl
      · exact preserves_softReset s' keep

/-! ### The commands -/

theorem preserves_decodeHeader (s : State) (target kind : Byte) (length : Nat) :
    Preserves s (s.decodeHeader target kind length) := by
  unfold State.decodeHeader
  dsimp only
  split
  · exact .of_contents rfl
  · split
    · exact .of_contents (by simp [State.contents])
    · have shown : Preserves s (if kind = RecordKind.fetchlive.code then (s.setMiso []).advanceShown
          else s.setMiso []) := by
        split
        · exact (preserves_advanceShown (s.setMiso [])).after rfl
        · exact .of_contents rfl
      split
      · exact shown.andThen rfl
      · exact shown.andThen rfl

theorem preserves_withRead {s : State} {area : Area} {f : Bytes → State} (h : ∀ body, Preserves s (f body)) :
    Preserves s (s.withRead area f) := by
  refine preserves_withHead fun body => ?_
  split
  · exact preserves_refuseHead s _ _
  · split
    · exact preserves_refuseHead s _ _
    · split
      · exact .refl s
      · split
        · exact preserves_refuseHead s _ _
        · exact h body

theorem preserves_ifRoom {s t : State} (h : Preserves s t) : Preserves s (s.ifRoom t) := by
  unfold State.ifRoom
  split
  · exact preserves_refuseHead s _ _
  · exact h

theorem preserves_withRailctl {s : State} {action : Nat} {t : State} (h : Preserves s t) :
    Preserves s (s.withRailctl action t) := by
  refine preserves_withHead fun body => ?_
  split
  · exact preserves_refuseHead s _ _
  · split
    · exact preserves_refuseHead s _ _
    · split
      · exact .refl s
      · exact h

theorem preserves_withTempset {s : State} {source : Source} {f : Int → State} (h : ∀ z, Preserves s (f z)) :
    Preserves s (s.withTempset source f) := by
  refine preserves_withHead fun body => ?_
  split
  · exact preserves_refuseHead s _ _
  · split
    · exact preserves_refuseHead s _ _
    · split
      · exact .refl s
      · exact h _

theorem preserves_withSleep {s : State} {option : Nat} {t : State} (h : Preserves s t) :
    Preserves s (s.withSleep option t) := by
  refine preserves_withHead fun body => ?_
  split
  · exact .refl s
  · split
    · exact preserves_refuseHead s _ _
    · split
      · exact preserves_refuseHead s _ _
      · split
        · exact .refl s
        · split
          · exact preserves_refuseHead s _ _
          · exact h

theorem preserves_cancelRequests (s : State) (tag : Byte) : Preserves s (s.cancelRequests tag) := by
  unfold State.cancelRequests
  dsimp only
  rw [tellRequests_eq]
  split <;> exact .of_contents rfl

theorem preserves_cancelTag (s : State) (tag : Byte) : Preserves s (s.cancelTag tag) := by
  have walked : Preserves s
      (if s.anySlot fun sl => sl.isArmed && decide (sl.tag = tag) then s.advanceWalks else s) := by
    split
    · exact preserves_advanceWalks s
    · exact .refl s
  have slots := walked.trans (.foldl (preserves_cancelSlot tag) slotIds _)
  have held := (slots.trans (preserves_cancelRequests _ tag)).trans (preserves_holdIfLeft _ s.anyDriving)
  unfold State.cancelTag
  dsimp only
  split
  · exact held.trans (preserves_continuePass _)
  · exact held

theorem preserves_haltAll (s : State) : Preserves s s.haltAll := by
  unfold State.haltAll
  dsimp only
  rw [tellRequests_eq]
  refine .trans ?_ (preserves_holdIfLeft _ _)
  refine .trans (t := s.cutSlots) (preserves_cutSlots s) (.of_contents ?_)
  rw [endPass_frame]
  split <;> rfl

theorem preserves_resolveAndAdmit (s : State) (r : Request) (unknownSeen : Bool) :
    Preserves s (s.resolveAndAdmit r unknownSeen) := by
  unfold State.resolveAndAdmit
  split
  · exact preserves_enterSlot s r _ _ _
  · refine .trans ?_ (preserves_continuePass _)
    exact (preserves_notify (s.setRequests _) _ _).after rfl
  · exact preserves_endPass s

theorem preserves_endLatch (s : State) (i : Fin 16) : Preserves s (s.endLatch i) := by
  unfold State.endLatch
  split
  · exact .refl s
  · rename_i sl _
    dsimp only
    refine (preserves_setFlagIf s (decide (0 < sl.skipped)) .collide).trans ?_
    split
    · exact (preserves_releaseSlot _ i sl _).andThen rfl
    · split
      · exact (preserves_releaseSlot _ i sl _).andThen rfl
      · exact (preserves_onArmed _).after rfl

theorem panelLegal_initial : PanelLegal Panel.initial := by constructor <;> decide

/-- Whatever state a command answers, it preserves what `Preserves` names. -/
def Answers (s : State) (o : Outcome State Fault Refusal) : Prop := ∀ t, o = .next t → Preserves s t

theorem Answers.next {s t : State} (h : Preserves s t) : Answers s (.next t) := fun u e => by
  injection e with e; exact e ▸ h

theorem execPinReset_preserves (s : State) : Answers s (execPinReset s) :=
  .next ⟨fun k => ⟨⟨.nil, by simp [State.reset]⟩, k.pool, .nil, ⟨.nil, by simp [State.reset]⟩, by simp [State.reset],
    .nil, .nil⟩, fun _ => clipLegal_whole rfl rfl rfl rfl, fun _ => panelLegal_initial⟩

theorem execResetNRelease_preserves (a0 a1 : Bool) (s : State) : Answers s (execResetNRelease a0 a1 s) :=
  .next (by split <;> exact .of_contents rfl)

theorem execStartingEnd_preserves (s : State) : Answers s (execStartingEnd s) := by
  refine .next ?_
  split
  · exact (Preserves.setPixels (m := []) fun _ => ⟨.nil, by simp⟩).trans
      ((preserves_startReadIfSensor _ _).after rfl)
  · exact .refl s

theorem execHeaderDecode_preserves (counted : Bool) (target kind : Byte) (length : BitVec 16) (s : State) :
    Answers s (execHeaderDecode counted target kind length s) := by
  refine .next ?_
  split
  · exact .refl s
  · exact preserves_decodeHeader s _ _ _

theorem execRecordReceived_preserves (body : Bytes) (s : State) : Answers s (execRecordReceived body s) := by
  refine .next (preserves_csRise fun rx s' => ?_)
  split
  · exact .of_contents rfl
  · exact preserves_endUntaken s' rx

theorem execFramingError_preserves (cut : FramingCut) (s : State) : Answers s (execFramingError cut s) := by
  refine .next ?_
  split
  · split
    · exact .refl s
    · split <;> exact .of_contents (by simp [State.contents])
  · split
    · exact .refl s
    · exact .of_contents (by simp [State.contents])

theorem execUnknownKind_preserves (s : State) : Answers s (execUnknownKind s) := by
  refine .next ?_
  split
  · split
    · exact .refl s
    · split <;> exact .of_contents rfl
  · exact .refl s

theorem execFill_preserves (s : State) : Answers s (execFill s) :=
  .next (preserves_withDraw fun body => by split <;> exact .of_contents rfl)

theorem execText_preserves (s : State) : Answers s (execText s) := by
  refine .next (preserves_withDraw fun body => ?_)
  split
  · exact .of_contents rfl
  · split
    · exact .of_contents rfl
    · exact (preserves_startText s.pop _).after rfl

theorem execHilite_preserves (s : State) : Answers s (execHilite s) := by
  refine .next (preserves_withDraw fun body => ?_)
  split
  · exact .of_contents rfl
  · split <;> exact .of_contents rfl

theorem execCopy_preserves (s : State) : Answers s (execCopy s) :=
  .next (preserves_withDraw fun body => by split <;> exact .of_contents rfl)

theorem execClippush_preserves (s : State) : Answers s (execClippush s) := by
  refine .next (preserves_withDraw fun body => ?_)
  split
  · exact .of_contents rfl
  · rename_i rect _
    exact ((preserves_setClips (s := s.pop) fun h => clipLegal_push (s := s.pop) h rect).trans
      (preserves_setFlagIf _ _ _)).after rfl

theorem execClippop_preserves (s : State) : Answers s (execClippop s) := by
  refine .next (preserves_withDraw fun body => ?_)
  split
  · exact .of_contents rfl
  · exact ((preserves_setClips (s := s.pop) fun h => clipLegal_popClip (s := s.pop) h).trans
      (preserves_setFlagIf _ _ _)).after rfl

theorem execClipreset_preserves (s : State) : Answers s (execClipreset s) := by
  refine .next (preserves_withDraw fun body => ?_)
  split
  · exact .of_contents rfl
  · exact (preserves_setClips (s := s.pop) fun _ => clipLegal_whole rfl rfl rfl rfl).after rfl

theorem execDrawEnd_preserves (s : State) : Answers s (execDrawEnd s) := by
  refine .next ?_
  split
  · rename_i kind writes _
    have drawn : Preserves s (s.setPixels (writeTargets s.store.pixels writes)) :=
      .setPixels fun h => writeTargets_wf h writes
    dsimp only
    split
    · exact drawn.andThen (by simp [State.contents])
    · exact drawn.andThen rfl
    · exact drawn.andThen rfl
    · exact drawn.andThen rfl
  · exact .refl s

theorem execFontdef_preserves (s : State) : Answers s (execFontdef s) :=
  .next (preserves_withTable fun body => by split <;> exact .of_contents rfl)

theorem execFontdrop_preserves (s : State) : Answers s (execFontdrop s) := by
  refine .next (preserves_withTable fun body => ?_)
  split
  · exact .of_contents rfl
  · exact (Preserves.setTables (s := s.pop) (tb := s.tables.fontdrop _) id fun h => h.filter _).after rfl

theorem execGlyphput_preserves (s : State) : Answers s (execGlyphput s) := by
  refine .next (preserves_withTable fun body => ?_)
  split
  · exact .of_contents rfl
  · exact (preserves_accept s _).andThen rfl

theorem execGlyphWriteEnd_preserves (s : State) : Answers s (execGlyphWriteEnd s) := by
  refine .next ?_
  split
  · exact .refl s
  · rename_i g _
    refine (preserves_commit s g).trans ?_
    dsimp only
    split
    · exact preserves_startText _ _
    · exact .of_contents rfl
    · exact .refl _

theorem execGlyphdrop_preserves (s : State) : Answers s (execGlyphdrop s) := by
  refine .next (preserves_withTable fun body => ?_)
  split
  · exact .of_contents rfl
  · exact (Preserves.setTables (s := s.pop) (tb := { s.tables with directory := Store.drop s.tables.directory _ }) id
      fun h => Store.sorted_drop h _).after rfl

theorem execKernload_preserves (s : State) : Answers s (execKernload s) :=
  .next (preserves_withTable fun body => by split <;> exact .of_contents rfl)

theorem execStyleset_preserves (s : State) : Answers s (execStyleset s) :=
  .next (preserves_withTable fun body => by split <;> exact .of_contents rfl)

theorem execWavebegin_preserves (s : State) : Answers s (execWavebegin s) := by
  refine .next (preserves_withHead fun body => ?_)
  split
  · exact .of_contents rfl
  · dsimp only
    split
    · exact .refl s
    · exact (Preserves.setBank (s := s.pop) _ fun _ => .nil).after rfl

theorem execWaveput_preserves (s : State) : Answers s (execWaveput s) := by
  refine .next (preserves_withHead fun body => ?_)
  split
  · exact .of_contents rfl
  · split
    · exact .refl s
    · exact (Preserves.setBank (s := s.pop) _ fun h => Store.sorted_put h _ _).after rfl

theorem execWavecommit_preserves (s : State) : Answers s (execWavecommit s) := by
  refine .next (preserves_withHead fun body => ?_)
  split
  · exact .of_contents rfl
  · split
    · exact .of_contents rfl
    · split
      · exact .of_contents rfl
      · exact (preserves_commitBank s.pop _).after rfl

theorem execUpdate_preserves (s : State) : Answers s (execUpdate s) := by
  refine .next (preserves_withHead fun body => ?_)
  split
  · exact .of_contents rfl
  · dsimp only
    split
    · exact (preserves_notify s.pop _ _).after rfl
    · split <;> exact .of_contents rfl

theorem execAdmissionPass_preserves (s : State) : Answers s (execAdmissionPass s) := by
  refine .next ?_
  split
  · refine .trans (.of_contents ?_) (preserves_continuePass _)
    unfold State.beginPass
    dsimp only
    split <;> rfl
  · exact .refl s

theorem execLatchEnd_preserves (s : State) : Answers s (execLatchEnd s) := by
  refine .next ?_
  split
  · split
    · exact .refl s
    · dsimp only
      refine (preserves_freeAdvanceRead s).trans ?_
      split
      · exact ((preserves_advancePass _ _).trans (preserves_endLatch _ _)).trans (preserves_continuePass _)
      · exact .refl _
  · exact .refl s

theorem preserves_trigger (s : State) : Preserves s s.trigger := .of_contents rfl

theorem preserves_nextFrame (s : State) : Preserves s s.nextFrame := by
  unfold State.nextFrame
  split
  · exact .of_contents rfl
  · exact (preserves_startHold _).after rfl

theorem execFrameEnd_preserves (s : State) : Answers s (execFrameEnd s) := by
  refine .next ?_
  split
  · exact (((preserves_advanceWalks s).trans (.foldl preserves_frameSlot slotIds _)).trans
      (preserves_trigger _)).trans (preserves_nextFrame _)
  · exact .refl s

theorem execCancel_preserves (body : Bytes) (s : State) : Answers s (execCancel body s) := by
  refine .next (preserves_express fun s' => ?_)
  split
  · exact .of_contents rfl
  · exact preserves_cancelTag s' _

theorem execHalt_preserves (body : Bytes) (s : State) : Answers s (execHalt body s) := by
  refine .next (preserves_express fun s' => ?_)
  split
  · exact .of_contents rfl
  · exact preserves_haltAll s'

theorem execPanelset_preserves (s : State) : Answers s (execPanelset s) := by
  refine .next (preserves_withHead fun body => ?_)
  split
  · exact .of_contents rfl
  · rename_i p hp
    split
    · exact .refl s
    · split
      · rename_i hw
        exact ((preserves_setPanel (s := s.pop) (panelLegal_of_parse hp) hw).after (s := s) rfl).andThen rfl
      · exact (preserves_geometryChange (s := s.pop) (panelLegal_of_parse hp)).after rfl

theorem execReinitEnd_preserves (s : State) : Answers s (execReinitEnd s) :=
  .next (by split <;> exact .of_contents rfl)

theorem execRailctlOff_preserves (s : State) : Answers s (execRailctlOff s) := by
  refine .next (preserves_withRailctl ?_)
  split
  · exact .refl s
  · split <;> exact .of_contents rfl

theorem execRailctlClear_preserves (s : State) : Answers s (execRailctlClear s) :=
  .next (preserves_withRailctl (by split <;> exact .of_contents rfl))

theorem execPgoodAsserted_preserves (s : State) : Answers s (execPgoodAsserted s) := by
  refine .next ?_
  split
  · exact (preserves_reachOn _).after rfl
  · exact .of_contents rfl

theorem execPgoodLost_preserves (s : State) : Answers s (execPgoodLost s) := by
  refine .next ?_
  split
  · exact (preserves_enterFault _).after rfl
  · exact .of_contents rfl

theorem execRiseTimerExpiry_preserves (s : State) : Answers s (execRiseTimerExpiry s) := by
  refine .next ?_
  split
  · exact preserves_enterFault s
  · exact .refl s

theorem execHoldTimerExpiry_preserves (s : State) : Answers s (execHoldTimerExpiry s) :=
  .next (by split <;> exact .of_contents rfl)

theorem execFallTimerExpiry_preserves (s : State) : Answers s (execFallTimerExpiry s) := by
  refine .next ?_
  split
  · dsimp only
    split
    · exact (preserves_enterRising _).after rfl
    · exact .of_contents rfl
  · exact .refl s

theorem execTempsetFixed_preserves (s : State) : Answers s (execTempsetFixed s) := by
  refine .next (preserves_withTempset fun z => ?_)
  exact (preserves_recomputeBand _).after (contents_tempset s.pop .fixed)

theorem execTempsetSensor_preserves (s : State) : Answers s (execTempsetSensor s) := by
  refine .next ?_
  exact preserves_withTempset fun _ => .of_contents (contents_tempset s.pop .sensor)

theorem execSampleIntervalExpiry_preserves (s : State) : Answers s (execSampleIntervalExpiry s) :=
  .next (by split <;> exact .of_contents rfl)

theorem execSensorReadEnd_preserves (raw : Byte × Byte) (s : State) : Answers s (execSensorReadEnd raw s) := by
  refine .next ?_
  split
  · exact (preserves_recomputeBand _).after rfl
  · exact .refl s

theorem execSensorNoAck_preserves (s : State) : Answers s (execSensorNoAck s) := by
  refine .next ?_
  split
  · exact preserves_failRead s _
  · exact .refl s

theorem execSensorReadTimeout_preserves (s : State) : Answers s (execSensorReadTimeout s) := by
  refine .next ?_
  split
  · exact (preserves_failRead s.useFree _).after rfl
  · exact .refl s

theorem execEvmask_preserves (s : State) : Answers s (execEvmask s) :=
  .next (preserves_withHead fun body => by split <;> exact .of_contents rfl)

theorem execEvclear_preserves (s : State) : Answers s (execEvclear s) := by
  refine .next (preserves_withHead fun body => ?_)
  split
  · exact .of_contents rfl
  · exact (Preserves.of_contents (contents_freeMisses s)).andThen rfl

theorem execReadGlyph_preserves (s : State) : Answers s (execReadGlyph s) := by
  refine .next (preserves_withRead fun body => ?_)
  dsimp only
  split
  · exact .refl s
  · split
    · exact .of_contents rfl
    · exact preserves_ifRoom (by split <;> exact .of_contents rfl)

theorem execReadGlyphEnd_preserves (s : State) : Answers s (execReadGlyphEnd s) :=
  .next (by split <;> exact .of_contents rfl)

theorem execReadKern_preserves (s : State) : Answers s (execReadKern s) := by
  refine .next (preserves_withRead fun body => ?_)
  split
  · exact .refl s
  · split
    · exact .of_contents rfl
    · exact preserves_ifRoom (.of_contents rfl)

theorem execReadStyle_preserves (s : State) : Answers s (execReadStyle s) := by
  refine .next (preserves_withRead fun body => ?_)
  split
  · exact .refl s
  · exact preserves_ifRoom (.of_contents rfl)

theorem execReadWave_preserves (s : State) : Answers s (execReadWave s) := by
  refine .next (preserves_withRead fun body => ?_)
  split
  · exact .of_contents rfl
  · exact preserves_ifRoom (.of_contents rfl)

theorem execReadResidue_preserves (s : State) : Answers s (execReadResidue s) :=
  .next (preserves_withRead fun _ => preserves_ifRoom (.of_contents rfl))

theorem execReadPixels_preserves (s : State) : Answers s (execReadPixels s) := by
  refine .next (preserves_withRead fun body => ?_)
  split
  · exact .refl s
  · split
    · exact .of_contents rfl
    · exact preserves_ifRoom (.of_contents rfl)

theorem execReadPixelsEnd_preserves (s : State) : Answers s (execReadPixelsEnd s) := by
  refine .next ?_
  split
  · rename_i r _
    have read := preserves_readMany r.todo.length s
    dsimp only
    split
    · exact read.andThen rfl
    · exact read
  · exact .refl s

theorem execSleep_preserves (s : State) : Answers s (execSleep s) :=
  .next (preserves_withSleep (preserves_fallAsleep s _))

theorem execSleepDeep_preserves (s : State) : Answers s (execSleepDeep s) :=
  .next (preserves_withSleep ((preserves_fallAsleep s _).trans (preserves_loseSdram _)))

theorem execWake_preserves (body : Bytes) (s : State) : Answers s (execWake body s) := by
  refine .next (preserves_csRise fun rx s' => ?_)
  split
  · unfold State.matchWake
    split
    · split <;> exact .of_contents rfl
    · exact .refl s'
  · exact preserves_endUntaken s' rx

theorem execWakingEnd_preserves (s : State) : Answers s (execWakingEnd s) := by
  refine .next ?_
  split
  · rename_i fromDeep _
    have woken : Preserves s (if fromDeep then s.rebuildAfterDeep else s) := by
      split
      · exact preserves_rebuildAfterDeep s
      · exact .refl s
    exact woken.trans ((preserves_startReadIfSensor _ _).after rfl)
  · exact .refl s

theorem execReset_preserves (body : Bytes) (s : State) : Answers s (execReset body s) :=
  .next (preserves_resetRecord s _ _ _)

theorem execResetKeepTables_preserves (body : Bytes) (s : State) : Answers s (execResetKeepTables body s) :=
  .next (preserves_resetRecord s _ _ _)

theorem execFetchlive_preserves (s : State) : Answers s (execFetchlive s) := by
  refine .next ?_
  split
  · exact .refl s
  · split <;> exact .of_contents rfl

theorem execFetchqueue_preserves (s : State) : Answers s (execFetchqueue s) := by
  refine .next ?_
  split
  · exact .refl s
  · split
    · exact .of_contents rfl
    · dsimp only
      split <;> exact .of_contents rfl
    · split
      · exact (preserves_endUntaken (s.setRx none) _).after rfl
      · exact .refl s

theorem execResolutionPixelReadsEnd_preserves (s : State) : Answers s (execResolutionPixelReadsEnd s) := by
  refine .next ?_
  split
  · split
    · exact (preserves_continuePass _).after rfl
    · exact .of_contents rfl
  · exact preserves_resolveAndAdmit s _ _
  · exact .refl s

/-- Every command keeps the canonical lists canonical, the clips legal and the panel fields in their ranges. -/
theorem exec_preserves (c : Instr) (s : State) : Answers s (exec c s) := by
  cases c with
  | pinReset => exact execPinReset_preserves s
  | resetNRelease a0 a1 => exact execResetNRelease_preserves a0 a1 s
  | startingEnd => exact execStartingEnd_preserves s
  | headerDecode counted target kind length => exact execHeaderDecode_preserves counted target kind length s
  | recordReceived body => exact execRecordReceived_preserves body s
  | framingError cut => exact execFramingError_preserves cut s
  | unknownKind => exact execUnknownKind_preserves s
  | fill => exact execFill_preserves s
  | text => exact execText_preserves s
  | hilite => exact execHilite_preserves s
  | copy => exact execCopy_preserves s
  | clippush => exact execClippush_preserves s
  | clippop => exact execClippop_preserves s
  | clipreset => exact execClipreset_preserves s
  | drawEnd => exact execDrawEnd_preserves s
  | fontdef => exact execFontdef_preserves s
  | fontdrop => exact execFontdrop_preserves s
  | glyphput => exact execGlyphput_preserves s
  | glyphWriteEnd => exact execGlyphWriteEnd_preserves s
  | glyphdrop => exact execGlyphdrop_preserves s
  | kernload => exact execKernload_preserves s
  | styleset => exact execStyleset_preserves s
  | wavebegin => exact execWavebegin_preserves s
  | waveput => exact execWaveput_preserves s
  | wavecommit => exact execWavecommit_preserves s
  | update => exact execUpdate_preserves s
  | admissionPass => exact execAdmissionPass_preserves s
  | latchEnd => exact execLatchEnd_preserves s
  | frameEnd => exact execFrameEnd_preserves s
  | cancel body => exact execCancel_preserves body s
  | halt body => exact execHalt_preserves body s
  | panelset => exact execPanelset_preserves s
  | reinitEnd => exact execReinitEnd_preserves s
  | railctlOff => exact execRailctlOff_preserves s
  | railctlClear => exact execRailctlClear_preserves s
  | pgoodAsserted => exact execPgoodAsserted_preserves s
  | pgoodLost => exact execPgoodLost_preserves s
  | riseTimerExpiry => exact execRiseTimerExpiry_preserves s
  | holdTimerExpiry => exact execHoldTimerExpiry_preserves s
  | fallTimerExpiry => exact execFallTimerExpiry_preserves s
  | tempsetFixed => exact execTempsetFixed_preserves s
  | tempsetSensor => exact execTempsetSensor_preserves s
  | sampleIntervalExpiry => exact execSampleIntervalExpiry_preserves s
  | sensorReadEnd raw => exact execSensorReadEnd_preserves raw s
  | sensorNoAck => exact execSensorNoAck_preserves s
  | sensorReadTimeout => exact execSensorReadTimeout_preserves s
  | evmask => exact execEvmask_preserves s
  | evclear => exact execEvclear_preserves s
  | readGlyph => exact execReadGlyph_preserves s
  | readGlyphEnd => exact execReadGlyphEnd_preserves s
  | readKern => exact execReadKern_preserves s
  | readStyle => exact execReadStyle_preserves s
  | readWave => exact execReadWave_preserves s
  | readResidue => exact execReadResidue_preserves s
  | readPixels => exact execReadPixels_preserves s
  | readPixelsEnd => exact execReadPixelsEnd_preserves s
  | sleep => exact execSleep_preserves s
  | sleepDeep => exact execSleepDeep_preserves s
  | wake body => exact execWake_preserves body s
  | wakingEnd => exact execWakingEnd_preserves s
  | reset body => exact execReset_preserves body s
  | resetKeepTables body => exact execResetKeepTables_preserves body s
  | fetchlive => exact execFetchlive_preserves s
  | fetchqueue => exact execFetchqueue_preserves s
  | resolutionPixelReadsEnd => exact execResolutionPixelReadsEnd_preserves s

/-- Every step keeps what `Preserves` names. -/
theorem step_preserves {s t : State} (h : step s = .next t) : Preserves s t := by
  unfold step at h
  split at h
  · injection h with h; subst h; exact .refl s
  · exact (exec_preserves _ _ t h).after rfl

/-- Settles O53: each operation of the model keeps the canonical lists, and every command is made of them. -/
theorem stepKeepsStoresCanonical : Obligations.StepKeepsStoresCanonical := fun _ _ hs h =>
  (step_preserves h).stores hs

/-- Settles O54: only the clip records, PANELSET and the resets touch the clip state, and each leaves it legal. -/
theorem stepKeepsClipInWindow : Obligations.StepKeepsClipInWindow := fun _ _ hc hp h =>
  ⟨(step_preserves h).clip hc, (step_preserves h).panel hp⟩

end Sys2Proof.Machine
end

section
/-! SUPPORT. The reset state, refusals at the intake head, the drives of a frame, and the records and timers that
act on one block alone. -/

namespace Sys2Proof.Machine

open Host (Outcome)

/-! ### The state after reset -/

theorem reset_slot (i : Fin 16) : State.reset.slot i = none := by
  simp [State.slot, State.reset, Sched.initial]

theorem reset_font (n : Nat) : State.reset.tables.font n = none := by
  simp only [Tables.font, State.reset, Tables.emptied]
  cases h : (Vector.replicate 8 (none : Option Font))[n]? with
  | none => rfl
  | some f => simp [Vector.getElem?_replicate] at h; simp [h.2]

/-- Settles O60: after reset no slot is busy, every list is empty and every field has its pin-reset value. -/
theorem resetIsSafe : Obligations.ResetIsSafe := by
  refine ⟨⟨?stores, panelLegal_initial, clipLegal_whole rfl rfl rfl rfl, ?queues, ?banks, ?owners, ?rails, ?pool,
    ?quiet, ?asserted, ?temperature, ?pen⟩, ?fonts, ?pass⟩
  case stores => exact ⟨⟨.nil, by simp [State.reset]⟩, Memory.wf_reset, .nil, ⟨.nil, by simp [State.reset]⟩,
    by simp [State.reset], .nil, .nil⟩
  case queues => exact ⟨by decide, by decide, by decide⟩
  case banks =>
    have budget : Bank.initial.inBudget := by
      refine ⟨by decide, by decide, by decide, by simp [Bank.initial], .nil, by simp [Bank.initial], ?_, ?_⟩ <;>
        decide
    exact ⟨by decide, by decide, ⟨budget, budget⟩, fun b _ => by cases b <;> rfl, by simp [reset_slot],
      by simp [reset_slot], by simp [reset_slot]⟩
  case owners => exact ⟨by simp [State.reset], by simp [reset_slot], by simp [reset_slot], by simp [State.reset],
    by simp [reset_slot], by simp [State.reset, Sched.initial], by simp [State.reset, Sched.initial]⟩
  case rails => exact ⟨by simp [reset_slot], by simp [State.reset], by simp [reset_slot],
    by simp [State.reset], by simp [State.reset], by simp [State.reset], by simp [State.reset]⟩
  case pool => exact ⟨.nil, .nil, by simp [State.reset, Tables.emptied, Tables.held],
    by simp [State.reset, Tables.emptied], by simp [State.reset, Tables.emptied],
    by simp [State.reset, Tables.emptied], by decide, by simp [State.reset, Tables.emptied]⟩
  case quiet => exact fun _ => ⟨rfl, reset_slot, ⟨rfl, rfl⟩, ⟨rfl, rfl⟩, ⟨.inl rfl, rfl⟩, ⟨rfl, rfl⟩,
    by simp [State.reset]⟩
  case asserted => exact fun _ => rfl
  case temperature => exact ⟨by decide, by decide, by simp [State.reset, Thermal.initial],
    by simp [State.reset, Thermal.initial], fun _ => .inl rfl⟩
  case pen => exact ⟨by simp [penRange, State.reset, Compose.initial], by simp [State.reset, Compose.initial],
    by simp [State.reset, Compose.initial]⟩
  case fonts =>
    refine ⟨by simp [reset_font], by simp [reset_font], by simp [reset_font], by simp [reset_font], fun st h => ?_⟩
    simp only [State.reset, Tables.emptied, Vector.toList_replicate] at h
    rw [List.eq_of_mem_replicate h]; decide
  case pass => exact ⟨by simp [State.reset, Sched.initial], by simp [State.reset], by simp [State.reset]⟩

/-! ### Refusals at the intake head (R158, R160) -/

theorem ofCode_eq_none {c : Byte} (h : ∀ k : RecordKind, k.code ≠ c) : RecordKind.ofCode c = none :=
  List.find?_eq_none.mpr fun k _ => by simpa using h k

/-- A dispatch whose checks refuse the head record. -/
theorem withHead_refuses {s : State} {k : RecordKind} {body : Bytes} {rest : List Record} {f : Bytes → State}
    {r : Reason} (h : Dispatches s k body rest) (hf : f body = s.refuseHead k r) :
    (.next (s.withHead k f) : Outcome State Fault Refusal) = .next (refusedAt s k r rest) := by
  rw [withHead_of_dispatches h, hf, refuseHead_eq_refusedAt h]

theorem drawWaits_eq_false {s : State} : s.drawWaits = false ↔ s.comp.draw = none ∧ s.latching = false := by
  simp [State.drawWaits]

theorem drawWaits_of_not_lengthWaits {s : State} {k : RecordKind} (h : ¬ lengthWaits k s)
    (hk : k ∈ [.fill, .copy, .clippush, .clippop, .clipreset]) : s.drawWaits = false := by
  by_contra hw
  refine h (.inl ⟨hk, ?_⟩)
  simpa only [State.drawWaits, Bool.not_eq_false, Bool.or_eq_true] using hw

theorem tableFree_of_not_lengthWaits {s : State} {k : RecordKind} (h : ¬ lengthWaits k s)
    (hk : k ∈ [.fontdef, .fontdrop, .glyphdrop, .styleset]) : s.tableBusy = false := by
  by_contra hw
  exact h (.inr (.inl ⟨hk, by simpa using hw⟩))

theorem sleepWaits_of_not_lengthWaits {s : State} (h : ¬ lengthWaits .sleep s) :
    (s.comp.draw.isSome || s.tableBusy) = false := by
  by_contra hw
  exact h (.inr (.inr ⟨rfl, by simpa only [Bool.not_eq_false, Bool.or_eq_true] using hw⟩))

/-- Settles O6: past the wait of the record's own kind each meaning checks the length first. -/
theorem headRefusalsLeaveTheQueue : Obligations.HeadRefusalsLeaveTheQueue := by
  refine ⟨fun s r rest hp hh hq hk => ?_, fun e he s body rest hd hw hl => ?_⟩
  · have hpop : s.pop = taken s rest := by unfold State.pop taken; rw [hq, ← hh]; rfl
    show Outcome.next _ = _
    simp only [hp, hh, hq, ofCode_eq_none hk, hpop]
    rfl
  · simp only [fixedLengths, List.mem_cons, List.not_mem_nil, or_false] at he
    rcases he with rfl | rfl | rfl | rfl | rfl | rfl | rfl | rfl | rfl | rfl | rfl | rfl | rfl | rfl | rfl | rfl |
      rfl | rfl | rfl | rfl
    · exact withHead_refuses hd (by simp [parseFill, drawWaits_of_not_lengthWaits hw (by simp), hl])
    · exact withHead_refuses hd (by simp [parseCopy, drawWaits_of_not_lengthWaits hw (by simp), hl])
    · exact withHead_refuses hd (by simp [parseClippush, drawWaits_of_not_lengthWaits hw (by simp), hl])
    · exact withHead_refuses hd (by simp [parseEmpty, drawWaits_of_not_lengthWaits hw (by simp), hl])
    · exact withHead_refuses hd (by simp [parseEmpty, drawWaits_of_not_lengthWaits hw (by simp), hl])
    · exact withHead_refuses hd (by simp [parseFontdef, tableFree_of_not_lengthWaits hw (by simp), hl])
    · exact withHead_refuses hd (by simp [parseFontdrop, tableFree_of_not_lengthWaits hw (by simp), hl])
    · exact withHead_refuses hd (by simp [parseGlyphdrop, tableFree_of_not_lengthWaits hw (by simp), hl])
    · exact withHead_refuses hd (by simp [parseStyleset, tableFree_of_not_lengthWaits hw (by simp), hl])
    · exact withHead_refuses hd (by simp [parseEmpty, hl])
    · exact withHead_refuses hd (by simp [parseUpdate, hl])
    · exact withHead_refuses hd (by simp [parsePanelset, hl])
    · exact withHead_refuses hd (by simp [hl])
    · exact withHead_refuses hd (by simp [hl])
    · exact withHead_refuses hd (by simp [hl])
    · exact withHead_refuses hd (by simp [hl])
    · exact withHead_refuses hd (by simp [parseFlags, hl])
    · exact withHead_refuses hd (by simp [parseFlags, hl])
    · exact withHead_refuses hd (by simp [sleepWaits_of_not_lengthWaits hw, hl])
    · exact withHead_refuses hd (by simp [sleepWaits_of_not_lengthWaits hw, hl])

end Sys2Proof.Machine
end

section
/-! SUPPORT. The drives of a frame (R134), PANELSET (R6 to R9), the entry to SLEEP and DEEP (R148), TEXT (R35 to R49)
and READ of PIXELS (R14, R15). -/

namespace Sys2Proof.Machine

open Host (Outcome)

/-! ### Drives -/

/-- The drive that two bits of a matrix byte code: 01 darkens, 10 lightens, 00 and 11 do nothing (R76). -/
def driveOfBits (high low : Bool) : Drive :=
  match high, low with
  | false, true => .darken
  | true, false => .lighten
  | _, _ => .none

/-- The four drives of a byte, the first in its highest bits (R172). -/
theorem driveOf_eq_bits (drives : Bytes) (at0 d : Nat) : driveOf drives at0 d =
    driveOfBits ((u8 drives (at0 + d / 4)).testBit (7 - 2 * (d % 4)))
      ((u8 drives (at0 + d / 4)).testBit (6 - 2 * (d % 4))) := by
  unfold driveOf
  generalize u8 drives (at0 + d / 4) = n
  have hpos : (4 : Nat) ^ (3 - d % 4) = 2 ^ (6 - 2 * (d % 4)) := by
    rw [show (4 : Nat) = 2 ^ 2 from rfl, ← Nat.pow_mul]; congr 1; omega
  have hhigh : n.testBit (7 - 2 * (d % 4)) = (n / 2 ^ (6 - 2 * (d % 4))).testBit 1 := by
    rw [Nat.testBit_div_two_pow]; congr 1; omega
  have hlow : n.testBit (6 - 2 * (d % 4)) = (n / 2 ^ (6 - 2 * (d % 4))).testBit 0 := by
    rw [Nat.testBit_div_two_pow]; congr 1; omega
  rw [hpos, hhigh, hlow]
  generalize n / 2 ^ (6 - 2 * (d % 4)) = m
  have hbits : m.testBit 1 = decide (m % 4 / 2 = 1) ∧ m.testBit 0 = decide (m % 2 = 1) := by
    constructor
    · rw [Nat.testBit_eq_decide_div_mod_eq]; congr 1; simp only [eq_iff_iff]; omega
    · simp [Nat.testBit_zero]
  rw [hbits.1, hbits.2, show m % 2 = m % 4 % 2 by omega]
  have hlt : m % 4 < 4 := Nat.mod_lt _ (by decide)
  interval_cases m % 4 <;> rfl

/-- A drive depends on its matrix through the place it has in all of them together. -/
theorem driveOf_matrix (drives : Bytes) (index bytes d : Nat) :
    driveOf drives (index * bytes) d = driveOf drives 0 (4 * bytes * index + d) := by
  have hq : 0 + (4 * bytes * index + d) / 4 = index * bytes + d / 4 := by
    rw [show 4 * bytes * index + d = d + 4 * (index * bytes) by ring, Nat.add_mul_div_left _ _ (by decide)]; omega
  have hr : (4 * bytes * index + d) % 4 = d % 4 := by
    rw [show 4 * bytes * index + d = d + 4 * (index * bytes) by ring, Nat.add_mul_mod_self_left]
  rw [driveOf_eq_bits, driveOf_eq_bits, hq, hr]

/-- The drive of a pixel of a RUNNING slot is what its bank looks up (R134). -/
theorem drive_of_running {s : State} {k : Nat} {i : Fin 16} {sl : Slot} {index : Nat} (hf : s.scan.isSome = true)
    (ho : (s.pixel k).owner = some i) (hs : s.slot i = some sl) (hp : sl.phase = .running index) :
    s.drive k = (s.bank sl.bank).lookup sl.mode sl.band index k (s.pixel k) := by
  have hf : s.scan.isNone = false := by simpa using hf
  simp [State.drive, hf, ho, hs, hp]

/-- With no frame in progress, or where no RUNNING slot owns the pixel, the drive is NONE (R134). -/
theorem drive_eq_none {s : State} {k : Nat} (h : s.scan = none ∨ (s.pixel k).owner = none ∨
    ∃ i sl, (s.pixel k).owner = some i ∧ s.slot i = some sl ∧ sl.isRunning = false) : s.drive k = .none := by
  rcases h with h | h | ⟨i, sl, ho, hs, hr⟩
  · simp [State.drive, h]
  · simp [State.drive, h]
  · cases hp : sl.phase with
    | latching => simp [State.drive, ho, hs, hp]
    | armed => simp [State.drive, ho, hs, hp]
    | running index => simp [Slot.isRunning, hp] at hr

/-- What a frame's lookup reads from the record under the pinned key (R87). -/
theorem lookup_of_record {b : Bank} {m : Mode} {band index key : Nat} {v : WaveRec} {p : PixelRec}
    (hr : b.record m band = some v) (hi : index < v.frames) :
    (m = .clean → b.lookup m band index key p = driveOf v.drives 0 (16 * index + p.goal.val)) ∧
    ∀ t, m ≠ .clean → p.shown = some t →
      b.lookup m band index key p = driveOf v.drives 0 (256 * index + (16 * t.val + p.goal.val)) := by
  refine ⟨fun hm => ?_, fun t hm ht => ?_⟩
  · subst hm
    simp [Bank.lookup, hr, Nat.not_le.mpr hi, driveOf_matrix, matrixBytes]
  · simp [Bank.lookup, hr, Nat.not_le.mpr hi, hm, ht, driveOf_matrix, matrixBytes]

/-- Settles O51: an output receives NONE but where a RUNNING slot's pinned matrix gives a drive. -/
theorem frameDrivesFollowMatrix : Obligations.FrameDrivesFollowMatrix := by
  intro s col row k p drive
  have hdrive : ∀ drives d, drive drives d = driveOf drives 0 d := by
    intro drives d
    rw [driveOf_eq_bits, Nat.zero_add]; rfl
  refine ⟨fun h => ?_, fun i sl ho hs hr => ?_, fun i sl index v hf hc hl ho hs hp hrec hi => ?_⟩
  · unfold State.outputDrive
    split
    · rename_i hin
      rcases h with h | h | h | h
      · exact drive_eq_none (.inl h)
      · exact absurd hin.1 (Nat.not_lt.mpr h)
      · exact absurd hin.2 (Nat.not_lt.mpr h)
      · exact drive_eq_none (.inr (.inl h))
    · rfl
  · unfold State.outputDrive
    split
    · exact drive_eq_none (.inr (.inr ⟨i, sl, ho, hs, hr⟩))
    · rfl
  · have hout : s.outputDrive col row = (s.bank sl.bank).lookup sl.mode sl.band index k p := by
      unfold State.outputDrive
      rw [if_pos ⟨hc, hl⟩]
      exact drive_of_running hf ho hs hp
    obtain ⟨hclean, hother⟩ := lookup_of_record (key := k) (p := p) hrec hi
    refine ⟨fun hm => ?_, fun shown hm ht => ?_⟩
    · rw [hout, hclean hm, hdrive]
    · rw [hout, hother shown hm ht, hdrive]

/-! ### PANELSET (R6 to R9) -/

theorem clampNat_eq {lo hi : Nat} (h : lo ≤ hi) (n : Nat) : clampNat lo hi n = max lo (min hi n) := by
  unfold clampNat
  split
  · omega
  · split <;> omega

/-- The checks and clamps of a PANELSET (R6). -/
theorem parsePanelset_eq (b : Bytes) : parsePanelset b =
    if b.length ≠ 16 then .refuse .length
    else if u16 b 0 ≤ 6144 ∧ 8 ∣ u16 b 0 ∧ 64 ≤ u16 b 2 ∧ u16 b 2 ≤ 2048 ∧ 8 ∣ u16 b 2 ∧ 64 ≤ u16 b 4 ∧
        u16 b 4 ≤ 1664 then
      .ok ⟨u16 b 0, u16 b 2, u16 b 4, max 8000 (min 40000 (u16 b 6)), max 1 (min 100 (u8 b 8)),
        min 10000 (u16 b 9), max 1 (min 100 (u8 b 11)), u8 b 12 % 128, max 1 (min 600 (u16 b 13)),
        max 1 (min 15 (u8 b 15))⟩
    else .refuse .field := by
  unfold parsePanelset
  split
  · rfl
  · split
    · rw [if_neg (by omega)]
    · rw [if_pos (by omega)]
      simp only [clampNat_eq (show 8000 ≤ 40000 by decide), clampNat_eq (show 1 ≤ 100 by decide),
        clampNat_eq (show 0 ≤ 10000 by decide), clampNat_eq (show 1 ≤ 600 by decide),
        clampNat_eq (show 1 ≤ 15 by decide), Nat.zero_max]

theorem sameWindow_iff (p q : Panel) : p.sameWindow q = true ↔ p.window = q.window := by
  simp [Panel.sameWindow, Panel.window]

theorem anyBusy_eq_false {s : State} (h : ∀ i, s.slot i = none) : s.anyBusy = false := by
  simp [State.anyBusy, State.anySlot, h]

/-- A PANELSET that waits for nothing is taken (R7). -/
theorem panelset_taken {s : State} {body : Bytes} {rest : List Record} {p : Panel}
    (hd : Dispatches s .panelset body rest) (hp : parsePanelset body = .ok p) (hs : ∀ i, s.slot i = none)
    (hc : s.comp.draw = none)
    (hr : s.sched.pass = none) (hq : s.sched.passDue = false) : exec .panelset s =
      .next (if p.sameWindow s.store.panel then ((taken s rest).setPanel p).endSuspension
        else (taken s rest).geometryChange p) := by
  show Outcome.next _ = _
  rw [withHead_of_dispatches hd, hp, ← pop_eq_taken hd]
  simp [anyBusy_eq_false hs, hc, hr, hq]

/-- Settles O37: the checks come first; without a change of window only the timing fields change, with one the
window is reinitialized. -/
theorem panelsetTakesEffect : Obligations.PanelsetTakesEffect := by
  constructor
  · intro s hr
    show Outcome.next _ = _
    rw [if_pos hr]; rfl
  intro s body rest hd legal p
  refine ⟨fun hl => ?_, fun hl hw => ?_, fun hl hw hs hc hr hq => ?_⟩
  · exact withHead_refuses hd (by rw [parsePanelset_eq, if_pos hl])
  · exact withHead_refuses hd (by rw [parsePanelset_eq, if_neg (by simp [hl]), if_neg hw])
  · have hp : parsePanelset body = .ok p := by rw [parsePanelset_eq, if_neg (by simp [hl]), if_pos hw]
    have hexec := panelset_taken hd hp hs hc hr hq
    refine ⟨fun hsame => ?_, fun hdiff => ?_⟩
    · rw [hexec, if_pos ((sameWindow_iff p _).mpr hsame)]
      simp only [State.setPanel, State.endSuspension, taken, hq, Bool.false_or]
      rfl
    · rw [if_neg (by rw [sameWindow_iff]; exact hdiff)] at hexec
      refine ⟨_, hexec, fun k => rfl, fun n => rfl, ?_, ?_⟩
      · simp [State.geometryChange, State.setHold, taken, Compose.initial, hc]
      · show Outcome.next _ = _
        simp only [State.geometryChange, State.setHold, taken, State.endSuspension, hq, Bool.false_or, if_true]
        rfl

/-! ### SLEEP and DEEP (R148, R170) -/

/-- The entry to SLEEP or DEEP, each block as it leaves it. -/
theorem fallAsleep_eq (s : State) (p : Power) : s.fallAsleep p = { s with
    link := { s.link with rx := s.link.rx.map Rx.silence }
    intake := { s.intake with queue := [] }
    temp := { s.temp with readInFlight := none, timer := none, wire := s.temp.wire ++ s.abandonEvents }
    power := p
    freeCount := s.abandonRead.freeCount } := by
  unfold State.fallAsleep
  rw [abandonRead_eq]

theorem anyBusy_iff {s : State} : s.anyBusy = true ↔ ∃ i, (s.slot i).isSome = true := by
  simp [State.anyBusy, State.anySlot, slotIds]

theorem sleepBusy_iff {s : State} : s.sleepBusy = true ↔ (∃ i, (s.slot i).isSome = true) ∨
    s.sched.requests ≠ [] ∨ (s.rails.state ≠ .off ∧ s.rails.state ≠ .fault) := by
  simp only [State.sleepBusy, Bool.or_eq_true, anyBusy_iff, or_assoc]
  refine or_congr_right (or_congr (by simp) ?_)
  cases s.rails.state <;> simp

/-- A SLEEP record of one byte that waits for nothing (R148). -/
theorem withSleep_eq {s : State} {body : Bytes} {rest : List Record} (hd : Dispatches s .sleep body rest)
    (hc : s.comp.draw = none) (hb : s.tableBusy = false) (hl : body.length = 1) (option : Nat) (t : State) :
    s.withSleep option t = if 1 < u8 body 0 then refusedAt s .sleep .field rest
      else if u8 body 0 ≠ option then s
      else if s.sleepBusy = true then refusedAt s .sleep .busy rest else t := by
  unfold State.withSleep
  rw [withHead_of_dispatches hd]
  simp [hc, hb, hl, refuseHead_eq_refusedAt hd]

/-- With nothing queued and no record reserved in reception the intake queue is empty (R156, R170). -/
theorem intakeUsed_silenced {s : State} (hq : s.intake.queue = []) {o : Option Rx}
    (hl : s.link.rx = o.map Rx.silence) : s.intakeUsed = 0 := by
  unfold State.intakeUsed
  rw [hq, hl]
  cases o with
  | none => rfl
  | some rx =>
    obtain ⟨kind, target, length, flagged, disp⟩ := rx
    cases disp <;> rfl

/-- What an accepted SLEEP leaves, whatever it does to the SDRAM's two stores. -/
theorem asleep_shown {s t : State} {p : Power} {body : Bytes} {rest : List Record}
    (hd : Dispatches s .sleep body rest) (hp : p = .sleep ∨ p = .deep)
    (ht : t = { s.fallAsleep p with
      store := { s.store with pixels := t.store.pixels }
      tables := { s.tables with pool := t.tables.pool } }) :
    t.power = p ∧ t.intake = ⟨[], .free⟩ ∧ (s.link.resetAsserted = false → t.holdLine = false) ∧
    t.intakeUsed = 0 ∧
    t.temp = { s.temp with readInFlight := none, timer := none, wire := s.temp.wire ++ s.abandonEvents } ∧
    (s.link.rx = none → t.link.rx = none) ∧
    (∀ rx, s.link.rx = some rx → t.link.rx = some (if rx.disp = .reserved ∨ rx.disp = .express then
      { rx with disp := .silent } else rx)) ∧
    t = { s with
      link := { s.link with rx := t.link.rx }
      intake := t.intake, temp := t.temp, power := p, freeCount := t.freeCount
      store := { s.store with pixels := t.store.pixels }
      tables := { s.tables with pool := t.tables.pool } } := by
  rw [fallAsleep_eq] at ht
  have hlink : t.link = { s.link with rx := s.link.rx.map Rx.silence } := by rw [ht]
  have hintake : t.intake = ⟨[], .free⟩ := by rw [ht]; simp [hd.2.1]
  have hpower : t.power = p := by rw [ht]
  refine ⟨hpower, hintake, fun hr => ?_, ?_, by rw [ht], fun hn => ?_, fun rx hrx => ?_, ?_⟩
  · rcases hp with rfl | rfl <;> simp [State.holdLine, hlink, hr, hpower]
  · exact intakeUsed_silenced (by rw [hintake]) (o := s.link.rx) (by rw [hlink])
  · simp [hlink, hn]
  · simp [hlink, hrx, silence_eq]
  · conv_lhs => rw [ht]
    conv_rhs => rw [ht]

/-- Settles O47: past its checks a SLEEP empties the intake and stops the sensor in the one step that changes the
power state. -/
theorem sleepEntersPowerState : Obligations.SleepEntersPowerState := by
  intro s body rest c p option hc hd hdraw hbusy hl
  have hexec : ∃ t, exec c s = .next (s.withSleep option t) ∧ (p = .sleep ∨ p = .deep) ∧
      t = { s.fallAsleep p with
        store := { s.store with pixels := t.store.pixels }, tables := { s.tables with pool := t.tables.pool } } ∧
      (p = .sleep → t.store = s.store ∧ t.tables = s.tables) ∧
      (p = .deep → (∀ k, t.pixel k = ⟨none, 15, 15, none⟩) ∧ ∀ a, Memory.read t.tables.pool a = poolDefault) := by
    simp only [List.mem_cons, Prod.mk.injEq, List.not_mem_nil, or_false] at hc
    rcases hc with ⟨rfl, rfl, rfl⟩ | ⟨rfl, rfl, rfl⟩
    · refine ⟨_, rfl, .inl rfl, ?_, fun _ => ?_, fun h => by cases h⟩
      · rw [fallAsleep_eq]
      · rw [fallAsleep_eq]; exact ⟨rfl, rfl⟩
    · refine ⟨_, rfl, .inr rfl, ?_, (fun h => by cases h), fun _ => ⟨fun _ => rfl, fun _ => rfl⟩⟩
      rw [fallAsleep_eq]; rfl
  obtain ⟨t, hexec, hp, ht, hsleep, hdeep⟩ := hexec
  rw [withSleep_eq hd hdraw hbusy hl] at hexec
  refine ⟨fun hf => by rw [hexec, if_pos hf], ?_⟩
  intro ho busy
  have hoption : ¬ 1 < u8 body 0 := by
    simp only [List.mem_cons, Prod.mk.injEq, List.not_mem_nil, or_false] at hc
    omega
  rw [if_neg hoption, if_neg (by simp [ho])] at hexec
  refine ⟨fun hb => ?_, fun hb => ?_⟩
  · rw [hexec, if_pos (sleepBusy_iff.mpr hb)]
  · rw [if_neg (mt sleepBusy_iff.mp hb)] at hexec
    obtain ⟨h1, h2, h3, h4, h5, h6, h7, h8⟩ := asleep_shown hd hp ht
    exact ⟨t, s.abandonEvents, hexec, abandonEvents_cutOff s, h1, h2, h3, h4, h5, h6, h7, hsleep, hdeep, h8⟩

end Sys2Proof.Machine
end

section
/-! SUPPORT. TEXT and the end of a draw record (R35 to R49), and READ of PIXELS (R14, R15, R174). -/

namespace Sys2Proof.Machine

open Host (Outcome)

/-! ### Target writes -/

/-- A pixel takes the tone of the last write to it (R49). -/
theorem pixelAt_writeTargets_last (ws : List (Nat × Tone)) (m : List (Nat × PixelRec)) (k : Nat) :
    pixelAt (writeTargets m ws) k =
      ((ws.filter fun w => w.1 = k).getLast?.map fun w => { pixelAt m k with target := w.2 }).getD (pixelAt m k) := by
  induction ws using List.reverseRecOn with
  | nil => rfl
  | append_singleton ws w ih =>
    have hlast : writeTargets m (ws ++ [w]) = writeTarget (writeTargets m ws) w.1 w.2 := by
      simp [writeTargets, List.foldl_append]
    rw [hlast, pixelAt_writeTarget, List.filter_append]
    by_cases h : w.1 = k
    · obtain ⟨hs, hg, ho⟩ := pixelAt_writeTargets_fields ws m k
      simp [h, hs, hg, ho]
    · simp [h, ih]

theorem writeTargets_append (m : List (Nat × PixelRec)) (as bs : List (Nat × Tone)) :
    writeTargets m (as ++ bs) = writeTargets (writeTargets m as) bs := List.foldl_append

/-- A run's pixels are those it began with after its writes so far. -/
def Run.Agrees (m : List (Nat × PixelRec)) (r : Run) : Prop := r.pixels = writeTargets m r.writes

theorem Run.start_agrees (pen : Int) (m : List (Nat × PixelRec)) : Run.Agrees m ⟨pen, none, m, [], []⟩ := rfl

theorem Run.blendAt_agrees {m : List (Nat × PixelRec)} {r : Run} (h : r.Agrees m) (clip : Rect) (ink : Tone) (c : Nat)
    (x y : Int) : (r.blendAt clip ink c x y).Agrees m := by
  unfold Run.blendAt
  split
  · exact h
  · simp only [Run.Agrees] at h ⊢
    rw [writeTargets_append, ← h]; rfl

theorem Run.blendGlyph_agrees {m : List (Nat × PixelRec)} {r : Run} (h : r.Agrees m) (tb : Tables) (clip : Rect)
    (ink : Tone) (e : Entry) (left top : Int) : (r.blendGlyph tb clip ink e left top).Agrees m := by
  unfold Run.blendGlyph
  generalize List.range (e.width * e.height) = ns
  induction ns generalizing r with
  | nil => exact h
  | cons n ns ih => exact ih (Run.blendAt_agrees h ..)

theorem Run.code_agrees {m : List (Nat × PixelRec)} {r : Run} (h : r.Agrees m) (tb : Tables) (clip : Rect) (f : Font)
    (t : TextRec) (code : Nat) : (Run.code tb clip f t r code).Agrees m := by
  unfold Run.code
  split
  · exact h
  · exact Run.blendGlyph_agrees h ..

theorem Run.codes_agree {m : List (Nat × PixelRec)} (tb : Tables) (clip : Rect) (f : Font) (t : TextRec)
    (codes : List Nat) {r : Run} (h : r.Agrees m) : (codes.foldl (Run.code tb clip f t) r).Agrees m := by
  induction codes generalizing r with
  | nil => exact h
  | cons c codes ih => exact ih (Run.code_agrees h ..)

/-! ### The end of a draw record (R55) -/

theorem setFlagIf_ev (s : State) (c : Bool) (f : Flag) :
    (s.setFlagIf c f).ev = if c = true then (s.setFlag f).ev else s.ev := by cases c <;> rfl

theorem setFlagIf_frame (s : State) (c : Bool) (f : Flag) :
    s.setFlagIf c f = { s with ev := (s.setFlagIf c f).ev } := by
  cases c <;> rfl

/-- The pen register once a draw record that began with `pen` in it has ended (R48). -/
def DrawKind.penAfter (kind : DrawKind) (pen : Int) : Int :=
  match kind with
  | .text endPen _ _ => endPen
  | .fill => pen
  | .copy => pen
  | .hilite => pen

/-- DRAW_END of a draw record that writes: its writes are made, a TEXT's pen is set, and the lookups it had still to
make have set GLYPHMISS (R47, R48, R55). -/
theorem drawEnd_eq {s : State} {kind : DrawKind} {todo : List (Nat × Tone)}
    (h : s.comp.draw = some (.writing kind todo)) : exec .drawEnd s = .next { s with
      comp := { s.comp with draw := none, pen := kind.penAfter s.comp.pen }
      store := { s.store with pixels := writeTargets s.store.pixels todo }
      ev := if s.missesLeft = [] then s.ev else (s.setFlag .glyphmiss).ev } := by
  show Outcome.next _ = _
  simp only [h]
  cases kind with
  | fill => simp [State.missesLeft, h, State.setDraw, State.setPixels, DrawKind.penAfter]
  | copy => simp [State.missesLeft, h, State.setDraw, State.setPixels, DrawKind.penAfter]
  | hilite => simp [State.missesLeft, h, State.setDraw, State.setPixels, DrawKind.penAfter]
  | text pen made misses =>
    dsimp only
    rw [setFlagIf_frame, setFlagIf_ev]
    cases misses <;> simp [State.missesLeft, h, State.setDraw, State.setPixels, State.setFlag, DrawKind.penAfter]

/-! ### TEXT (R35 to R48) -/

theorem clampInt_eq {lo hi : Int} (h : lo ≤ hi) (z : Int) : clampInt lo hi z = max lo (min hi z) := by
  unfold clampInt
  split
  · omega
  · split <;> omega

/-- The body of a TEXT has its length (check 1 of R35). -/
def TextWhole (b : Bytes) : Prop := 15 ≤ b.length ∧ 1 ≤ u8 b 14 ∧ u8 b 14 ≤ 250 ∧ b.length = 15 + 3 * u8 b 14

/-- The fields of a TEXT are in their ranges (checks 2 and 3 of R35). -/
def TextFields (b : Bytes) : Prop := u8 b 0 ≤ 7 ∧ u8 b 1 ≤ 1 ∧ u8 b 9 ≤ 1 ∧ -256 ≤ s16 b 6 ∧ s16 b 6 ≤ 2047 ∧
  (u8 b 1 = 0 → -8192 ≤ s32 b 2 ∧ s32 b 2 ≤ 65535) ∧ ∀ c ∈ codesAt b 15 (u8 b 14), c ≤ 0x10FFFF

/-- The fields of a TEXT, clamped (R36). -/
def textOf (b : Bytes) : TextRec := ⟨u8 b 0, decide (u8 b 1 = 1), s32 b 2, s16 b 6, Tone.clamp (u8 b 8),
  decide (u8 b 9 = 1), max (-64) (min 63 (s32 b 10)), codesAt b 15 (u8 b 14)⟩

theorem parseText_length {b : Bytes} (h : ¬ TextWhole b) : parseText b = .refuse .length := by
  unfold TextWhole at h
  unfold parseText
  rw [if_pos (by omega)]

theorem parseText_field {b : Bytes} (h : TextWhole b) (h' : ¬ TextFields b) : parseText b = .refuse .field := by
  unfold TextWhole at h
  unfold TextFields at h'
  unfold parseText
  dsimp only
  rw [if_neg (by omega)]
  split
  · rfl
  · rename_i hr
    rw [if_pos]
    by_contra hc
    refine h' ⟨by omega, by omega, by omega, by omega, by omega, by omega, fun c hmem => ?_⟩
    by_contra hlt
    exact hc (List.any_eq_true.mpr ⟨c, hmem, decide_eq_true (Nat.not_le.mp hlt)⟩)

theorem parseText_ok {b : Bytes} (h : TextWhole b) (h' : TextFields b) : parseText b = .ok (textOf b) := by
  unfold TextWhole at h
  obtain ⟨h0, h1, h9, hlo, hhi, hpen, hcodes⟩ := h'
  unfold parseText
  dsimp only
  rw [if_neg (by omega), if_neg (by omega), if_neg, clampInt_eq (by decide)]
  · rfl
  · rw [List.any_eq_true]
    rintro ⟨c, hmem, hlt⟩
    exact absurd (hcodes c hmem) (Nat.not_le.mpr (of_decide_eq_true hlt))

/-- A draw record that waits for nothing acts on its body (R55). -/
theorem withDraw_of_dispatches {s : State} {k : RecordKind} {body : Bytes} {rest : List Record}
    (h : Dispatches s k body rest) (hw : s.drawWaits = false) (f : Bytes → State) : s.withDraw k f = f body := by
  unfold State.withDraw
  rw [withHead_of_dispatches h, hw]; rfl

theorem withDraw_refuses {s : State} {k : RecordKind} {body : Bytes} {rest : List Record} {f : Bytes → State}
    {r : Reason} (h : Dispatches s k body rest) (hw : s.drawWaits = false) (hf : f body = s.refuseHead k r) :
    (.next (s.withDraw k f) : Outcome State Fault Refusal) = .next (refusedAt s k r rest) := by
  rw [withDraw_of_dispatches h hw, hf, refuseHead_eq_refusedAt h]

/-- A TEXT in progress finds some of its misses: those before a point of their list (R47; log 18). -/
theorem freeMisses_text {s : State} {pen : Int} {made : Nat} {misses : List Nat} {todo : List (Nat × Tone)}
    (h : s.comp.draw = some (.writing (.text pen made misses) todo)) :
    ∃ found, misses = found ++ s.freeMisses.missesLeft ∧ s.freeMisses = { s with
      comp := { s.comp with
        draw := some (.writing (.text pen (found.getLastD made) s.freeMisses.missesLeft) todo) }
      ev := if found = [] then s.ev else (s.setFlag .glyphmiss).ev
      freeCount := s.freeMisses.freeCount } := by
  have hleft : s.missesLeft = misses := by simp [State.missesLeft, h]
  by_cases hm : misses = []
  · refine ⟨[], ?_, ?_⟩
    · rw [freeMisses_of_none (hleft.trans hm), hleft]; rfl
    · rw [freeMisses_of_none (hleft.trans hm), hleft, if_pos rfl, List.getLastD_nil, ← h]
  · have hfind : s.freeMisses = s.useFree.findMisses (Config.walkProgress s.freeCount) := by
      unfold State.freeMisses; rw [if_neg (by rw [hleft]; exact hm)]
    generalize Config.walkProgress s.freeCount = n at hfind
    have heq : s.useFree.findMisses n = (s.useFree.setDraw (some (.writing
        (.text pen ((misses.take n).getLastD made) (misses.drop n)) todo))).setFlagIf (!(misses.take n).isEmpty)
          .glyphmiss := by
      unfold State.findMisses
      rw [State.useFree_comp, h]
    have hdrop : s.freeMisses.missesLeft = misses.drop n := by rw [hfind, heq]; simp [State.missesLeft]
    refine ⟨misses.take n, by rw [hdrop, List.take_append_drop], ?_⟩
    rw [hdrop, hfind, heq, setFlagIf_frame, setFlagIf_ev]
    cases misses.take n <;> simp [State.setDraw, State.useFree, State.setFlag]

/-- The first lookup of a TEXT finds its slot EMPTY (check 4 of R35). -/
theorem startText_noFont {s : State} {t : TextRec} (hd : s.comp.draw = none) (hf : s.tables.font t.slot = none) :
    s.startText t = s.refuse RecordKind.text.code .noFont := by
  have hdraw : s.setDraw none = s := by unfold State.setDraw; rw [← hd]
  unfold State.startText
  rw [hf, hdraw]

/-- A TEXT whose lookups are not held begins its run (R38, R42, R47). -/
theorem startText_eq {s : State} {t : TextRec} {f : Font} (hf : s.tables.font t.slot = some f) :
    let r := textRun s.tables s.comp.clip s.store.pixels f t s.comp.pen
    ∃ found, r.misses = found ++ (s.startText t).missesLeft ∧ s.startText t = { s with
      comp := { s.comp with
        draw := some (.writing (.text r.pen (found.getLastD 0) (s.startText t).missesLeft) r.writes) }
      ev := if found = [] then s.ev else (s.setFlag .glyphmiss).ev
      freeCount := (s.startText t).freeCount } := by
  intro r
  have hstart : s.startText t = (s.setDraw (some (.writing (.text r.pen 0 r.misses) r.writes))).freeMisses := by
    simp [State.startText, hf, r]
  rw [hstart]
  exact freeMisses_text rfl

/-- The whole of a TEXT that found its font: it keeps the Table Store busy, and its DRAW_END makes the run's writes,
sets its final pen and leaves GLYPHMISS set where a code was substituted or missing (R16, R47, R48). -/
theorem startText_drawEnd {s : State} {t : TextRec} {f : Font} (hd : s.comp.draw = none)
    (hf : s.tables.font t.slot = some f) :
    let r := textRun s.tables s.comp.clip s.store.pixels f t s.comp.pen
    (s.startText t).tableBusy = true ∧ exec .drawEnd (s.startText t) = .next { s with
      comp := { s.comp with pen := r.pen }
      store := { s.store with pixels := r.pixels }
      ev := if r.misses = [] then s.ev else (s.setFlag .glyphmiss).ev
      freeCount := (s.startText t).freeCount } := by
  intro r
  obtain ⟨found, hmisses, ht⟩ := startText_eq hf
  have hwriting := congrArg (fun u => u.comp.draw) ht
  have hpixels : writeTargets s.store.pixels r.writes = r.pixels :=
    (Run.codes_agree s.tables s.comp.clip f t t.codes (Run.start_agrees _ s.store.pixels)).symm
  have hev : (if (s.startText t).missesLeft = [] then (s.startText t).ev
      else ((s.startText t).setFlag .glyphmiss).ev) = if r.misses = [] then s.ev else (s.setFlag .glyphmiss).ev := by
    rw [hmisses, State.setFlag_ev, show (s.startText t).ev = _ from congrArg State.ev ht]
    cases found <;> cases (s.startText t).missesLeft <;> simp [BitVec.or_assoc]
  refine ⟨by simp [State.tableBusy, hwriting, Draw.usesTables], ?_⟩
  rw [drawEnd_eq hwriting, hev, ← hpixels]
  conv_lhs => rw [ht]
  simp [DrawKind.penAfter, hd, r]

/-- Settles O12: the checks in order, then the run as `Run.code` makes it, whose writes DRAW_END makes. -/
theorem textRunsAndSetsPen : Obligations.TextRunsAndSetsPen := by
  constructor
  · intro s kind todo h
    refine ⟨_, drawEnd_eq h, fun k => ?_, ?_⟩
    · show pixelAt (writeTargets s.store.pixels todo) k = _
      rw [pixelAt_writeTargets_last]
      cases (todo.filter fun w => w.1 = k).getLast? <;> rfl
    · cases kind <;> rfl
  · intro s body rest hd hw n codes whole legal x
    refine ⟨fun hn => withDraw_refuses hd hw (by rw [parseText_length hn]),
      fun h hn => withDraw_refuses hd hw (by rw [parseText_field h hn]), fun h hl => ?_⟩
    have hparse : parseText body = .ok x := parseText_ok h hl
    have hexec : exec .text s = .next (if s.tables.glyphWrite.isSome then s.pop.setDraw (some (.textHeld x))
        else s.pop.startText x) := by
      show Outcome.next _ = _
      rw [withDraw_of_dispatches hd hw, hparse]
    obtain ⟨hdraw, -⟩ := drawWaits_eq_false.mp hw
    rw [pop_eq_taken hd] at hexec
    refine ⟨fun hg => ⟨_, by rw [hexec, if_pos hg]; rfl, rfl⟩, fun hg hf => ?_, fun f hg hf => ?_⟩
    · rw [hexec, hg, startText_noFont (s := taken s rest) hdraw hf]; rfl
    · intro start r
      have hrun : textRun (taken s rest).tables (taken s rest).comp.clip (taken s rest).store.pixels f x
          (taken s rest).comp.pen = r := by
        simp [textRun, taken, r, start, x, codes, n, decide_eq_true_eq]
      obtain ⟨found, hmisses, ht⟩ := startText_eq (s := taken s rest) (t := x) hf
      dsimp only at hmisses ht
      rw [hrun] at hmisses ht
      rw [hg] at hexec
      obtain ⟨hbusy, hdone⟩ := startText_drawEnd (s := taken s rest) (t := x) hdraw hf
      rw [hrun] at hdone
      exact ⟨_, _, found, hexec, hmisses, ht, hbusy, hdone, rfl⟩

/-! ### READ of PIXELS (R14, R15, R174) -/

theorem pixelField_ofCode (f : PixelField) : PixelField.ofCode f.code = some f := by cases f <;> rfl

theorem pixelField_ofCode_eq_none {n : Nat} (h : 3 < n) : PixelField.ofCode n = none := by
  match n, h with
  | n + 4, _ => rfl

theorem pixelField_of_le {n : Nat} (h : n ≤ 3) : ∃ f, PixelField.ofCode n = some f := by
  match n, h with
  | 0, _ => exact ⟨_, rfl⟩
  | 1, _ => exact ⟨_, rfl⟩
  | 2, _ => exact ⟨_, rfl⟩
  | 3, _ => exact ⟨_, rfl⟩

/-- A READ of PIXELS at the intake head, of its length and with no draw record to wait for. -/
def ReadsPixels (s : State) (body : Bytes) (rest : List Record) : Prop :=
  Dispatches s .read body rest ∧ u8 body 0 = 5 ∧ body.length = 10 ∧ s.comp.draw = none

/-- A READ of PIXELS with a selector that names no field (R14). -/
theorem readPixels_of_none {s : State} {body : Bytes} {rest : List Record} (h : ReadsPixels s body rest)
    (hf : PixelField.ofCode (u8 body 9) = none) : exec .readPixels s = .next (refusedAt s .read .field rest) := by
  obtain ⟨hd, ha, hl, hc⟩ := h
  exact withHead_refuses hd (by simp [ha, hl, hc, hf, Area.code, Area.bodyLength])

/-- A READ of PIXELS that names a field needs a reply place, and then begins to read (R14). -/
theorem readPixels_of_some {s : State} {body : Bytes} {rest : List Record} (h : ReadsPixels s body rest)
    {f : PixelField} (hf : PixelField.ofCode (u8 body 9) = some f) : exec .readPixels s =
      .next (if 16 ≤ s.ev.replies.length then refusedAt s .read .replyFull rest
        else s.beginPixelRead f (rectAt body 1)) := by
  obtain ⟨hd, ha, hl, hc⟩ := h
  have hfull : s.repliesFull = decide (16 ≤ s.ev.replies.length) := by
    simp [State.repliesFull, reserved_of_free hd.2.1, Config.maxReplies]
  show Outcome.next _ = _
  unfold State.withRead
  rw [withHead_of_dispatches hd]
  simp [ha, hl, hc, hf, Area.code, Area.bodyLength, State.ifRoom, hfull, refuseHead_eq_refusedAt hd]

/-- What a READ of PIXELS that begins leaves (R14). -/
theorem beginPixelRead_eq {s : State} {body : Bytes} {rest : List Record} (hd : Dispatches s .read body rest)
    (f : PixelField) (rect : Rect) : s.beginPixelRead f rect = { s with intake := ⟨rest, .readPixels
      ⟨f, Rect.inter rect s.window, decide (1024 < (Rect.inter rect s.window).w * (Rect.inter rect s.window).h),
        (Rect.inter rect s.window).keys.take 1024, []⟩⟩ } := by
  unfold State.beginPixelRead
  rw [pop_eq_taken hd]; rfl

/-- The keys of a rectangle in row order. -/
theorem keys_eq_map (r : Rect) : r.keys =
    (List.range (r.w * r.h)).map fun n => pixelKey (r.x.toNat + n % r.w) (r.y.toNat + n / r.w) := by
  obtain ⟨x, y, w, h⟩ := r
  unfold Rect.keys
  induction h with
  | zero => rfl
  | succ h ih =>
    have hrow : (List.range w).map (fun i => pixelKey (x.toNat + i) (y.toNat + h)) =
        ((List.range w).map (w * h + ·)).map fun n => pixelKey (x.toNat + n % w) (y.toNat + n / w) := by
      rw [List.map_map]
      refine List.map_congr_left fun i hi => ?_
      have hi := List.mem_range.mp hi
      simp only [Function.comp_apply, Nat.mul_add_mod, Nat.mod_eq_of_lt hi,
        Nat.mul_add_div (Nat.zero_lt_of_lt hi), Nat.div_eq_of_lt hi, Nat.add_zero]
    dsimp only at ih ⊢
    rw [List.range_succ, List.flatMap_append, ih, Nat.mul_succ, List.range_add, List.map_append, ← hrow]
    simp

theorem keys_length (r : Rect) : r.keys.length = r.w * r.h := by simp [keys_eq_map]

/-- The pixels a READ of PIXELS reads: the first 1,024 of its rectangle in row order (R15). -/
theorem keys_take_getElem? (r : Rect) {n : Nat} (hn : n < min 1024 (r.w * r.h)) :
    (r.keys.take 1024)[n]? = some (pixelKey (r.x.toNat + n % r.w) (r.y.toNat + n / r.w)) := by
  rw [List.getElem?_take, if_pos (by omega), keys_eq_map, List.getElem?_map, List.getElem?_range (by omega)]
  rfl

/-- An intersection without a pixel is four zeros (R174). -/
theorem inter_eq_none {a b : Rect} (h : (Rect.inter a b).w * (Rect.inter a b).h = 0) :
    Rect.inter a b = ⟨0, 0, 0, 0⟩ := by
  unfold Rect.inter at h ⊢
  dsimp only at h ⊢
  split
  · rename_i hpos
    rw [if_pos hpos] at h
    rcases Nat.mul_eq_zero.mp h with h | h <;> dsimp only at h <;> omega
  · rfl

/-- READ_PIXELS_END in every state with a READ of PIXELS in progress (R15, R174; log 28). -/
theorem readPixelsEnd_reads {s : State} {r : PixelRead} (h : s.intake.hold = .readPixels r) :
    ∃ (u : State) (more : Bytes) (n : Nat) (passed : Nat → Nat), exec .readPixelsEnd s = .next u ∧
      u = { s with
        intake := { s.intake with hold := .free }
        store := (s.advancePass n).store, sched := (s.advancePass n).sched, freeCount := u.freeCount
        ev := { s.ev with replies := s.ev.replies ++ [.readback 5
          (be8 r.selector.code ++ be8 (if r.truncated = true then 1 else 0) ++ encodeRect r.rect ++
            be16 (r.values.length + r.todo.length) ++ (r.values ++ more))] } } ∧
      more.length = r.todo.length ∧ (∀ j, passed j ≤ passed (j + 1) ∧ passed j ≤ n) ∧
      (∀ j k : Nat, r.todo[j]? = some k →
        more[j]? = some (fieldCode r.selector ((s.advancePass (passed j)).pixel k))) ∧
      (s.sched.pass = none → u.store = s.store ∧ u.sched = s.sched ∧ u.freeCount = s.freeCount ∧
        ∀ j k : Nat, r.todo[j]? = some k → more[j]? = some (fieldCode r.selector (s.pixel k))) := by
  obtain ⟨more, n, c, passed, hread, hlen, hpassed, hvalues, hcount⟩ := readMany_reads h
  have hexec : exec .readPixelsEnd s = .next ((((s.advancePass n).withWalkers (.readPixels
      { r with todo := [], values := r.values ++ more }) c).setHold .free).putReply (.readback 5
        (PixelRead.payload { r with todo := [], values := r.values ++ more }))) := by
    show Outcome.next _ = _
    simp only [h, hread]
    rfl
  refine ⟨_, more, n, passed, hexec, ?_, hlen, hpassed, hvalues, fun hn => ?_⟩
  · rw [← hlen, ← List.length_append, advancePass_frame s n]; rfl
  · have hstay := advancePass_none hn
    refine ⟨?_, ?_, ?_, fun j k hj => ?_⟩
    · show (s.advancePass n).store = _
      rw [hstay]
    · show (s.advancePass n).sched = _
      rw [hstay]
    · exact hcount hn
    · rw [hvalues j k hj, hstay]

/-- Settles O46: the READ holds the Dispatcher with its pixels in row order, and `readMany_reads` says what reading
them gives. -/
theorem pixelReadReturnsFields : Obligations.PixelReadReturnsFields := by
  refine ⟨fun s body rest hd ha hl hc => ⟨fun hf => ?_, fun hf hfull => ?_, ?_, ?_⟩, fun s r h => readPixelsEnd_reads h,
    fun p => ⟨fun v hv => ?_, fun hn => ?_, rfl, rfl, fun i hi => ?_, fun hn => ?_⟩⟩
  · exact readPixels_of_none ⟨hd, ha, hl, hc⟩ (pixelField_ofCode_eq_none hf)
  · obtain ⟨f, hf⟩ := pixelField_of_le hf
    rw [readPixels_of_some ⟨hd, ha, hl, hc⟩ hf, if_pos hfull]
  · intro field hf hroom area count
    have hexec := readPixels_of_some ⟨hd, ha, hl, hc⟩ (hf ▸ pixelField_ofCode field)
    rw [if_neg (Nat.not_le.mpr hroom), beginPixelRead_eq hd] at hexec
    refine ⟨_, _, hexec, rfl, rfl, ?_, fun x y => ?_, inter_eq_none, fun _ n hn => keys_take_getElem? area hn⟩
    · rw [List.length_take, keys_length]
    · rw [Rect.has_inter, Bool.and_eq_true]
  · intro field hf hroom hpass hpage area count
    have hexec := readPixels_of_some ⟨hd, ha, hl, hc⟩ (hf ▸ pixelField_ofCode field)
    rw [if_neg (Nat.not_le.mpr hroom), beginPixelRead_eq hd] at hexec
    obtain ⟨held, hheld⟩ : ∃ held : State, held = { s with intake := ⟨rest,
      .readPixels ⟨field, area, decide (1024 < area.w * area.h), area.keys.take 1024, []⟩⟩ } := ⟨_, rfl⟩
    have hhold : held.intake.hold =
        .readPixels ⟨field, area, decide (1024 < area.w * area.h), area.keys.take 1024, []⟩ := by rw [hheld]
    have hpass : held.sched.pass = none := hheld ▸ hpass
    obtain ⟨u, more, n, passed, hend, hu, hlen, -, -, hstill⟩ := readPixelsEnd_reads hhold
    obtain ⟨-, -, -, hvalues⟩ := hstill hpass
    rw [advancePass_none hpass] at hu
    subst hheld
    have hcount : more.length = count := by rw [hlen, List.length_take, keys_length]
    refine ⟨_, u, more, hexec, rfl, rfl, hend, ?_, hcount, fun x y => ?_, fun n hn => ?_⟩
    · conv_lhs => rw [hu]
      simp [taken, hf, keys_length, count]
    · rw [Rect.has_inter, Bool.and_eq_true]
    · exact hvalues n _ (keys_take_getElem? area hn)
  · simp [fieldCode, hv, orNone]
  · simp [fieldCode, hn, orNone]
  · simp [fieldCode, hi, orNone]
  · simp [fieldCode, hn, orNone]

end Sys2Proof.Machine
end

section
/-! SUPPORT. The admission pass: when it is suspended, and one step of its walk (R112, R113). -/

namespace Sys2Proof.Machine

open Host (Outcome)

/-! ### Suspension -/

/-- Passes are suspended in FAULT, while a PANELSET that passes its check waits at the intake head, and while its
reinitialization runs (R7, R9, R112). -/
theorem suspended_iff (s : State) : s.suspended = true ↔ s.rails.state = .fault ∨
    (∃ body rest, Dispatches s .panelset body rest ∧ body.length = 16 ∧ u16 body 0 ≤ 6144 ∧ 8 ∣ u16 body 0 ∧
      64 ≤ u16 body 2 ∧ u16 body 2 ≤ 2048 ∧ 8 ∣ u16 body 2 ∧ 64 ≤ u16 body 4 ∧ u16 body 4 ≤ 1664) ∨
    s.intake.hold = .reinit := by
  have checked : ∀ body : Bytes, (∃ p, parsePanelset body = .ok p) ↔ body.length = 16 ∧ u16 body 0 ≤ 6144 ∧
      8 ∣ u16 body 0 ∧ 64 ≤ u16 body 2 ∧ u16 body 2 ≤ 2048 ∧ 8 ∣ u16 body 2 ∧ 64 ≤ u16 body 4 ∧
      u16 body 4 ≤ 1664 := by
    intro body
    rw [parsePanelset_eq]
    split
    · simp_all
    · split <;> simp_all
  rw [suspended_eq_true]
  refine or_congr_right (or_comm.trans (or_congr_left ⟨?_, ?_⟩))
  · rintro ⟨body, rest, p, hd, hp⟩
    exact ⟨body, rest, hd, (checked body).mp ⟨p, hp⟩⟩
  · rintro ⟨body, rest, hd, h⟩
    obtain ⟨p, hp⟩ := (checked body).mpr h
    exact ⟨body, rest, p, hd, hp⟩

/-! ### The end of a pass -/

/-- The Dispatcher's hold once a pass has ended: an UPDATE whose first pass it was is free (R110). -/
def Hold.afterPass : Hold → Hold
  | .update true => .free
  | h => h

theorem endPass_eq (s : State) : s.endPass = { s with
    intake := { s.intake with hold := s.intake.hold.afterPass }
    sched := { s.sched with
      pass := none, passDue := s.sched.passDue && !s.suspended
      requests := s.sched.requests.map fun q : Request => { q with due := false } } } := by
  unfold State.endPass State.freeUpdate
  rw [State.dropPass_intake]
  cases h : s.intake.hold with
  | update begun => cases begun <;> simp [Hold.afterPass, State.dropPass, State.setHold, ← h]
  | free => simp [Hold.afterPass, State.dropPass, ← h]
  | reinit => simp [Hold.afterPass, State.dropPass, ← h]
  | readPixels r => simp [Hold.afterPass, State.dropPass, ← h]
  | readGlyph p => simp [Hold.afterPass, State.dropPass, ← h]

/-- The Dispatcher's hold once a pass has begun: an UPDATE that waited for its first pass is in it (R110). -/
def Hold.inPass : Hold → Hold
  | .update _ => .update true
  | h => h

theorem beginPass_eq (s : State) : s.beginPass = { s with
    intake := { s.intake with hold := s.intake.hold.inPass }
    sched := { s.sched with
      passDue := false, requests := s.sched.requests.map fun q : Request => { q with due := true } } } := by
  obtain ⟨_, ⟨_, hold⟩, _, _, _, _, _, _, _, _, _, _, _, _, _⟩ := s
  cases hold <;> rfl

/-! ### The walk of a pass -/

/-- The walk keeps its own list of the queue. -/
theorem examine_setRequests (rest : List Request) : ∀ (s : State) (rs ahead : List Request),
    (s.setRequests rs).examine ahead rest = s.examine ahead rest := by
  induction rest with
  | nil => intro s rs ahead; rfl
  | cons r behind ih =>
    intro s rs ahead
    have hnotify : (s.setRequests rs).notify r.notify (r.notice .empty none) =
        (s.notify r.notify (r.notice .empty none)).setRequests rs := by
      rw [notify_frame, notify_frame s, notify_ev_congr (s := s) (t := s.setRequests rs) rfl rfl]; rfl
    simp only [State.examine]
    rw [hnotify, ih, ih, ih]
    rfl

/-- Requests that are not due stay where they stand. -/
theorem examine_notDue {before : List Request} (h : ∀ q ∈ before, q.due = false) (s : State)
    (ahead rest : List Request) : s.examine ahead (before ++ rest) = s.examine (ahead ++ before) rest := by
  induction before generalizing ahead with
  | nil => simp
  | cons q before ih =>
    have hq := h q (List.mem_cons_self ..)
    rw [List.cons_append, State.examine, if_pos (by simp [hq]), ih fun p hp => h p (List.mem_cons_of_mem _ hp),
      List.append_assoc]
    rfl

theorem setRequests_self (s : State) : s.setRequests s.sched.requests = s := rfl

/-- A pass goes on from the first request due, with those before it standing ahead. -/
theorem continuePass_of_requests {s : State} {before rest : List Request} (h : ∀ q ∈ before, q.due = false)
    (hr : s.sched.requests = before ++ rest) : s.continuePass = s.examine before rest := by
  unfold State.continuePass
  rw [hr, examine_notDue h]; rfl

theorem continuePass_setRequests {before rest : List Request} (h : ∀ q ∈ before, q.due = false) (s : State) :
    (s.setRequests (before ++ rest)).continuePass = s.examine before rest := by
  rw [continuePass_of_requests h (s := s.setRequests (before ++ rest)) rfl, examine_setRequests]

theorem effective_isEmpty_iff {s : State} {r : Request} :
    (s.effective r).isEmpty = true ↔ ¬ meetsWindow s r.rect := by
  simp [State.effective, Rect.isEmpty_iff, Rect.has_inter, meetsWindow]

theorem freeSlot?_isNone_iff {s : State} : s.freeSlot?.isNone = true ↔ ∀ i, (s.slot i).isSome = true := by
  simp [State.freeSlot?, slotIds, List.find?_eq_none, Option.isSome_iff_ne_none]

theorem meets_iff {s : State} {q r : Request} :
    (s.effective q).meets (s.effective r) = true ↔ sharesPixel s q r := by
  unfold Rect.meets
  rw [Bool.not_eq_true', ← Bool.not_eq_true, Rect.isEmpty_iff]
  simp only [State.effective, Rect.has_inter, not_forall, Bool.not_eq_false, Bool.and_eq_true, sharesPixel]
  exact exists_congr fun x => exists_congr fun y => by tauto

/-- A pass begins to examine a request that steps 1 to 3 let through (R113, R114). -/
theorem beginReads_eq (s : State) (r : Request) : s.beginReads r = s.setPass (some
    (if r.skip = true ∨ s.deferKeys (s.effective r) = [] then .resolveRead (s.effective r).keys false
      else .deferRead (s.deferKeys (s.effective r)) false)) := by
  unfold State.beginReads
  by_cases h : r.skip = true ∨ s.deferKeys (s.effective r) = []
  · simp only [Bool.or_eq_true, List.isEmpty_iff]
    rw [if_pos h, if_pos h]; rfl
  · simp only [Bool.or_eq_true, List.isEmpty_iff]
    rw [if_neg h, if_neg h]

/-- Settles O27: the walk of a pass, unfolded once over the first request that is due. -/
theorem admissionPassExaminesInOrder : Obligations.AdmissionPassExaminesInOrder := by
  constructor
  · intro s panelset runs
    refine ⟨suspended_iff s, fun h => ?_, fun h => ?_⟩
    · show Outcome.next _ = _
      rw [if_pos h, beginPass_eq]
      cases s.intake.hold <;> rfl
    · show Outcome.next _ = _
      rw [if_neg h]
  · intro s before hb ended
    have hend : ∀ rs, s.sched.requests = rs → (s.setRequests rs).endPass = ended := by
      rintro rs rfl
      rw [setRequests_self, endPass_eq]
      simp only [ended]
      cases s.intake.hold with
      | update begun => cases begun <;> rfl
      | _ => rfl
    refine ⟨fun hr => ?_, fun r behind hr hdue => ?_⟩
    · rw [continuePass_of_requests hb (rest := []) (by simpa using hr)]
      exact hend before hr
    · have hgo := continuePass_of_requests hb hr
      rw [State.examine, if_neg (by simp [hdue])] at hgo
      refine ⟨fun hm => ?_, fun hm hfull => ?_, fun hm hfree => ?_⟩
      · rw [hgo, if_pos (effective_isEmpty_iff.mpr hm), notify_frame, ← continuePass_setRequests hb]
        rfl
      · rw [hgo, if_neg (mt effective_isEmpty_iff.mp (not_not.mpr hm)), if_pos (freeSlot?_isNone_iff.mpr hfull)]
        exact hend _ hr
      have hopen : ¬ s.freeSlot?.isNone = true := by
        obtain ⟨i, hi⟩ := hfree
        rw [freeSlot?_isNone_iff]
        exact fun h => absurd (h i) (by simp [hi])
      refine ⟨fun hs => ?_, fun hs => ?_⟩
      · have hb' : ∀ q ∈ before ++ [{ r with due := false }], q.due = false := by
          intro q hq
          rcases List.mem_append.mp hq with hq | hq
          · exact hb q hq
          · rw [List.mem_singleton.mp hq]
        have hany : (before.any fun q => (s.effective q).meets (s.effective r)) = true := by
          obtain ⟨q, hq, hshare⟩ := hs
          exact List.any_eq_true.mpr ⟨q, hq, meets_iff.mpr hshare⟩
        rw [hgo, if_neg (mt effective_isEmpty_iff.mp (not_not.mpr hm)), if_neg hopen, if_pos hany,
          ← continuePass_setRequests hb', List.append_assoc]
        rfl
      · have hany : ¬ (before.any fun q => (s.effective q).meets (s.effective r)) = true := by
          rw [List.any_eq_true]
          rintro ⟨q, hq, hmeets⟩
          exact hs q hq (meets_iff.mp hmeets)
        rw [hgo, if_neg (mt effective_isEmpty_iff.mp (not_not.mpr hm)), if_neg hopen, if_neg hany, ← hr,
          setRequests_self, beginReads_eq]
        rfl

end Sys2Proof.Machine
end

section
/-! SUPPORT. What the walks in progress keep, and what an operation on every slot in turn leaves. A latch walk gives
unowned pixels to its own slot and touches no other slot (R117). A frame end, a CANCEL, a HALT, a fault and a reset act
on the slots in ascending order, and each of them acts on one slot, the pixels it owns, and the outcomes told:
`SlotAction` says how, `ActsBy.foldl_*` what all 16 together leave. -/

namespace Sys2Proof.Machine

open Host (Outcome)

/-! ### What a latch walk keeps (R117) -/

/-- What the latch walk of slot `i` may do between `s` and `t`: give it pixels that no slot owned, and count them. -/
structure JudgedBy (i : Fin 16) (s t : State) : Prop where
  shown : ∀ k, (t.pixel k).shown = (s.pixel k).shown
  target : ∀ k, (t.pixel k).target = (s.pixel k).target
  owned : ∀ k, (s.pixel k).owner.isSome = true → t.pixel k = s.pixel k
  claimed : ∀ k, (t.pixel k).owner = (s.pixel k).owner ∨ ((t.pixel k).owner = some i ∧ (s.slot i).isSome = true)
  others : ∀ j, j ≠ i → t.slot j = s.slot j
  free : s.slot i = none → t.slot i = none
  counted : ∀ sl, s.slot i = some sl → ∃ taken skipped tiles,
    t.slot i = some { sl with taken := taken, skipped := skipped, tiles := tiles }
  wf : Store.wf PixelRec.initial s.store.pixels → Store.wf PixelRec.initial t.store.pixels

theorem JudgedBy.refl (i : Fin 16) (s : State) : JudgedBy i s s :=
  ⟨fun _ => rfl, fun _ => rfl, fun _ _ => rfl, fun _ => .inl rfl, fun _ _ => rfl, id, fun _ h => ⟨_, _, _, h⟩, id⟩

theorem JudgedBy.slot_isSome {i : Fin 16} {s t : State} (h : JudgedBy i s t) (j : Fin 16) :
    (t.slot j).isSome = (s.slot j).isSome := by
  by_cases hj : j = i
  · subst hj
    cases hs : s.slot j with
    | none => rw [h.free hs]
    | some sl =>
      obtain ⟨_, _, _, e⟩ := h.counted sl hs
      rw [e]; rfl
  · rw [h.others j hj]

theorem JudgedBy.trans {i : Fin 16} {s t u : State} (h : JudgedBy i s t) (h' : JudgedBy i t u) : JudgedBy i s u := by
  refine ⟨fun k => (h'.shown k).trans (h.shown k), fun k => (h'.target k).trans (h.target k), fun k hk => ?_,
    fun k => ?_, fun j hj => (h'.others j hj).trans (h.others j hj), h'.free ∘ h.free, fun sl hsl => ?_, h'.wf ∘ h.wf⟩
  · exact (h'.owned k (by rw [h.owned k hk]; exact hk)).trans (h.owned k hk)
  · have hsome := h.slot_isSome i
    rcases h'.claimed k with e' | ⟨e', hs⟩
    · rw [e']; exact h.claimed k
    · exact .inr ⟨e', hsome ▸ hs⟩
  · obtain ⟨_, _, _, e⟩ := h.counted sl hsl
    obtain ⟨_, _, _, e'⟩ := h'.counted _ e
    exact ⟨_, _, _, e'⟩

theorem latchPixel_judged (i : Fin 16) (s : State) (k : Nat) : JudgedBy i s (latchPixel i s k) := by
  unfold latchPixel
  split
  · exact .refl i s
  · rename_i sl hs
    have counted : ∀ (t : State) (taken skipped : Nat) (tiles : List Nat) (sl' : Slot), s.slot i = some sl' →
        ∃ a b c, (t.setSlot i (some { sl with taken := taken, skipped := skipped, tiles := tiles })).slot i =
          some { sl' with taken := a, skipped := b, tiles := c } := by
      intro t taken skipped tiles sl' h
      obtain rfl : sl = sl' := Option.some.inj (hs.symm.trans h)
      exact ⟨_, _, _, State.setSlot_slot_same t i _⟩
    have others : ∀ (t : State) (o : Option Slot), t.sched = s.sched → ∀ j, j ≠ i → (t.setSlot i o).slot j = s.slot j :=
      fun t o e j hj => (State.setSlot_slot_other t i j o hj).trans (State.slot_of_sched e j)
    dsimp only
    split
    · exact ⟨fun _ => rfl, fun _ => rfl, fun _ _ => rfl, fun _ => .inl rfl, others s _ rfl,
        fun h => absurd (h.symm.trans hs) (by simp), counted s _ _ _, id⟩
    · rename_i hfree
      split
      · have hpixel : ∀ (o : Option Slot) (p : PixelRec) (j : Nat),
            ((s.setPixel k p).setSlot i o).pixel j = if k = j then p else s.pixel j :=
          fun o p j => State.pixel_setPixel s k j p
        refine ⟨fun j => ?_, fun j => ?_, fun j hj => ?_, fun j => ?_, others _ _ rfl,
          fun h => absurd (h.symm.trans hs) (by simp), counted _ _ _ _, fun h => Store.wf_set h _ _⟩
        · rw [hpixel]; split
          · rename_i e; rw [← e]
          · rfl
        · rw [hpixel]; split
          · rename_i e; rw [← e]
          · rfl
        · rw [hpixel, if_neg]
          rintro rfl
          simp [hj] at hfree
        · rw [hpixel]; split
          · exact .inr ⟨rfl, by rw [hs]; rfl⟩
          · exact .inl rfl
      · exact .refl i s

theorem latchPixels_judged (i : Fin 16) (ks : List Nat) (s : State) : JudgedBy i s (ks.foldl (latchPixel i) s) := by
  induction ks generalizing s with
  | nil => exact .refl i s
  | cons k ks ih => exact (latchPixel_judged i s k).trans (ih _)

/-! ### What the walks in progress keep (R15, R114, R118) -/

/-- What the walks in progress in `s` may have done to pixels and slots by `u`. -/
structure Walked (s u : State) : Prop where
  shown : ∀ k, (u.pixel k).shown = (s.pixel k).shown
  target : ∀ k, (u.pixel k).target = (s.pixel k).target
  owned : ∀ k, (s.pixel k).owner.isSome = true → u.pixel k = s.pixel k
  claimed : ∀ k, (u.pixel k).owner = (s.pixel k).owner ∨ ∃ i todo, (u.pixel k).owner = some i ∧
    (s.slot i).isSome = true ∧ s.sched.pass = some (.latching i todo)
  others : ∀ i, (∀ todo, s.sched.pass ≠ some (.latching i todo)) → u.slot i = s.slot i
  free : ∀ i, s.slot i = none → u.slot i = none
  counted : ∀ i sl, s.slot i = some sl → ∃ taken skipped tiles,
    u.slot i = some { sl with taken := taken, skipped := skipped, tiles := tiles }
  wf : Store.wf PixelRec.initial s.store.pixels → Store.wf PixelRec.initial u.store.pixels

theorem Walked.refl (s : State) : Walked s s :=
  ⟨fun _ => rfl, fun _ => rfl, fun _ _ => rfl, fun _ => .inl rfl, fun _ _ => rfl, fun _ => id,
    fun _ _ h => ⟨_, _, _, h⟩, id⟩

/-- Pixels and slots are all that `Walked` speaks of in its second state. -/
theorem Walked.congr {s u v : State} (h : Walked s u) (hp : v.store.pixels = u.store.pixels)
    (hs : v.sched.slots = u.sched.slots) : Walked s v := by
  have pixel : ∀ k, v.pixel k = u.pixel k := fun k => by unfold State.pixel; rw [hp]
  have slot : ∀ i, v.slot i = u.slot i := fun i => by unfold State.slot; rw [hs]
  exact ⟨fun k => pixel k ▸ h.shown k, fun k => pixel k ▸ h.target k, fun k => pixel k ▸ h.owned k,
    fun k => pixel k ▸ h.claimed k, fun i => slot i ▸ h.others i, fun i => slot i ▸ h.free i,
    fun i => slot i ▸ h.counted i, hp ▸ h.wf⟩

theorem advancePass_walked (s : State) (n : Nat) : Walked s (s.advancePass n) := by
  cases hp : s.sched.pass with
  | none => rw [advancePass_none hp]; exact .refl s
  | some p =>
    cases p with
    | deferRead todo found =>
      exact (Walked.refl s).congr (by simp [State.advancePass, hp]) (by simp [State.advancePass, hp])
    | resolveRead todo found =>
      exact (Walked.refl s).congr (by simp [State.advancePass, hp]) (by simp [State.advancePass, hp])
    | latching i todo =>
      cases hd : s.comp.draw with
      | some d =>
        exact (Walked.refl s).congr (by simp [State.advancePass, hp, hd]) (by simp [State.advancePass, hp, hd])
      | none =>
        have h := latchPixels_judged i (todo.take n) s
        have hw : Walked s ((todo.take n).foldl (latchPixel i) s) := by
          refine ⟨h.shown, h.target, h.owned, fun k => ?_, fun j hj => ?_, fun j hj => ?_, fun j sl hj => ?_, h.wf⟩
          · exact (h.claimed k).imp_right fun ⟨e, hs⟩ => ⟨i, todo, e, hs, hp⟩
          · exact h.others j fun e => hj todo (e ▸ hp)
          · by_cases e : j = i
            · subst e; exact h.free hj
            · rw [h.others j e]; exact hj
          · by_cases e : j = i
            · subst e; exact h.counted sl hj
            · exact ⟨_, _, _, (h.others j e).trans hj⟩
        exact hw.congr (by rw [advancePass_latching n hp hd]; rfl) (by rw [advancePass_latching n hp hd]; rfl)

theorem WalkedOn.walked {s u : State} (h : WalkedOn s u) : Walked s u := by
  obtain ⟨⟨n, hu⟩, -, -⟩ := h
  exact (advancePass_walked s n).congr (by rw [hu]) (by rw [hu])

/-- With legal owners a slot that is not LATCHING is as it was before the walk (R118). -/
theorem Walked.driving {s u : State} (h : Walked s u) (ho : OwnersLegal s) {i : Fin 16} {sl : Slot}
    (hs : s.slot i = some sl) (hp : sl.phase ≠ .latching) : u.slot i = some sl := by
  rw [h.others i, hs]
  intro todo hpass
  obtain ⟨sl', hs', hp'⟩ := ho.walking i todo hpass
  rw [hs] at hs'
  exact hp (Option.some.inj hs' ▸ hp')

/-- A slot that owns a pixel is not FREE (R104). -/
theorem owner_slot {s : State} (ho : OwnersLegal s) {k : Nat} {i : Fin 16} (hk : (s.pixel k).owner = some i) :
    (s.slot i).isSome = true := by
  unfold State.pixel pixelAt Store.getD at hk
  cases hg : Store.get? s.store.pixels k with
  | none => rw [hg] at hk; simp [PixelRec.initial] at hk
  | some p => rw [hg] at hk; exact ho.owners _ (Store.mem_of_get? hg) i hk

/-- A latch pass gives pixels to no other than a slot that is not FREE. -/
theorem Walked.owner_slot {s u : State} (h : Walked s u) (ho : OwnersLegal s) {k : Nat} {i : Fin 16}
    (hk : (u.pixel k).owner = some i) : (u.slot i).isSome = true := by
  have hs : (s.slot i).isSome = true := by
    rcases h.claimed k with e | ⟨j, todo, e, hs, -⟩
    · exact Machine.owner_slot ho (e ▸ hk)
    · rw [e] at hk; exact Option.some.inj hk ▸ hs
  obtain ⟨sl, hsl⟩ := Option.isSome_iff_exists.mp hs
  obtain ⟨_, _, _, e⟩ := h.counted i sl hsl
  rw [e]; rfl

/-- Whether the owner of a pixel is RUNNING is not a walk's to change. -/
theorem Walked.running {s u : State} (h : Walked s u) {i : Fin 16} {sl : Slot} (hs : u.slot i = some sl) :
    ∃ sl', s.slot i = some sl' ∧ sl'.isRunning = sl.isRunning := by
  cases h' : s.slot i with
  | none => rw [h.free i h'] at hs; cases hs
  | some sl' =>
    obtain ⟨_, _, _, e⟩ := h.counted i sl' h'
    rw [e] at hs
    exact ⟨sl', rfl, Option.some.inj hs ▸ rfl⟩

/-- The hold of a walk got on is a READ of PIXELS exactly where it was one; any other stays. -/
theorem ReadOn.cases {s : State} {h : Hold} (hr : ReadOn s h) :
    h = s.intake.hold ∨ ∃ r r', s.intake.hold = .readPixels r ∧ h = .readPixels r' := by
  obtain ⟨hstay, hread⟩ := hr
  by_cases hh : ∃ r, s.intake.hold = .readPixels r
  · obtain ⟨r, hh⟩ := hh
    obtain ⟨_, _, _, _, _, e, _⟩ := hread r hh
    exact .inr ⟨r, _, hh, e⟩
  · exact .inl (hstay fun r hr => hh ⟨r, hr⟩)

/-- Outside pixels, slots, pass, hold and the free values nothing changes with a walk. -/
theorem WalkedOn.frame {s u : State} (h : WalkedOn s u) : u = { s with
    intake := { s.intake with hold := u.intake.hold }
    store := { s.store with pixels := u.store.pixels }
    sched := { s.sched with slots := u.sched.slots, pass := u.sched.pass }
    freeCount := u.freeCount } := by
  obtain ⟨⟨n, hu⟩, -, -⟩ := h
  rw [advancePass_frame] at hu
  conv_lhs => rw [hu]
  conv_rhs => rw [hu]

theorem WalkedOn.reserved {s u : State} (h : WalkedOn s u) : u.reserved = s.reserved := by
  unfold State.reserved
  rcases h.2.1.cases with e | ⟨r, r', e, e'⟩
  · rw [e]
  · rw [e, e']

theorem WalkedOn.suspended {s u : State} (h : WalkedOn s u) : u.suspended = s.suspended := by
  have hf := h.frame
  have hold : ∀ x : Hold, (∀ r, x ≠ .readPixels r) → (u.intake.hold = x ↔ s.intake.hold = x) := by
    intro x hx
    rcases h.2.1.cases with e | ⟨r, r', e, e'⟩
    · rw [e]
    · rw [e, e']
      exact ⟨fun e => absurd e.symm (hx r'), fun e => absurd e.symm (hx r)⟩
  exact suspended_congr (by rw [hf]) (by rw [hf]) (by rw [hf]) (hold _ (by simp)) (hold _ (by simp))

end Sys2Proof.Machine
end

section
/-! SUPPORT. What an operation on every slot in turn leaves. A frame end, a CANCEL, a HALT, a fault and a soft reset act
on the slots in ascending order, and each acts on one slot, the pixels it owns, and the outcomes told: `SlotAction`
says how, and `ActsBy` what all of them together leave. -/

namespace Sys2Proof.Machine

open Host (Outcome)

/-! ### One operation on every slot (R121 to R128) -/

/-- What an operation does with a slot that is not FREE: the slot after it, the pixels it owns, and the outcome told. -/
structure SlotAction where
  next : Slot → Option Slot
  pixel : Slot → PixelRec → PixelRec
  outcome : Slot → Option (Bool × Notice)

/-- `f` acts on each slot as `a` says: it leaves FREE slots alone, and the other slots and their pixels. -/
structure ActsBy (a : SlotAction) (f : State → Fin 16 → State) : Prop where
  free : ∀ s i, s.slot i = none → f s i = s
  own : ∀ s i sl, s.slot i = some sl → (f s i).slot i = a.next sl
  other : ∀ s i j, j ≠ i → (f s i).slot j = s.slot j
  pixel : ∀ s i sl k, Store.wf PixelRec.initial s.store.pixels → s.slot i = some sl →
    (f s i).pixel k = if (s.pixel k).owner = some i then a.pixel sl (s.pixel k) else s.pixel k
  owner : ∀ sl p, (a.pixel sl p).owner = p.owner ∨ (a.pixel sl p).owner = none
  wf : ∀ s i, Store.wf PixelRec.initial s.store.pixels → Store.wf PixelRec.initial (f s i).store.pixels
  ev : ∀ s i sl, s.slot i = some sl → (f s i).ev = told s (a.outcome sl).toList
  hold : ∀ s i, (f s i).intake.hold = s.intake.hold

/-- A pixel after the operation on slot `i`. -/
def SlotAction.pixelOf (a : SlotAction) (s : State) (is : List (Fin 16)) (k : Nat) : PixelRec :=
  match (s.pixel k).owner with
  | none => s.pixel k
  | some i =>
    if i ∈ is then
      match s.slot i with
      | none => s.pixel k
      | some sl => a.pixel sl (s.pixel k)
    else s.pixel k

variable {a : SlotAction} {f : State → Fin 16 → State}

theorem ActsBy.slot_one (h : ActsBy a f) (s : State) (i j : Fin 16) :
    (f s i).slot j = if j = i then (s.slot i).bind a.next else s.slot j := by
  split
  · rename_i e
    subst e
    cases hs : s.slot j with
    | none => rw [h.free s j hs, hs]; rfl
    | some sl => rw [h.own s j sl hs]; rfl
  · rename_i e; exact h.other s i j e

theorem ActsBy.slots (h : ActsBy a f) {is : List (Fin 16)} (hn : is.Nodup) (s : State) (j : Fin 16) :
    (is.foldl f s).slot j = if j ∈ is then (s.slot j).bind a.next else s.slot j := by
  induction is generalizing s with
  | nil => rfl
  | cons i is ih =>
    obtain ⟨hi, hn⟩ := List.nodup_cons.mp hn
    rw [List.foldl_cons, ih hn, h.slot_one]
    by_cases e : j = i
    · subst e; simp [hi]
    · simp [e]

theorem ActsBy.hold_all (h : ActsBy a f) (is : List (Fin 16)) (s : State) :
    (is.foldl f s).intake.hold = s.intake.hold := by
  induction is generalizing s with
  | nil => rfl
  | cons i is ih => exact (ih _).trans (h.hold s i)

theorem ActsBy.pixels (h : ActsBy a f) {is : List (Fin 16)} (hn : is.Nodup) {s : State}
    (hw : Store.wf PixelRec.initial s.store.pixels) (k : Nat) : (is.foldl f s).pixel k = a.pixelOf s is k := by
  induction is generalizing s with
  | nil => unfold SlotAction.pixelOf; split <;> rfl
  | cons i is ih =>
    obtain ⟨hi, hn⟩ := List.nodup_cons.mp hn
    rw [List.foldl_cons, ih hn (h.wf s i hw)]
    cases hs : s.slot i with
    | none =>
      rw [h.free s i hs]
      unfold SlotAction.pixelOf
      cases ho : (s.pixel k).owner with
      | none => rfl
      | some j =>
        by_cases e : j = i
        · subst e; simp [hs]
        · simp [e]
    | some sl =>
      have hp := h.pixel s i sl k hw hs
      by_cases ho : (s.pixel k).owner = some i
      · rw [if_pos ho] at hp
        have hdone : a.pixelOf (f s i) is k = (f s i).pixel k := by
          unfold SlotAction.pixelOf
          rw [hp]
          rcases h.owner sl (s.pixel k) with e | e
          · rw [e, ho]; simp [hi]
          · rw [e]
        rw [hdone, hp]
        simp [SlotAction.pixelOf, ho, hs]
      · rw [if_neg ho] at hp
        unfold SlotAction.pixelOf
        rw [hp]
        cases ho' : (s.pixel k).owner with
        | none => rfl
        | some j =>
          have e : j ≠ i := fun e => ho (e ▸ ho')
          simp [e, h.other s i j e]

/-- The outcomes are told in the order of the slots (R130). -/
theorem ActsBy.told_all (h : ActsBy a f) {is : List (Fin 16)} (hn : is.Nodup) (s : State) :
    (is.foldl f s).ev = told s (is.filterMap fun i => (s.slot i).bind a.outcome) := by
  induction is generalizing s with
  | nil => rfl
  | cons i is ih =>
    obtain ⟨hi, hn⟩ := List.nodup_cons.mp hn
    have hrest : (is.filterMap fun j => ((f s i).slot j).bind a.outcome) =
        is.filterMap fun j => (s.slot j).bind a.outcome :=
      List.filterMap_congr fun j hj => by rw [h.other s i j fun e => hi (e ▸ hj)]
    rw [List.foldl_cons, ih hn, hrest]
    cases hs : s.slot i with
    | none => rw [h.free s i hs]; simp [hs]
    | some sl =>
      have hlist : (i :: is).filterMap (fun j => (s.slot j).bind a.outcome) =
          (a.outcome sl).toList ++ is.filterMap fun j => (s.slot j).bind a.outcome := by
        cases ho : a.outcome sl <;> simp [hs, ho]
      rw [hlist, told_append]
      have hreserved : (f s i).reserved = s.reserved := by unfold State.reserved; rw [h.hold s i]
      exact told_congr (s := { s with ev := told s (a.outcome sl).toList }) (h.ev s i sl hs) hreserved _

theorem slotIds_nodup : slotIds.Nodup := List.nodup_finRange 16

theorem mem_slotIds (i : Fin 16) : i ∈ slotIds := List.mem_finRange i

theorem ActsBy.slot (h : ActsBy a f) (s : State) (i : Fin 16) :
    (slotIds.foldl f s).slot i = (s.slot i).bind a.next := by
  rw [h.slots slotIds_nodup, if_pos (mem_slotIds i)]

/-- A pixel whose owner is not FREE, after the operation on every slot. -/
theorem ActsBy.pixel_of_owned (h : ActsBy a f) {s : State} (hw : Store.wf PixelRec.initial s.store.pixels) {k : Nat}
    {i : Fin 16} {sl : Slot} (ho : (s.pixel k).owner = some i) (hs : s.slot i = some sl) :
    (slotIds.foldl f s).pixel k = a.pixel sl (s.pixel k) := by
  rw [h.pixels slotIds_nodup hw]; simp [SlotAction.pixelOf, ho, hs, mem_slotIds]

/-- A pixel that no busy slot owns stays through the operation on every slot. -/
theorem ActsBy.pixel_of_unowned (h : ActsBy a f) {s : State} (hw : Store.wf PixelRec.initial s.store.pixels) {k : Nat}
    (ho : ∀ i, (s.pixel k).owner = some i → s.slot i = none) : (slotIds.foldl f s).pixel k = s.pixel k := by
  rw [h.pixels slotIds_nodup hw]
  unfold SlotAction.pixelOf
  split
  · rfl
  · rename_i i hi
    simp [ho i hi]

/-! ### The ends of slots -/

theorem endSlot_ev (s : State) (i : Fin 16) (sl : Slot) (e : Ending) :
    (s.endSlot i sl e).ev = told s [slotOutcome sl e] :=
  notify_ev_congr (s := s) (t := s.setSlot i none) rfl rfl _ _

/-- The outcome of a slot is told as the Event and Reply Unit stands. -/
theorem endSlot_told {s t : State} (he : t.ev = s.ev) (hr : t.reserved = s.reserved) (i : Fin 16) (sl : Slot)
    (e : Ending) : t.endSlot i sl e = { t with
      ev := told s [slotOutcome sl e], sched := { t.sched with slots := t.sched.slots.set i none } } := by
  rw [endSlot_frame, endSlot_ev, told_congr he hr]

/-- A slot ends with an outcome, and gives up its pixels as `g` leaves them (R122, R123). -/
def State.endOwned (s : State) (i : Fin 16) (sl : Slot) (e : Ending) (g : PixelRec → PixelRec) : State :=
  (s.setPixels (mapOwned i g s.store.pixels)).endSlot i sl e

theorem endOwned_frame (s : State) (i : Fin 16) (sl : Slot) (e : Ending) (g : PixelRec → PixelRec) :
    s.endOwned i sl e g = { s with
      ev := told s [slotOutcome sl e]
      store := { s.store with pixels := mapOwned i g s.store.pixels }
      sched := { s.sched with slots := s.sched.slots.set i none } } := by
  unfold State.endOwned
  refine (endSlot_told (s := s) ?_ ?_ i sl e).trans ?_ <;> rfl

theorem endOwned_slot (s : State) (i : Fin 16) (sl : Slot) (e : Ending) (g : PixelRec → PixelRec) (j : Fin 16) :
    (s.endOwned i sl e g).slot j = (s.setSlot i none).slot j :=
  State.slot_of_sched (by rw [endOwned_frame]; rfl) j

theorem endOwned_pixel {s : State} (hw : Store.wf PixelRec.initial s.store.pixels) (i : Fin 16) (sl : Slot)
    (e : Ending) (g : PixelRec → PixelRec) (k : Nat) : (s.endOwned i sl e g).pixel k =
      if (s.pixel k).owner = some i then g (s.pixel k) else s.pixel k := by
  rw [endOwned_frame]; exact pixelAt_mapOwned hw.1 i g k

/-- Two states with the same pixels, slots, outcomes told and hold. -/
structure SameSlots (s t : State) : Prop where
  pixels : t.store.pixels = s.store.pixels
  slots : t.sched.slots = s.sched.slots
  ev : t.ev = s.ev
  hold : t.intake.hold = s.intake.hold

theorem SameSlots.pixel {s t : State} (h : SameSlots s t) (k : Nat) : t.pixel k = s.pixel k := by
  unfold State.pixel; rw [h.pixels]

theorem SameSlots.slot {s t : State} (h : SameSlots s t) (i : Fin 16) : t.slot i = s.slot i := by
  unfold State.slot; rw [h.slots]

/-- What an operation may do with a slot: end it with an outcome told, or change its fields alone. -/
def SlotAction.Does (a : SlotAction) (s t : State) (i : Fin 16) (sl : Slot) : Prop :=
  (∃ e, a.next sl = none ∧ a.outcome sl = some (slotOutcome sl e) ∧ (∀ p, (a.pixel sl p).owner = none) ∧
    SameSlots (s.endOwned i sl e (a.pixel sl)) t) ∨
  (a.outcome sl = none ∧ (∀ p, a.pixel sl p = p) ∧ SameSlots (s.setSlot i (a.next sl)) t)

theorem ActsBy.of_does (free : ∀ s i, s.slot i = none → f s i = s)
    (does : ∀ s i sl, s.slot i = some sl → a.Does s (f s i) i sl) (owner : ∀ sl p, (a.pixel sl p).owner = p.owner ∨
      (a.pixel sl p).owner = none) : ActsBy a f := by
  refine ⟨free, fun s i sl h => ?_, fun s i j hj => ?_, fun s i sl k hw h => ?_, owner, fun s i hw => ?_,
    fun s i sl h => ?_, fun s i => ?_⟩
  · rcases does s i sl h with ⟨e, hn, -, -, hs⟩ | ⟨-, -, hs⟩
    · rw [hs.slot, endOwned_slot, State.setSlot_slot_same, hn]
    · rw [hs.slot, State.setSlot_slot_same]
  · cases h : s.slot i with
    | none => rw [free s i h]
    | some sl =>
      rcases does s i sl h with ⟨e, -, -, -, hs⟩ | ⟨-, -, hs⟩
      · rw [hs.slot, endOwned_slot, State.setSlot_slot_other _ _ _ _ hj]
      · rw [hs.slot, State.setSlot_slot_other _ _ _ _ hj]
  · rcases does s i sl h with ⟨e, -, -, -, hs⟩ | ⟨-, hp, hs⟩
    · rw [hs.pixel, endOwned_pixel hw]
    · rw [hs.pixel, hp, ite_self]; rfl
  · cases h : s.slot i with
    | none => rw [free s i h]; exact hw
    | some sl =>
      rcases does s i sl h with ⟨e, -, -, -, hs⟩ | ⟨-, -, hs⟩
      · rw [hs.pixels, endOwned_frame]; exact mapOwned_wf hw.1 i _
      · rw [hs.pixels]; exact hw
  · rcases does s i sl h with ⟨e, -, ho, -, hs⟩ | ⟨ho, -, hs⟩
    · rw [hs.ev, endOwned_frame, ho]; rfl
    · rw [hs.ev, ho]; rfl
  · cases h : s.slot i with
    | none => rw [free s i h]
    | some sl =>
      rcases does s i sl h with ⟨e, -, -, -, hs⟩ | ⟨-, -, hs⟩
      · rw [hs.hold, endOwned_frame]
      · rw [hs.hold]; rfl

theorem SameSlots.refl (s : State) : SameSlots s s := ⟨rfl, rfl, rfl, rfl⟩

theorem phase_armed_iff {sl : Slot} : sl.isArmed = true ↔ sl.phase = .armed := by
  simp [Slot.isArmed]

theorem isRunning_iff {sl : Slot} : sl.isRunning = true ↔ ∃ index, sl.phase = .running index := by
  unfold Slot.isRunning
  cases sl.phase <;> simp

/-- HALT and FAULT on a slot (R123, R126, R127). -/
def cutAction : SlotAction where
  next _ := none
  pixel sl p := if sl.isRunning then p.aborted else p.released
  outcome sl := some (slotOutcome sl (if sl.isRunning then .aborted else .cancelled))

theorem cutSlot_acts : ActsBy cutAction State.cutSlot := by
  refine .of_does (fun s i h => by simp [State.cutSlot, h]) (fun s i sl h => .inl ⟨_, rfl, rfl, fun p => ?_, ?_⟩)
    fun sl p => .inr ?_
  · simp only [cutAction]; split <;> rfl
  · unfold State.cutSlot
    simp only [h, cutAction]
    cases sl.isRunning <;> exact .refl _
  · simp only [cutAction]; split <;> rfl

/-- A soft reset on a slot's pixels (R13). -/
def resetAction : SlotAction where
  next sl := some sl
  pixel sl p := if sl.isRunning then p.aborted else p.released
  outcome _ := none

theorem resetSlotPixels_eq {s : State} {i : Fin 16} {sl : Slot} (h : s.slot i = some sl) : s.resetSlotPixels i =
    s.setPixels (mapOwned i (resetAction.pixel sl) s.store.pixels) := by
  unfold State.resetSlotPixels
  simp only [h, resetAction]
  cases sl.isRunning <;> rfl

theorem resetSlotPixels_frame (s : State) (i : Fin 16) : s.resetSlotPixels i = { s with
    store := { s.store with pixels := (s.resetSlotPixels i).store.pixels } } := by
  unfold State.resetSlotPixels
  split <;> rfl

theorem resetSlotPixels_acts : ActsBy resetAction State.resetSlotPixels := by
  refine ⟨fun s i h => ?_, fun s i sl h => ?_, fun s i j hj => ?_, fun s i sl k hw h => ?_, fun sl p => ?_,
    fun s i hw => ?_, fun s i sl h => ?_, fun s i => ?_⟩
  · simp [State.resetSlotPixels, h]
  · rw [resetSlotPixels_frame]; exact h
  · rw [resetSlotPixels_frame]; rfl
  · rw [resetSlotPixels_eq h]; exact pixelAt_mapOwned hw.1 i _ k
  · right; simp only [resetAction]; split <;> rfl
  · cases h : s.slot i with
    | none => simpa [State.resetSlotPixels, h] using hw
    | some sl => rw [resetSlotPixels_eq h]; exact mapOwned_wf hw.1 i _
  · rw [resetSlotPixels_frame]; rfl
  · rw [resetSlotPixels_frame]

/-- A CANCEL on a slot (R124). -/
def cancelAction (tag : Byte) : SlotAction where
  next sl := if sl.tag ≠ tag then some sl else if sl.phase = .armed then none else some { sl with cancel := true }
  pixel sl p := if sl.tag = tag ∧ sl.phase = .armed then p.released else p
  outcome sl := if sl.tag = tag ∧ sl.phase = .armed then some (slotOutcome sl .cancelled) else none

theorem setSlot_self {s : State} {i : Fin 16} {sl : Slot} (h : s.slot i = some sl) :
    SameSlots (s.setSlot i (some sl)) s := by
  refine ⟨rfl, ?_, rfl, rfl⟩
  rw [← h]
  simp [State.setSlot, State.slot]

theorem cancelSlot_other {tag : Byte} {s : State} {i : Fin 16} {sl : Slot} (h : s.slot i = some sl)
    (ht : sl.tag ≠ tag) : s.cancelSlot tag i = s := by
  simp [State.cancelSlot, h, ht]

theorem cancelSlot_armed {tag : Byte} {s : State} {i : Fin 16} {sl : Slot} (h : s.slot i = some sl)
    (ht : sl.tag = tag) (ha : sl.phase = .armed) :
    s.cancelSlot tag i = (s.endOwned i sl .cancelled PixelRec.released).trigger := by
  simp [State.cancelSlot, h, ht, phase_armed_iff.mpr ha, State.releaseSlot, State.endOwned]

theorem cancelSlot_marks {tag : Byte} {s : State} {i : Fin 16} {sl : Slot} (h : s.slot i = some sl)
    (ht : sl.tag = tag) (ha : sl.phase ≠ .armed) :
    s.cancelSlot tag i = s.setSlot i (some { sl with cancel := true }) := by
  simp [State.cancelSlot, h, ht, mt phase_armed_iff.mp ha]

theorem cancelSlot_acts (tag : Byte) : ActsBy (cancelAction tag) (State.cancelSlot tag) := by
  refine .of_does (fun s i h => by simp [State.cancelSlot, h]) (fun s i sl h => ?_) fun sl p => ?_
  · by_cases ht : sl.tag = tag
    · by_cases ha : sl.phase = .armed
      · have hpixel : (cancelAction tag).pixel sl = PixelRec.released := by funext p; simp [cancelAction, ht, ha]
        refine .inl ⟨.cancelled, by simp [cancelAction, ht, ha], by simp [cancelAction, ht, ha], fun p => ?_, ?_⟩
        · rw [hpixel]; rfl
        · rw [cancelSlot_armed h ht ha, hpixel]; exact ⟨rfl, rfl, rfl, rfl⟩
      · refine .inr ⟨by simp [cancelAction, ha], fun p => by simp [cancelAction, ha], ?_⟩
        rw [cancelSlot_marks h ht ha]
        simpa [cancelAction, ht, ha] using SameSlots.refl _
    · refine .inr ⟨by simp [cancelAction, ht], fun p => by simp [cancelAction, ht], ?_⟩
      rw [cancelSlot_other h ht]
      simpa [cancelAction, ht] using setSlot_self h
  · simp only [cancelAction]
    split
    · exact .inr rfl
    · exact .inl rfl

/-- A frame end on a slot (R121 to R123). -/
def frameAction : SlotAction where
  next sl :=
    match sl.phase with
    | .running index =>
      if sl.frames ≤ index + 1 then none
      else if sl.cancel then none
      else some { sl with phase := .running (index + 1) }
    | .latching => some sl
    | .armed => some sl
  pixel sl p :=
    match sl.phase with
    | .running index => if sl.frames ≤ index + 1 then p.completed else if sl.cancel then p.aborted else p
    | .latching => p
    | .armed => p
  outcome sl :=
    match sl.phase with
    | .running index =>
      if sl.frames ≤ index + 1 then some (slotOutcome sl .done)
      else if sl.cancel then some (slotOutcome sl .aborted)
      else none
    | .latching => none
    | .armed => none

/-- The slot completes at the frame end. -/
def Slot.completing (sl : Slot) : Bool :=
  match sl.phase with
  | .running index => decide (sl.frames ≤ index + 1)
  | .latching => false
  | .armed => false

theorem frameSlot_still {s : State} {i : Fin 16} {sl : Slot} (h : s.slot i = some sl)
    (hp : ∀ index, sl.phase ≠ .running index) : s.frameSlot i = s := by
  unfold State.frameSlot
  simp only [h]
  cases hp' : sl.phase with
  | running index => exact absurd hp' (hp index)
  | latching => rfl
  | armed => rfl

theorem frameSlot_completes {s : State} {i : Fin 16} {sl : Slot} {index : Nat} (h : s.slot i = some sl)
    (hp : sl.phase = .running index) (hf : sl.frames ≤ index + 1) : s.frameSlot i =
      { s.endOwned i sl .done PixelRec.completed with
        residue := residueReport s.store.panel sl.mode sl.rect sl.tiles s.residue } := by
  rw [endOwned_frame]
  simp only [State.frameSlot, h, hp, if_pos hf, State.completeSlot]
  refine (endSlot_told (s := s) ?_ ?_ i sl .done).trans ?_ <;> rfl

theorem frameSlot_aborts {s : State} {i : Fin 16} {sl : Slot} {index : Nat} (h : s.slot i = some sl)
    (hp : sl.phase = .running index) (hf : ¬ sl.frames ≤ index + 1) (hc : sl.cancel = true) :
    s.frameSlot i = s.endOwned i sl .aborted PixelRec.aborted := by
  simp only [State.frameSlot, h, hp, if_neg hf, if_pos hc]; rfl

theorem frameSlot_advances {s : State} {i : Fin 16} {sl : Slot} {index : Nat} (h : s.slot i = some sl)
    (hp : sl.phase = .running index) (hf : ¬ sl.frames ≤ index + 1) (hc : sl.cancel = false) :
    s.frameSlot i = s.setSlot i (some { sl with phase := .running (index + 1) }) := by
  simp [State.frameSlot, h, hp, hf, hc]

theorem frameSlot_acts : ActsBy frameAction State.frameSlot := by
  refine .of_does (fun s i h => by simp [State.frameSlot, h]) (fun s i sl h => ?_) fun sl p => ?_
  · by_cases hp : ∃ index, sl.phase = .running index
    · obtain ⟨index, hp⟩ := hp
      by_cases hf : sl.frames ≤ index + 1
      · have hpixel : frameAction.pixel sl = PixelRec.completed := by funext p; simp [frameAction, hp, hf]
        refine .inl ⟨.done, by simp [frameAction, hp, hf], by simp [frameAction, hp, hf], fun p => ?_, ?_⟩
        · rw [hpixel]; rfl
        · rw [frameSlot_completes h hp hf, hpixel]; exact ⟨rfl, rfl, rfl, rfl⟩
      · cases hc : sl.cancel
        · refine .inr ⟨by simp [frameAction, hp, hf, hc], fun p => by simp [frameAction, hp, hf, hc], ?_⟩
          rw [frameSlot_advances h hp hf hc]
          simpa [frameAction, hp, hf, hc] using SameSlots.refl _
        · have hpixel : frameAction.pixel sl = PixelRec.aborted := by funext p; simp [frameAction, hp, hf, hc]
          refine .inl ⟨.aborted, by simp [frameAction, hp, hf, hc], by simp [frameAction, hp, hf, hc], fun p => ?_, ?_⟩
          · rw [hpixel]; rfl
          · rw [frameSlot_aborts h hp hf hc, hpixel]; exact .refl _
    · have hp : ∀ index, sl.phase ≠ .running index := fun index e => hp ⟨index, e⟩
      rw [frameSlot_still h hp]
      have hstill : frameAction.next sl = some sl ∧ frameAction.outcome sl = none ∧
          ∀ p, frameAction.pixel sl p = p := by
        cases hp' : sl.phase with
        | running index => exact absurd hp' (hp index)
        | latching => simp [frameAction, hp']
        | armed => simp [frameAction, hp']
      obtain ⟨hn, ho, hpix⟩ := hstill
      exact .inr ⟨ho, hpix, hn ▸ setSlot_self h⟩
  · simp only [frameAction]
    split
    · split
      · exact .inr rfl
      · split
        · exact .inr rfl
        · exact .inl rfl
    · exact .inl rfl
    · exact .inl rfl

end Sys2Proof.Machine
end

section
/-! SUPPORT. HALT and the entry to FAULT: every slot is ended at once (R126, R127, R144). -/

namespace Sys2Proof.Machine

open Host (Outcome)

/-! ### Flags -/

theorem setFlag_flag (s : State) (f g : Flag) : (s.setFlag f).flag g = (s.flag g || decide (f = g)) := by
  cases f <;> cases g <;> simp [State.setFlag, State.flag, Flag.bit]

theorem notify_flag {f : Flag} (hd : f ≠ .done) (hl : f ≠ .noticelost) (s : State) (w : Bool) (n : Notice) :
    (s.notify w n).flag f = s.flag f := by
  unfold State.notify
  split
  · rfl
  · split
    · simp [setFlag_flag, hl.symm]
    · rw [setFlag_flag, decide_eq_false hd.symm, Bool.or_false]; rfl

/-- Outcomes told set no other flag than DONE and NOTICELOST (R130). -/
theorem told_flag {f : Flag} (hd : f ≠ .done) (hl : f ≠ .noticelost) (s : State) (os : List (Bool × Notice)) :
    (told s os).flags.getLsbD f.bit = s.flag f := by
  unfold told
  induction os generalizing s with
  | nil => rfl
  | cons o os ih => exact (ih _).trans (notify_flag hd hl s o.1 o.2)

/-! ### What ends or resets every slot leaves of the pixels (R13, R123, R126, R127) -/

/-- The pixels once every slot of `s` has given them up, the walks having got on to `u` first: those of a RUNNING
slot are UNKNOWN. -/
structure GivenUp (s u t : State) : Prop where
  owner : ∀ k, (t.pixel k).owner = none
  target : ∀ k, (t.pixel k).target = (s.pixel k).target
  goal : ∀ k, (t.pixel k).goal = (u.pixel k).goal
  running : ∀ k i sl, (s.pixel k).owner = some i → s.slot i = some sl → sl.isRunning = true →
    (t.pixel k).shown = none
  others : ∀ k, (∀ i sl, (s.pixel k).owner = some i → s.slot i = some sl → sl.isRunning = false) →
    (t.pixel k).shown = (s.pixel k).shown

theorem givenUp_of_acts {a : SlotAction} {f : State → Fin 16 → State} (h : ActsBy a f)
    (ha : ∀ sl p, a.pixel sl p = if sl.isRunning then p.aborted else p.released) {s u : State} (hu : WalkedOn s u)
    (ho : OwnersLegal s) (hw : Store.wf PixelRec.initial s.store.pixels) : GivenUp s u (slotIds.foldl f u) := by
  have walked := hu.walked
  have hw' := walked.wf hw
  have pixel : ∀ k, (u.pixel k).owner = none ∧ (slotIds.foldl f u).pixel k = u.pixel k ∨
      ∃ i sl, (u.pixel k).owner = some i ∧ u.slot i = some sl ∧ (slotIds.foldl f u).pixel k =
        if sl.isRunning then (u.pixel k).aborted else (u.pixel k).released := by
    intro k
    cases hk : (u.pixel k).owner with
    | none => exact .inl ⟨rfl, h.pixel_of_unowned hw' fun i hi => by rw [hk] at hi; cases hi⟩
    | some i =>
      obtain ⟨sl, hsl⟩ := Option.isSome_iff_exists.mp (walked.owner_slot ho hk)
      exact .inr ⟨i, sl, rfl, hsl, by rw [h.pixel_of_owned hw' hk hsl, ha]⟩
  refine ⟨fun k => ?_, fun k => ?_, fun k => ?_, fun k i sl hk hs hr => ?_, fun k hk => ?_⟩
  · rcases pixel k with ⟨hk, e⟩ | ⟨i, sl, -, -, e⟩
    · rw [e, hk]
    · rw [e]; split <;> rfl
  · rw [← walked.target k]
    rcases pixel k with ⟨-, e⟩ | ⟨i, sl, -, -, e⟩
    · rw [e]
    · rw [e]; split <;> rfl
  · rcases pixel k with ⟨-, e⟩ | ⟨i, sl, -, -, e⟩
    · rw [e]
    · rw [e]; split <;> rfl
  · have hrun : sl.phase ≠ .latching := by
      obtain ⟨index, hp⟩ := isRunning_iff.mp hr
      simp [hp]
    have hk' : u.pixel k = s.pixel k := walked.owned k (by rw [hk]; rfl)
    rw [h.pixel_of_owned hw' (hk' ▸ hk) (walked.driving ho hs hrun), ha, if_pos hr]
    rfl
  · rw [← walked.shown k]
    rcases pixel k with ⟨-, e⟩ | ⟨i, sl, hi, hsl, e⟩
    · rw [e]
    · have hstill : sl.isRunning = false := by
        obtain ⟨sl', hs', hr'⟩ := walked.running hsl
        rw [← hr']
        rcases walked.claimed k with hc | ⟨j, todo, hc, -, hp⟩
        · exact hk i sl' (hc ▸ hi) hs'
        · obtain ⟨sl'', hs'', hphase⟩ := ho.walking j todo hp
          obtain rfl : j = i := Option.some.inj (hc.symm.trans hi)
          obtain rfl : sl' = sl'' := Option.some.inj (hs'.symm.trans hs'')
          simp [Slot.isRunning, hphase]
      rw [e, hstill]; rfl

/-- The pixels alone count for `GivenUp`. -/
theorem GivenUp.congr {s s' u t t' : State} (h : GivenUp s u t) (hs : s'.store.pixels = s.store.pixels)
    (hl : s'.sched.slots = s.sched.slots) (ht : t'.store.pixels = t.store.pixels) : GivenUp s' u t' := by
  have pixel : ∀ k, t'.pixel k = t.pixel k := fun k => by unfold State.pixel; rw [ht]
  have pixel' : ∀ k, s'.pixel k = s.pixel k := fun k => by unfold State.pixel; rw [hs]
  have slot : ∀ i, s'.slot i = s.slot i := fun i => by unfold State.slot; rw [hl]
  refine ⟨fun k => ?_, fun k => ?_, fun k => ?_, fun k => ?_, fun k => ?_⟩
  · rw [pixel]; exact h.owner k
  · rw [pixel, pixel']; exact h.target k
  · rw [pixel]; exact h.goal k
  · simp only [pixel, pixel', slot]; exact h.running k
  · simp only [pixel, pixel', slot]; exact h.others k

theorem slot_of_slots {s t : State} (h : t.sched.slots = s.sched.slots) (i : Fin 16) : t.slot i = s.slot i := by
  unfold State.slot; rw [h]

/-! ### Every slot is ended (R126, R127) -/

theorem anyBusy_eq_false_iff {s : State} : s.anyBusy = false ↔ ∀ i, s.slot i = none := by
  rw [← Bool.not_eq_true, anyBusy_iff]; simp

theorem cutSlots_eq (s : State) : s.cutSlots = slotIds.foldl State.cutSlot (atCut s) := by
  unfold State.cutSlots atCut
  split
  · rfl
  · rename_i h
    rw [Bool.not_eq_true, anyBusy_eq_false_iff] at h
    exact (List.foldl_fixed' (fun i => cutSlot_acts.free s i (h i)) slotIds).symm

theorem atCut_still {s : State} (h : s.anyBusy = false) : atCut s = s := by
  simp [atCut, h]

theorem cutSlots_slot (s : State) (i : Fin 16) : s.cutSlots.slot i = none := by
  rw [cutSlots_eq, cutSlot_acts.slot]
  cases (atCut s).slot i <;> rfl

/-- The outcomes of a HALT or a fault are told slot by slot, in ascending order (R123, R130). -/
theorem cutSlots_ev (s : State) : s.cutSlots.ev = told (atCut s) (cutOutcomes (atCut s)) := by
  have houtcomes : cutOutcomes (atCut s) = slotIds.filterMap fun i => ((atCut s).slot i).bind cutAction.outcome := by
    refine List.filterMap_congr fun i _ => ?_
    cases (atCut s).slot i with
    | none => rfl
    | some sl => cases hp : sl.phase <;> simp [cutAction, Slot.isRunning, hp]
  rw [cutSlots_eq, cutSlot_acts.told_all slotIds_nodup, houtcomes]

theorem cutSlots_hold (s : State) : s.cutSlots.intake.hold = (atCut s).intake.hold := by
  rw [cutSlots_eq, cutSlot_acts.hold_all]

theorem cutSlots_givenUp {s : State} (ho : OwnersLegal s) (hw : Store.wf PixelRec.initial s.store.pixels) :
    GivenUp s (atCut s) s.cutSlots := by
  rw [cutSlots_eq]
  exact givenUp_of_acts cutSlot_acts (fun _ _ => rfl) (atCut_walkedOn s) ho hw

theorem cutSlots_suspended (s : State) : s.cutSlots.suspended = s.suspended := by
  have hf := cutSlots_frame s
  rw [← (atCut_walkedOn s).suspended]
  have hu := (atCut_walkedOn s).frame
  exact suspended_congr (by rw [hf, hu]) (by rw [hf, hu]) (by rw [hf, hu]) (by rw [cutSlots_hold])
    (by rw [cutSlots_hold])

/-! ### FAULT (R144) -/

/-- The Dispatcher's hold once the rails are in FAULT: an UPDATE is free, its first pass begun or not (log 10). -/
def Hold.afterFault : Hold → Hold
  | .update _ => .free
  | h => h

theorem freeUpdate_always_eq (s : State) : s.freeUpdate true = { s with
    intake := { s.intake with hold := s.intake.hold.afterFault } } := by
  obtain ⟨_, ⟨_, hold⟩, _, _, _, _, _, _, _, _, _, _, _, _, _⟩ := s
  cases hold with
  | update begun => simp [State.freeUpdate, State.setHold, Hold.afterFault]
  | _ => rfl

theorem enterFault_faulted {s : State} (b : Bool) (ho : OwnersLegal s) (hw : Store.wf PixelRec.initial s.store.pixels) :
    faulted s (s.setPgood b).enterFault ∧ (s.setPgood b).enterFault.rails.pgood = b := by
  have hframe := enterFault_frame (s.setPgood b)
  have hrails : (s.setPgood b).enterFault.rails =
      { s.rails with state := .fault, rise := none, hold := none, fall := none, pgood := b } := by rw [hframe]; rfl
  have hflagged : State.setFlag { s with rails := (s.setPgood b).enterFault.rails } .railfault =
      (s.setPgood b).failing := by rw [hrails]; rfl
  have hend := (enterFault_eq (s.setPgood b)).trans (freeUpdate_always_eq _)
  have hev : (s.setPgood b).enterFault.ev = told (atCut (s.setPgood b).failing)
      (cutOutcomes (atCut (s.setPgood b).failing)) := by rw [hend]; exact cutSlots_ev _
  have hgiven : GivenUp s (atCut (s.setPgood b).failing) (s.setPgood b).enterFault :=
    (cutSlots_givenUp (s := (s.setPgood b).failing) ⟨ho.owners, ho.taken, ho.driving, ho.unknown, ho.latching,
      ho.walking, ho.reading⟩ hw).congr rfl rfl (by rw [hend]; rfl)
  refine ⟨⟨⟨_, rfl, atCut_walkedOn _, fun h => atCut_still h, ?_, ?_, ?_⟩, ?_, ?_, ?_, ?_, ?_, fun i => ?_, ?_,
    fun k => ⟨hgiven.owner k, hgiven.target k⟩, hgiven.running, hgiven.others, ?_⟩, ?_⟩
  · rw [hflagged]; exact hev
  · rw [hflagged]; exact hgiven.goal
  · have hhold : (s.setPgood b).enterFault.intake.hold = (atCut (s.setPgood b).failing).intake.hold.afterFault := by
      rw [hend, ← cutSlots_hold]; rfl
    have hsame : (s.setPgood b).failing.intake.hold = s.intake.hold := rfl
    rw [hflagged, hhold]
    rcases (atCut_walkedOn (s.setPgood b).failing).2.1.cases with e | ⟨r, r', e, e'⟩
    · rw [e, hsame]
      cases s.intake.hold <;> rfl
    · rw [e', ← hsame, e]; rfl
  · rw [hrails]
  · simp [State.railEn, hrails]
  · show State.flag _ _ = true
    unfold State.flag
    rw [hev, told_flag (by simp) (by simp)]
    have hu := (atCut_walkedOn (s.setPgood b).failing).frame
    have hset : (atCut (s.setPgood b).failing).flag .railfault = (s.setPgood b).failing.flag .railfault := by
      unfold State.flag; rw [hu]
    rw [hset, State.failing, setFlag_flag]; simp
  · rw [hframe]
  · rw [hframe]
  · exact (slot_of_slots (by rw [hend]; rfl) i).trans (cutSlots_slot (s.setPgood b).failing i)
  · have hreq : (s.setPgood b).enterFault.sched.requests =
        (s.setPgood b).failing.cutSlots.sched.requests.map fun r : Request => { r with due := false } := by
      rw [hend]; rfl
    rw [hreq, cutSlots_frame]; rfl
  · conv_lhs => rw [hframe]
    rw [hrails]; rfl
  · rw [hrails]

/-! ### The rails (R140, R141) -/

/-- The hold timer starts, or has expired as it starts (R141). -/
theorem startHold_eq (s : State) : s.startHold = { s with
    rails := if s.store.panel.holdTime = 0 then { s.rails with
        state := .falling, rise := none, hold := none, fall := some s.store.panel.fallTime }
      else { s.rails with hold := some s.store.panel.holdTime } } := by
  unfold State.startHold
  split <;> rfl

theorem start_of_armed {sl : Slot} (h : sl.phase = .armed) : sl.start = { sl with phase := .running 0 } := by
  simp [Slot.start, phase_armed_iff.mpr h]

theorem start_of_not_armed {sl : Slot} (h : sl.phase ≠ .armed) : sl.start = sl := by
  simp [Slot.start, mt phase_armed_iff.mp h]

/-- A frame drives the ARMED slots (R132). -/
theorem startFrame_slot_armed {s : State} {i : Fin 16} {sl : Slot} (h : s.slot i = some sl) (ha : sl.phase = .armed) :
    s.startFrame.slot i = some { sl with phase := .running 0 } := by
  rw [State.startFrame_slot, h, ← start_of_armed ha]; rfl

theorem startFrame_slot_other {s : State} {i : Fin 16} (h : ∀ sl, s.slot i = some sl → sl.phase ≠ .armed) :
    s.startFrame.slot i = s.slot i := by
  rw [State.startFrame_slot]
  cases hs : s.slot i with
  | none => rfl
  | some sl => rw [Option.map_some, start_of_not_armed (h sl hs)]

/-- Settles O38: the branches of the rails' state; the entry to FAULT by `enterFault_faulted`. -/
theorem pgoodAndRiseTimerMoveRails : Obligations.PgoodAndRiseTimerMoveRails := by
  intro s
  have asserted : exec .pgoodAsserted s =
      .next (if s.rails.state = .rising then (s.setPgood true).reachOn else s.setPgood true) := rfl
  have lost : exec .pgoodLost s =
      .next (if s.rails.state = .on then (s.setPgood false).enterFault else s.setPgood false) := rfl
  have reach : (s.setPgood true).reachOn =
      if s.anyArmed then State.startFrame { s with rails := { s.rails with state := .on, rise := none, pgood := true } }
      else State.startHold { s with rails := { s.rails with state := .on, rise := none, pgood := true } } := rfl
  refine ⟨?_, fun hr ha => ?_, fun hr ha hh => ?_, fun hr ha hh => ?_, fun hr => ?_, fun hr => ?_, fun ho hw =>
    ⟨fun hr => ?_, fun hr hrise => ?_⟩⟩
  · cases h : s.rails.state <;> simp [State.railEn, h]
  · rw [asserted, if_pos hr, reach, if_pos ha]
    exact ⟨_, rfl, rfl, rfl, fun i sl => startFrame_slot_armed (s := s), fun i => startFrame_slot_other (s := s), rfl⟩
  · rw [asserted, if_pos hr, reach, if_neg (by simp [ha]), startHold_eq, if_neg (Nat.pos_iff_ne_zero.mp hh)]
  · rw [asserted, if_pos hr, reach, if_neg (by simp [ha]), startHold_eq, if_pos hh]
  · rw [asserted, if_neg hr]; rfl
  · rw [lost, if_neg hr]; rfl
  · rw [lost, if_pos hr]
    exact ⟨_, rfl, enterFault_faulted false ho hw⟩
  · have expiry : exec .riseTimerExpiry s = .next s.enterFault :=
      congrArg Outcome.next (if_pos ⟨hr, hrise⟩)
    exact ⟨_, expiry, enterFault_faulted s.rails.pgood ho hw⟩

/-! ### HALT (R126) -/

/-- The hold timer starts when the last slot that drove has gone, with the rails ON (R141). -/
theorem holdIfLeft_rails {s : State} (h : s.anyDriving = false) (before : Bool) : s.holdIfLeft before = { s with
    rails := if before = true ∧ s.rails.state = .on then s.startHold.rails else s.rails } := by
  unfold State.holdIfLeft
  rw [h]
  by_cases hb : before = true ∧ s.rails.state = .on
  · rw [if_pos hb, if_pos (by simp [hb]), startHold_eq]
  · rw [if_neg hb, if_neg (by simpa using hb)]

theorem triggerIf_eq (s : State) (c : Bool) : (if c then s.trigger else s) =
    { s with sched := { s.sched with passDue := s.sched.passDue || c && !s.suspended } } := by
  cases c
  · simp
  · rfl

theorem cutSlots_tells (s : State) (os : List (Bool × Notice)) : told s.cutSlots os =
    told (atCut s) (cutOutcomes (atCut s) ++ os) := by
  have hreserved : s.cutSlots.reserved = (atCut s).reserved := by unfold State.reserved; rw [cutSlots_hold]
  rw [told_append]
  exact told_congr (s := { atCut s with ev := told (atCut s) (cutOutcomes (atCut s)) }) (cutSlots_ev s) hreserved os

/-- A HALT removes every request, told in queue order, and ends the pass and the frame (R126). -/
theorem dismiss_eq (c : State) : State.endPass { c.sched.requests.foldl
      (fun s r => s.notify r.notify (r.notice .cancelled none)) (c.setRequests []) with scan := none } = { c with
    intake := { c.intake with hold := c.intake.hold.afterPass }
    ev := told c (c.sched.requests.map fun r => requestOutcome r .cancelled)
    sched := { c.sched with requests := [], pass := none, passDue := c.sched.passDue && !c.suspended }
    scan := none } := by
  rw [tellRequests_eq, endPass_eq, told_congr (s := c) (t := c.setRequests []) rfl rfl]
  rfl

theorem haltAll_dismisses (s : State) : s.haltAll = State.holdIfLeft { s.cutSlots with
    intake := { s.cutSlots.intake with hold := (atCut s).intake.hold.afterPass }
    ev := told (atCut s) (cutOutcomes (atCut s) ++ s.sched.requests.map fun r => requestOutcome r .cancelled)
    sched := { s.cutSlots.sched with
      requests := [], pass := none, passDue := (s.sched.passDue || s.anyBusy) && !s.suspended }
    scan := none } s.anyDriving := by
  have hf := cutSlots_frame s
  have hreq : s.cutSlots.sched.requests = s.sched.requests := by rw [hf]
  have hdue : s.cutSlots.sched.passDue = s.sched.passDue := by rw [hf]
  have start : ∀ c : State, (if s.anyBusy then s.cutSlots.trigger else s.cutSlots) = c → s.haltAll = State.holdIfLeft
      (State.endPass { c.sched.requests.foldl (fun s r => s.notify r.notify (r.notice .cancelled none))
        (c.setRequests []) with scan := none }) s.anyDriving := by
    rintro c rfl; rfl
  have hbool : ((s.sched.passDue || s.anyBusy && !s.suspended) && !s.suspended) =
      ((s.sched.passDue || s.anyBusy) && !s.suspended) := by
    cases s.suspended <;> simp
  have htold : ∀ due os, told { s.cutSlots with sched := { s.cutSlots.sched with passDue := due } } os =
      told s.cutSlots os := by
    intro due os
    apply told_congr <;> rfl
  rw [start _ (triggerIf_eq s.cutSlots s.anyBusy), cutSlots_suspended, hdue, dismiss_eq, ← hbool, ← cutSlots_hold,
    ← cutSlots_tells, ← cutSlots_suspended s, ← hreq, htold]
  rfl

theorem anyDriving_of_free {s : State} (h : ∀ i, s.slot i = none) : s.anyDriving = false := by
  simp [State.anyDriving, State.anySlot, h]

/-- HALT, field by field (R126). -/
theorem haltAll_eq (s : State) : s.haltAll = { s with
    intake := { s.intake with hold := (atCut s).intake.hold.afterPass }
    ev := told (atCut s) (cutOutcomes (atCut s) ++ s.sched.requests.map fun r => requestOutcome r .cancelled)
    store := { s.store with pixels := s.cutSlots.store.pixels }
    sched := { s.sched with
      slots := s.cutSlots.sched.slots, requests := [], pass := none
      passDue := (s.sched.passDue || s.anyBusy) && !s.suspended }
    scan := none
    rails := if s.anyDriving = true ∧ s.rails.state = .on then s.startHold.rails else s.rails
    freeCount := s.cutSlots.freeCount } := by
  have hf := cutSlots_frame s
  have hrails : s.cutSlots.rails = s.rails := by rw [hf]
  have hpanel : s.cutSlots.store.panel = s.store.panel := by rw [hf]
  rw [haltAll_dismisses, holdIfLeft_rails]
  · simp only [startHold_eq, hrails, hpanel]
    rw [hf]
  · exact anyDriving_of_free (cutSlots_slot s)

/-- Settles O36: every slot is ended from the state in which its latch walk has got on, and the rest of HALT is told
by `haltAll_eq`. -/
theorem haltEndsEverything : Obligations.HaltEndsEverything := by
  refine ⟨fun s body he hb => ?_, fun s he ho hw => ?_⟩
  · show Outcome.next _ = _
    rw [express_of_expressed he, if_pos hb]; rfl
  have hexec : exec (.halt []) s = .next (received s).haltAll := by
    show Outcome.next _ = _
    rw [express_of_expressed (body := []) he, if_neg (by simp)]
  have hf := cutSlots_frame (received s)
  have ho' : OwnersLegal (received s) :=
    ⟨ho.owners, ho.taken, ho.driving, ho.unknown, ho.latching, ho.walking, ho.reading⟩
  have hgiven : GivenUp s (atCut (received s)) (received s).cutSlots :=
    (cutSlots_givenUp ho' hw).congr rfl rfl rfl
  have hu := atCut_walkedOn (received s)
  rw [haltAll_eq] at hexec
  refine ⟨_, hexec, cutSlots_slot (received s), rfl, rfl, rfl, ⟨_, rfl, hu, fun h => atCut_still h,
    fun i sl hs hp => hu.walked.driving ho' hs hp, rfl, hgiven.goal, ?_⟩,
    fun k => ⟨hgiven.owner k, hgiven.target k⟩, hgiven.running, hgiven.others, ?_, rfl, rfl, rfl, rfl, rfl, rfl, rfl,
    rfl, rfl, rfl, fun hon hd => ?_, fun h => ?_⟩
  · show (atCut (received s)).intake.hold.afterPass = _
    have hsame : (received s).intake.hold = s.intake.hold := rfl
    rcases hu.2.1.cases with e | ⟨r, r', e, e'⟩
    · rw [e, hsame]
      cases s.intake.hold with
      | update begun => cases begun <;> rfl
      | _ => rfl
    · rw [e', ← hsame, e]; rfl
  · have hflag : (atCut (received s)).flag .collide = s.flag .collide := by
      unfold State.flag; rw [hu.frame]; rfl
    exact (told_flag (by simp) (by simp) _ _).trans hflag
  · show (if _ then _ else _) = _
    rw [if_pos ⟨hd, hon⟩, startHold_eq]; rfl
  · exact if_neg fun ⟨hd, hon⟩ => h.elim (fun h => h hon) fun h => absurd (h.symm.trans hd) (by simp)

end Sys2Proof.Machine
end

section
/-! SUPPORT. The soft reset, block by block (R168). -/

namespace Sys2Proof.Machine

open Host (Outcome)

/-! ### Pixels (R13, R50) -/

theorem resetSlotList_frame (is : List (Fin 16)) (s : State) : is.foldl State.resetSlotPixels s = { s with
    store := { s.store with pixels := (is.foldl State.resetSlotPixels s).store.pixels } } := by
  induction is generalizing s with
  | nil => rfl
  | cons i is ih => rw [List.foldl_cons, ih, resetSlotPixels_frame s i]

theorem abandonDraw_frame (s : State) : s.abandonDraw = { s with
    store := { s.store with pixels := s.abandonDraw.store.pixels }, freeCount := s.abandonDraw.freeCount } := by
  unfold State.abandonDraw
  split <;> rfl

/-- An abandoned draw record writes targets alone. -/
theorem abandonDraw_fields (s : State) (k : Nat) : (s.abandonDraw.pixel k).shown = (s.pixel k).shown ∧
    (s.abandonDraw.pixel k).goal = (s.pixel k).goal ∧ (s.abandonDraw.pixel k).owner = (s.pixel k).owner := by
  unfold State.abandonDraw
  split
  · exact pixelAt_writeTargets_fields _ _ k
  · exact ⟨rfl, rfl, rfl⟩

theorem abandonDraw_writing {s : State} {kind : DrawKind} {writes : List (Nat × Tone)}
    (h : s.comp.draw = some (.writing kind writes)) : ∃ n, kind.made ≤ n ∧
      s.abandonDraw.store.pixels = writeTargets s.store.pixels (writes.take n) := by
  unfold State.abandonDraw
  rw [h]
  exact ⟨_, le_max_left _ _, rfl⟩

theorem abandonDraw_other {s : State} (h : ∀ kind writes, s.comp.draw ≠ some (.writing kind writes)) :
    s.abandonDraw = s := by
  unfold State.abandonDraw
  split
  · rename_i kind writes e; exact absurd e (h kind writes)
  · rfl

/-- Target writes leave equal targets where the targets were equal. -/
theorem writeTargets_target {m m' : List (Nat × PixelRec)} {k : Nat} (h : (pixelAt m k).target = (pixelAt m' k).target)
    (ws : List (Nat × Tone)) : (pixelAt (writeTargets m ws) k).target = (pixelAt (writeTargets m' ws) k).target := by
  rw [pixelAt_writeTargets_last, pixelAt_writeTargets_last]
  cases (ws.filter fun w => w.1 = k).getLast? with
  | none => exact h
  | some w => rfl

/-- The pixels of a soft reset before its draw record is abandoned: every slot has given them up. -/
theorem resetSlots_givenUp {s : State} (ho : OwnersLegal s) (hw : Store.wf PixelRec.initial s.store.pixels) :
    GivenUp s (atCut s) (slotIds.foldl State.resetSlotPixels (atCut s)) :=
  givenUp_of_acts resetSlotPixels_acts (fun _ _ => rfl) (atCut_walkedOn s) ho hw

theorem settlePixels_frame (s : State) : s.settlePixels = { s with
    intake := { s.intake with hold := (atCut s).intake.hold }
    store := { s.store with pixels := s.settlePixels.store.pixels }
    sched := (atCut s).sched
    freeCount := s.settlePixels.freeCount } := by
  have hu : ∀ (p : List (Nat × PixelRec)) (n : Nat),
      ({ atCut s with store := { (atCut s).store with pixels := p }, freeCount := n } : State) = { s with
        intake := { s.intake with hold := (atCut s).intake.hold }
        store := { s.store with pixels := p }, sched := (atCut s).sched, freeCount := n } := by
    intro p n
    conv_lhs => rw [(atCut_walkedOn s).frame]
    conv_rhs => rw [(atCut_walkedOn s).frame]
  unfold State.settlePixels
  rw [abandonDraw_frame, resetSlotList_frame]
  exact hu _ _

/-! ### The other blocks (R31, R88, R94, R98, R146) -/

theorem resetRails_eq (s : State) : s.resetRails = { s with rails := s.resetRails.rails } := by
  unfold State.resetRails
  split <;> rfl

theorem resetRails_congr {s t : State} (hr : t.rails = s.rails) (hp : t.store.panel = s.store.panel) :
    t.resetRails.rails = s.resetRails.rails := by
  unfold State.resetRails
  rw [hr]
  split <;> simp [hr, hp]

/-- What a soft reset puts on the two-wire line: the end of an abandoned read, then a new read's start (R94, R98). -/
theorem resetSensor_eq (s : State) : s.resetSensor = { s with
    temp := { s.temp with
      failures := 0
      readInFlight := if s.temp.source = .sensor then some s.store.panel.sensorAddress else none
      timer := if s.temp.source = .sensor then some s.store.panel.sampleInterval else none
      wire := if s.temp.source = .sensor then s.abandonEvents ++ [.start, .address s.store.panel.sensorAddress]
        else s.temp.wire ++ s.abandonEvents }
    freeCount := s.resetSensor.freeCount } := by
  unfold State.resetSensor
  simp only
  rw [abandonRead_eq]
  unfold State.startReadIfSensor
  simp only
  split <;> rfl

theorem clearBlocks_rails (s : State) : s.clearBlocks.rails = s.rails := rfl

theorem clearBlocks_panel (s : State) : s.clearBlocks.store.panel = s.store.panel := rfl

theorem Hold.afterReset_eq (h : Hold) : h.afterReset = if h = .reinit then .reinit else .free := by
  cases h <;> rfl

/-- The blocks but the pixels and the sensor. -/
theorem resetBlocks_eq (s : State) (keep : Bool) : (s.clearBlocks.resetRails).resetTables keep = { s with
    intake := ⟨[], s.intake.hold.afterReset⟩
    ev := Events.initial
    comp := Compose.initial s.window
    tables := if keep then { s.tables with glyphWrite := none } else Tables.emptied s.tables.pool
    wave := if keep then s.wave else ⟨Bank.initial, Bank.initial⟩
    sched := Sched.initial
    scan := none
    rails := s.clearBlocks.resetRails.rails
    temp := { s.temp with band := if keep then s.temp.band else none } } := by
  rw [resetRails_eq]
  cases keep <;> rfl

/-- A soft reset, block by block. -/
theorem softReset_blocks (s : State) (keep : Bool) : ∃ cut n, CutOff s cut ∧ s.softReset keep = { s with
    intake := ⟨[], if s.intake.hold = .reinit then .reinit else .free⟩
    ev := Events.initial
    comp := Compose.initial s.window
    store := { s.store with pixels := s.settlePixels.store.pixels }
    tables := if keep then { s.tables with glyphWrite := none } else Tables.emptied s.tables.pool
    wave := if keep then s.wave else ⟨Bank.initial, Bank.initial⟩
    sched := Sched.initial
    scan := none
    rails := s.resetRails.rails
    temp := { s.temp with
      failures := 0
      band := if keep then s.temp.band else none
      readInFlight := if s.temp.source = .sensor then some s.store.panel.sensorAddress else none
      timer := if s.temp.source = .sensor then some s.store.panel.sampleInterval else none
      wire := if s.temp.source = .sensor then cut ++ [.start, .address s.store.panel.sensorAddress]
        else s.temp.wire ++ cut }
    freeCount := n } := by
  have hrails : s.settlePixels.clearBlocks.resetRails.rails = s.resetRails.rails := by
    have hr : s.settlePixels.rails = s.rails := by rw [settlePixels_frame]
    have hp : s.settlePixels.store.panel = s.store.panel := by rw [settlePixels_frame]
    exact resetRails_congr ((clearBlocks_rails _).trans hr) ((clearBlocks_panel _).trans hp)
  have hhold : (atCut s).intake.hold.afterReset = if s.intake.hold = .reinit then .reinit else .free := by
    rw [← Hold.afterReset_eq]
    rcases (atCut_walkedOn s).2.1.cases with e | ⟨r, r', e, e'⟩
    · rw [e]
    · rw [e, e']; rfl
  have hx : (s.settlePixels.clearBlocks.resetRails).resetTables keep = { s with
      intake := ⟨[], if s.intake.hold = .reinit then .reinit else .free⟩
      ev := Events.initial
      comp := Compose.initial s.window
      store := { s.store with pixels := s.settlePixels.store.pixels }
      tables := if keep then { s.tables with glyphWrite := none } else Tables.emptied s.tables.pool
      wave := if keep then s.wave else ⟨Bank.initial, Bank.initial⟩
      sched := Sched.initial
      scan := none
      rails := s.resetRails.rails
      temp := { s.temp with band := if keep then s.temp.band else none }
      freeCount := s.settlePixels.freeCount } := by
    have hframe := settlePixels_frame s
    rw [resetBlocks_eq, hrails, ← hhold]
    generalize s.settlePixels = p at hframe ⊢
    generalize atCut s = u at hframe ⊢
    conv_lhs => rw [hframe]
    rfl
  have htemp : ∀ t : State, t.temp.readInFlight = s.temp.readInFlight → CutOff s t.abandonEvents := by
    intro t ht
    obtain ⟨hn, hs⟩ := abandonEvents_cutOff t
    rw [ht] at hn hs
    exact ⟨hn, hs⟩
  rw [softReset_eq, resetSensor_eq]
  generalize (s.settlePixels.clearBlocks.resetRails).resetTables keep = x at hx ⊢
  exact ⟨x.abandonEvents, x.resetSensor.freeCount, htemp x (by rw [hx]), by rw [hx]⟩

/-! ### RESET (R155, R168) -/

/-- The pixels after a soft reset: every slot has given them up, and the abandoned draw record has written targets. -/
theorem settlePixels_pixels {s : State} (ho : OwnersLegal s) (hw : Store.wf PixelRec.initial s.store.pixels) :
    (∀ k, (s.settlePixels.pixel k).owner = none ∧ (s.settlePixels.pixel k).goal = ((atCut s).pixel k).goal) ∧
    ((∀ kind writes, s.comp.draw ≠ some (.writing kind writes)) →
      ∀ k, (s.settlePixels.pixel k).target = (s.pixel k).target) ∧
    (∀ kind writes, s.comp.draw = some (.writing kind writes) → ∃ n, kind.made ≤ n ∧
      ∀ k, (s.settlePixels.pixel k).target = (pixelAt (writeTargets s.store.pixels (writes.take n)) k).target) ∧
    (∀ k i sl, (s.pixel k).owner = some i → s.slot i = some sl → sl.isRunning = true →
      (s.settlePixels.pixel k).shown = none) ∧
    ∀ k, (∀ i sl, (s.pixel k).owner = some i → s.slot i = some sl → sl.isRunning = false) →
      (s.settlePixels.pixel k).shown = (s.pixel k).shown := by
  have hgiven := resetSlots_givenUp ho hw
  have hdraw : (slotIds.foldl State.resetSlotPixels (atCut s)).comp.draw = s.comp.draw := by
    rw [resetSlotList_frame, (atCut_walkedOn s).frame]
  unfold State.settlePixels
  generalize slotIds.foldl State.resetSlotPixels (atCut s) = c at hgiven hdraw ⊢
  have fields := abandonDraw_fields c
  refine ⟨fun k => ?_, fun h k => ?_, fun kind writes h => ?_, fun k i sl hk hs hr => ?_, fun k hk => ?_⟩
  · obtain ⟨-, hg, ho⟩ := fields k
    exact ⟨ho.trans (hgiven.owner k), hg.trans (hgiven.goal k)⟩
  · rw [abandonDraw_other (by rwa [hdraw])]; exact hgiven.target k
  · obtain ⟨n, hn, e⟩ := abandonDraw_writing (hdraw.trans h)
    refine ⟨n, hn, fun k => ?_⟩
    unfold State.pixel
    rw [e]
    exact writeTargets_target (hgiven.target k) _
  · exact (fields k).1.trans (hgiven.running k i sl hk hs hr)
  · exact (fields k).1.trans (hgiven.others k hk)

theorem emptied_font (pool : List Host.Cell) (n : Nat) : (Tables.emptied pool).font n = none := by
  simp only [Tables.font, Tables.emptied]
  by_cases h : n < 8 <;> simp [h]

theorem emptied_style (pool : List Host.Cell) (n : Nat) : (Tables.emptied pool).style n = Style.initial := by
  simp only [Tables.style, Tables.emptied]
  by_cases h : n < 16 <;> simp [h]

theorem resetRecord_eq {s : State} {body : Bytes} (he : Expressed s .reset body.length) (option : Nat) (keep : Bool) :
    s.resetRecord option keep body = if body.length = 1 ∧ u8 body 0 ≤ 1 ∧ u8 body 0 ≠ option then s
      else if body.length ≠ 1 then (received s).refuse 0x72 .length
      else if 1 < u8 body 0 then (received s).refuse 0x72 .field
      else (received s).softReset keep := by
  unfold State.resetRecord
  rw [express_of_expressed he]; rfl

/-- Settles O49: `softReset_blocks` says what each block is left at, `settlePixels_pixels` the pixels. -/
theorem softResetInEveryBlock : Obligations.SoftResetInEveryBlock := by
  constructor
  · intro s body c hc he
    have hexec : ∃ option keep, exec c s = .next (s.resetRecord option keep body) := by
      simp only [List.mem_cons, List.not_mem_nil, or_false] at hc
      rcases hc with rfl | rfl
      · exact ⟨_, _, rfl⟩
      · exact ⟨_, _, rfl⟩
    obtain ⟨option, keep, hexec⟩ := hexec
    rw [hexec, resetRecord_eq he]
    refine ⟨fun hl => ?_, fun hl hb => ?_⟩
    · rw [if_neg (fun h => hl h.1), if_pos hl]
    · rw [if_neg (fun h => absurd h.2.1 (by omega)), if_neg (not_not.mpr hl), if_pos hb]
  · intro s keep he ho hw
    have hexec : exec (if keep then .resetKeepTables [1] else .reset [0]) s =
        .next ((received s).softReset keep) := by
      cases keep
      · exact congrArg Outcome.next ((resetRecord_eq (body := [0]) he 0 false).trans (by simp [u8]))
      · exact congrArg Outcome.next ((resetRecord_eq (body := [1]) he 1 true).trans (by simp [u8]))
    obtain ⟨cut, n, hcut, hblocks⟩ := softReset_blocks (received s) keep
    have hpixels := settlePixels_pixels (s := received s)
      ⟨ho.owners, ho.taken, ho.driving, ho.unknown, ho.latching, ho.walking, ho.reading⟩ hw
    generalize (received s).settlePixels = p at hblocks hpixels
    obtain ⟨hpixel, hstill, hdrawn, hrunning, hothers⟩ := hpixels
    rw [hblocks] at hexec
    refine ⟨_, cut, hexec, hcut, rfl, rfl, ?_, rfl, rfl, ?_, rfl, rfl, fun i => ?_, rfl, rfl, rfl, rfl, rfl, rfl, rfl,
      fun k => (hpixel k).1, ⟨_, rfl, atCut_walkedOn _, fun h => atCut_still h, fun k => (hpixel k).2⟩, hstill, hdrawn,
      hrunning, hothers, fun hr => ?_, fun hr => ?_, fun hr => ?_, rfl, fun hk => ?_, fun hk => ?_⟩
    · show State.reserved { s with intake := ⟨[], if s.intake.hold = .reinit then .reinit else .free⟩ } = 0
      by_cases h : s.intake.hold = .reinit <;> simp [State.reserved, h]
    · show (if s.intake.hold = .reinit then Hold.reinit else .free) = .reinit ↔ s.intake.hold = .reinit
      split <;> simp_all
    · simp [State.slot, Sched.initial]
    · show (received s).resetRails.rails = _
      rcases hr with hr | hr <;> simp [State.resetRails, received, hr]
    · show (received s).resetRails.rails = _
      simp [State.resetRails, received, hr]
    · show (received s).resetRails.rails = _
      rcases hr with hr | hr <;> simp [State.resetRails, received, hr]
    · subst hk; exact ⟨rfl, rfl⟩
    · subst hk
      refine ⟨fun b => by cases b <;> rfl, fun m => ?_, rfl, rfl, rfl, rfl, fun m => ?_⟩
      · exact emptied_font s.tables.pool m
      · exact emptied_style s.tables.pool m

end Sys2Proof.Machine
end

section
/-! SUPPORT. The frame end (R121 to R123, R132, R135). -/

namespace Sys2Proof.Machine

open Host (Outcome)

/-! ### The slots at a frame end (R121) -/

theorem frameSlot_frame (s : State) (i : Fin 16) : s.frameSlot i = { s with
    ev := (s.frameSlot i).ev
    store := { s.store with pixels := (s.frameSlot i).store.pixels }
    residue := (s.frameSlot i).residue
    sched := { s.sched with slots := (s.frameSlot i).sched.slots } } := by
  unfold State.frameSlot
  split
  · rfl
  · split
    · rfl
    · rfl
    · split
      · unfold State.completeSlot; rw [endSlot_frame]; rfl
      · split
        · unfold State.abortSlot; rw [endSlot_frame]; rfl
        · rfl

theorem frameSlotList_frame (is : List (Fin 16)) (s : State) : is.foldl State.frameSlot s = { s with
    ev := (is.foldl State.frameSlot s).ev
    store := { s.store with pixels := (is.foldl State.frameSlot s).store.pixels }
    residue := (is.foldl State.frameSlot s).residue
    sched := { s.sched with slots := (is.foldl State.frameSlot s).sched.slots } } := by
  induction is generalizing s with
  | nil => rfl
  | cons i is ih => rw [List.foldl_cons, ih, frameSlot_frame s i]

/-- The slot if it completes at the frame end. -/
def Slot.completed? (sl : Slot) : Option Slot :=
  match sl.phase with
  | .running index => if sl.frames ≤ index + 1 then some sl else none
  | _ => none

theorem frameSlot_residue (s : State) (i : Fin 16) : (s.frameSlot i).residue =
    (((s.slot i).bind Slot.completed?).toList.foldl
      (fun counts sl => residueReport s.store.panel sl.mode sl.rect sl.tiles counts) s.residue) := by
  cases h : s.slot i with
  | none => rw [frameSlot_acts.free s i h]; rfl
  | some sl =>
    by_cases hp : ∃ index, sl.phase = .running index
    · obtain ⟨index, hp⟩ := hp
      by_cases hf : sl.frames ≤ index + 1
      · rw [frameSlot_completes h hp hf]; simp [Slot.completed?, hp, hf]
      · cases hc : sl.cancel
        · rw [frameSlot_advances h hp hf hc]; simp [Slot.completed?, hp, hf]
        · rw [frameSlot_aborts h hp hf hc, endOwned_frame]; simp [Slot.completed?, hp, hf]
    · have hp : ∀ index, sl.phase ≠ .running index := fun index e => hp ⟨index, e⟩
      have hnone : sl.completed? = none := by
        unfold Slot.completed?
        split
        · rename_i index e; exact absurd e (hp index)
        · rfl
      rw [frameSlot_still h hp]; simp [hnone]

/-- The completed slots report in ascending order (R106). -/
theorem frameSlots_residue {is : List (Fin 16)} (hn : is.Nodup) (s : State) :
    (is.foldl State.frameSlot s).residue = (is.filterMap fun i => (s.slot i).bind Slot.completed?).foldl
      (fun counts sl => residueReport s.store.panel sl.mode sl.rect sl.tiles counts) s.residue := by
  induction is generalizing s with
  | nil => rfl
  | cons i is ih =>
    obtain ⟨hi, hn⟩ := List.nodup_cons.mp hn
    have hpanel : (s.frameSlot i).store.panel = s.store.panel := by rw [frameSlot_frame]
    have hrest : (is.filterMap fun j => ((s.frameSlot i).slot j).bind Slot.completed?) =
        is.filterMap fun j => (s.slot j).bind Slot.completed? :=
      List.filterMap_congr fun j hj => by rw [frameSlot_acts.other s i j fun e => hi (e ▸ hj)]
    have hlist : (i :: is).filterMap (fun j => (s.slot j).bind Slot.completed?) =
        ((s.slot i).bind Slot.completed?).toList ++ is.filterMap fun j => (s.slot j).bind Slot.completed? := by
      rw [List.filterMap_cons]
      cases (s.slot i).bind Slot.completed? <;> rfl
    rw [List.foldl_cons, ih hn, hrest, hpanel, frameSlot_residue, hlist, List.foldl_append]

/-! ### The next frame (R132, R135) -/

theorem anyDriving_iff {s : State} : s.anyDriving = true ↔ ∃ i sl, s.slot i = some sl ∧ sl.phase ≠ .latching := by
  have hphase : ∀ sl : Slot, (sl.isArmed || sl.isRunning) = true ↔ sl.phase ≠ .latching := by
    intro sl
    cases h : sl.phase <;> simp [Slot.isArmed, Slot.isRunning, h]
  simp only [State.anyDriving, State.anySlot, List.any_eq_true, mem_slotIds, true_and, Option.any_eq_true, hphase]

theorem nextFrame_driving {s : State} (h : s.anyDriving = true) : s.nextFrame = s.startFrame := if_pos h

theorem nextFrame_idle {s : State} (h : s.anyDriving = false) :
    s.nextFrame = State.startHold { s with scan := none } := by
  simp [State.nextFrame, h]

theorem nextFrame_frame (s : State) : s.nextFrame = { s with
    sched := { s.sched with slots := s.nextFrame.sched.slots }
    scan := s.nextFrame.scan, rails := s.nextFrame.rails } := by
  cases h : s.anyDriving
  · rw [nextFrame_idle h, startHold_eq]
  · rw [nextFrame_driving h]; rfl

theorem nextFrame_slot (s : State) (i : Fin 16) : s.nextFrame.slot i = (s.slot i).map Slot.start := by
  cases h : s.anyDriving
  · rw [nextFrame_idle h, startHold_eq]
    show s.slot i = _
    cases hs : s.slot i with
    | none => rfl
    | some sl =>
      have hp : sl.phase ≠ .armed := fun hp =>
        absurd (anyDriving_iff.mpr ⟨i, sl, hs, by simp [hp]⟩) (by simp [h])
      rw [Option.map_some, start_of_not_armed hp]
  · rw [nextFrame_driving h]; exact State.startFrame_slot s i

theorem start_phase_latching {sl : Slot} : sl.start.phase = .latching ↔ sl.phase = .latching := by
  by_cases h : sl.phase = .armed
  · rw [start_of_armed h]; simp [h]
  · rw [start_of_not_armed h]

/-- Whether a slot drives is not the next frame's to change. -/
theorem nextFrame_drives {s : State} : (∃ i sl, s.nextFrame.slot i = some sl ∧ sl.phase ≠ .latching) ↔
    s.anyDriving = true := by
  rw [anyDriving_iff]
  simp only [nextFrame_slot, Option.map_eq_some_iff]
  constructor
  · rintro ⟨i, _, ⟨sl, hs, rfl⟩, hp⟩
    exact ⟨i, sl, hs, mt start_phase_latching.mpr hp⟩
  · rintro ⟨i, sl, hs, hp⟩
    exact ⟨i, _, ⟨sl, hs, rfl⟩, mt start_phase_latching.mp hp⟩

theorem trigger_slot (s : State) (i : Fin 16) : s.trigger.slot i = s.slot i := rfl

/-- What each slot is after the frame end and the start of the next frame. -/
theorem frameEnd_slot (s : State) (i : Fin 16) : (slotIds.foldl State.frameSlot s).trigger.nextFrame.slot i =
    ((s.slot i).bind frameAction.next).map Slot.start := by
  rw [nextFrame_slot, trigger_slot, frameSlot_acts.slot]

theorem frameEnd_frame (s : State) : (slotIds.foldl State.frameSlot s).trigger.nextFrame = { s with
    store := { s.store with pixels := (slotIds.foldl State.frameSlot s).store.pixels }
    sched := { s.sched with
      slots := (slotIds.foldl State.frameSlot s).trigger.nextFrame.sched.slots
      passDue := s.sched.passDue || !s.suspended }
    residue := (slotIds.foldl State.frameSlot s).residue
    scan := (slotIds.foldl State.frameSlot s).trigger.nextFrame.scan
    rails := (slotIds.foldl State.frameSlot s).trigger.nextFrame.rails
    ev := (slotIds.foldl State.frameSlot s).ev } := by
  have hf := frameSlotList_frame slotIds s
  generalize slotIds.foldl State.frameSlot s = f at hf ⊢
  have hsusp : f.suspended = s.suspended := by
    rw [hf]; exact suspended_congr rfl rfl rfl Iff.rfl Iff.rfl
  have hdue : f.sched.passDue = s.sched.passDue := by rw [hf]
  have hnext := nextFrame_frame f.trigger
  generalize f.trigger.nextFrame = t at hnext ⊢
  conv_lhs => rw [hnext]
  unfold State.trigger
  rw [hsusp, hdue]
  conv_lhs => rw [hf]

/-- Settles O33: the slots by `frameSlot_acts`, from the state in which the walks have got on; the scanner and the
rails by whether a slot still drives. -/
theorem frameEndSettlesSlots : Obligations.FrameEndSettlesSlots := by
  intro s hscan hw
  have hexec : exec .frameEnd s = .next (slotIds.foldl State.frameSlot s.advanceWalks).trigger.nextFrame :=
    congrArg Outcome.next (if_pos hscan)
  have hu := advanceWalks_walkedOn s
  have walked := hu.walked
  refine ⟨_, _, hexec, hu, walked.owned, fun ho i sl => walked.driving ho, ?_⟩
  have hsusp := hu.suspended
  have hdue : s.advanceWalks.sched.passDue = s.sched.passDue := by rw [hu.frame]
  have hw := walked.wf hw
  generalize s.advanceWalks = u at hw hsusp hdue
  intro done aborted completing outcome
  have hframe := frameEnd_frame u
  have hslot := frameEnd_slot u
  have hdrives := nextFrame_drives (s := (slotIds.foldl State.frameSlot u).trigger)
  have hidle := nextFrame_idle (s := (slotIds.foldl State.frameSlot u).trigger)
  have hdriving := nextFrame_driving (s := (slotIds.foldl State.frameSlot u).trigger)
  have hpixel : ∀ k, (slotIds.foldl State.frameSlot u).trigger.nextFrame.pixel k =
      (slotIds.foldl State.frameSlot u).pixel k := fun k => by unfold State.pixel; rw [hframe]
  have hpanel : (slotIds.foldl State.frameSlot u).trigger.store.panel = u.store.panel := by
    unfold State.trigger; rw [frameSlotList_frame]
  have hrails : (slotIds.foldl State.frameSlot u).trigger.rails = u.rails := by
    unfold State.trigger; rw [frameSlotList_frame]
  refine ⟨?_, ?_, fun i h => ?_, fun i sl index hs hp hlt hc => ?_, fun i sl hs hp => ?_, fun i sl hs hp => ?_,
    fun k i hk => ⟨fun h => ?_, fun h => ?_, fun hd ha => ?_⟩, fun k hk => ?_, ?_, fun h => ?_,
    fun h => ?_, ?_⟩
  · have houtcome : ∀ i, (u.slot i).bind frameAction.outcome = outcome i := by
      intro i
      simp only [outcome, frameAction]
      cases u.slot i with
      | none => rfl
      | some sl => cases hp : sl.phase <;> simp [hp]
    rw [hframe, frameSlot_acts.told_all slotIds_nodup]
    simp only [houtcome]; rfl
  · rw [hframe, frameSlots_residue slotIds_nodup]
    rfl
  · rw [hslot]
    rcases h with ⟨sl, index, hs, hp, hf⟩ | ⟨sl, index, hs, hp, hf, hc⟩ | h
    · simp [hs, frameAction, hp, hf]
    · simp [hs, frameAction, hp, hc]
    · simp [h]
  · rw [hslot, hs]
    simp [frameAction, hp, Nat.not_le.mpr hlt, hc, Slot.start, Slot.isArmed]
  · rw [hslot, hs, ← start_of_armed hp]
    simp [frameAction, hp]
  · rw [hslot, hs]
    simp [frameAction, hp, Slot.start, Slot.isArmed]
  · obtain ⟨sl, index, hs, hp, hf⟩ := h
    rw [hpixel, frameSlot_acts.pixel_of_owned hw hk hs]
    simp [frameAction, hp, hf, PixelRec.completed]
  · obtain ⟨sl, index, hs, hp, hf, hc⟩ := h
    rw [hpixel, frameSlot_acts.pixel_of_owned hw hk hs]
    simp [frameAction, hp, Nat.not_le.mpr hf, hc, PixelRec.aborted]
  · rw [hpixel]
    cases hs : u.slot i with
    | none =>
      exact frameSlot_acts.pixel_of_unowned hw fun j hj => Option.some.inj (hk.symm.trans hj) ▸ hs
    | some sl =>
      rw [frameSlot_acts.pixel_of_owned hw hk hs]
      cases hp : sl.phase with
      | running index =>
        have hlt : index + 1 < sl.frames := Nat.not_le.mp fun hf => hd ⟨sl, index, hs, hp, hf⟩
        have hc : ¬ sl.cancel = true := fun hc => ha ⟨sl, index, hs, hp, hlt, hc⟩
        simp [frameAction, hp, Nat.not_le.mpr hlt, hc]
      | latching => simp [frameAction, hp]
      | armed => simp [frameAction, hp]
  · rw [hpixel]
    exact frameSlot_acts.pixel_of_unowned hw fun j hj => by rw [hk] at hj; cases hj
  · rw [hframe, hdue, hsusp]
  · rw [hdriving (hdrives.mp h)]
    rw [State.startFrame_scan, hpanel, State.startFrame_rails, hrails]
    exact ⟨rfl, rfl⟩
  · have hoff : (slotIds.foldl State.frameSlot u).trigger.anyDriving = false := by
      rw [← Bool.not_eq_true, ← hdrives]
      rintro ⟨i, sl, hs, hp⟩
      exact hp (h i sl hs)
    rw [hidle hoff, startHold_eq]
    generalize (slotIds.foldl State.frameSlot u).trigger = f at hpanel hrails
    refine ⟨rfl, fun hh => ?_, fun hh => ?_⟩
    · show (if _ then _ else _) = _
      rw [if_neg (by rw [hpanel]; omega), hpanel, hrails]
    · show (if _ then _ else _) = _
      rw [if_pos (by rw [hpanel]; exact hh), hpanel, hrails]
  · conv_lhs => rw [hframe]
    rw [hframe]

end Sys2Proof.Machine
end

section
/-! SUPPORT. CANCEL (R124, R155). -/

namespace Sys2Proof.Machine

open Host (Outcome)

/-! ### The slots with the tag (R124) -/

/-- The slot is ARMED with the tag: a CANCEL releases it. -/
def Slot.releasedBy (tag : Byte) (sl : Slot) : Bool := sl.isArmed && decide (sl.tag = tag)

theorem releasedBy_iff {tag : Byte} {sl : Slot} : sl.releasedBy tag = true ↔ sl.tag = tag ∧ sl.phase = .armed := by
  simp [Slot.releasedBy, phase_armed_iff, and_comm]

theorem cancelSlot_frame (tag : Byte) (s : State) (i : Fin 16) : s.cancelSlot tag i = { s with
    ev := (s.cancelSlot tag i).ev
    store := { s.store with pixels := (s.cancelSlot tag i).store.pixels }
    sched := { s.sched with
      slots := (s.cancelSlot tag i).sched.slots
      passDue := s.sched.passDue || (s.slot i).any (Slot.releasedBy tag) && !s.suspended } } := by
  cases h : s.slot i with
  | none => rw [(cancelSlot_acts tag).free s i h]; simp
  | some sl =>
    by_cases ht : sl.tag = tag
    · by_cases ha : sl.phase = .armed
      · have hreleased : sl.releasedBy tag = true := releasedBy_iff.mpr ⟨ht, ha⟩
        have hsusp : (s.endOwned i sl .cancelled PixelRec.released).suspended = s.suspended := by
          rw [endOwned_frame]; exact suspended_congr rfl rfl rfl Iff.rfl Iff.rfl
        rw [cancelSlot_armed h ht ha, Option.any_some, hreleased, State.trigger, hsusp, endOwned_frame]
        rfl
      · have hkept : sl.releasedBy tag = false := by
          rw [← Bool.not_eq_true, releasedBy_iff]; exact fun h => ha h.2
        rw [cancelSlot_marks h ht ha, Option.any_some, hkept, Bool.false_and, Bool.or_false]; rfl
    · have hkept : sl.releasedBy tag = false := by
        rw [← Bool.not_eq_true, releasedBy_iff]; exact fun h => ht h.1
      rw [cancelSlot_other h ht, Option.any_some, hkept, Bool.false_and, Bool.or_false]

/-- A CANCEL on every slot triggers a pass where it releases one (R112). -/
theorem cancelSlotList_frame (tag : Byte) {is : List (Fin 16)} (hn : is.Nodup) (s : State) :
    is.foldl (State.cancelSlot tag) s = { s with
      ev := (is.foldl (State.cancelSlot tag) s).ev
      store := { s.store with pixels := (is.foldl (State.cancelSlot tag) s).store.pixels }
      sched := { s.sched with
        slots := (is.foldl (State.cancelSlot tag) s).sched.slots
        passDue := s.sched.passDue || is.any (fun i => (s.slot i).any (Slot.releasedBy tag)) && !s.suspended } } := by
  induction is generalizing s with
  | nil => simp
  | cons i is ih =>
    obtain ⟨hi, hn⟩ := List.nodup_cons.mp hn
    have hf := cancelSlot_frame tag s i
    have hother : (is.any fun j => ((s.cancelSlot tag i).slot j).any (Slot.releasedBy tag)) =
        is.any fun j => (s.slot j).any (Slot.releasedBy tag) := by
      refine Bool.eq_iff_iff.mpr ?_
      simp only [List.any_eq_true]
      refine exists_congr fun j => and_congr_right fun hj => ?_
      rw [(cancelSlot_acts tag).other s i j fun e => hi (e ▸ hj)]
    have ih := ih hn (s.cancelSlot tag i)
    rw [hother] at ih
    rw [List.foldl_cons, List.any_cons]
    generalize s.cancelSlot tag i = c at hf ih ⊢
    generalize is.foldl (State.cancelSlot tag) c = t at ih ⊢
    have hsusp : c.suspended = s.suspended := by
      rw [hf]; exact suspended_congr rfl rfl rfl Iff.rfl Iff.rfl
    have hdue : c.sched.passDue = (s.sched.passDue || (s.slot i).any (Slot.releasedBy tag) && !s.suspended) := by
      rw [hf]
    rw [hsusp, hdue] at ih
    conv_lhs => rw [ih]
    conv_lhs => rw [hf]
    simp only [Bool.and_or_distrib_right, Bool.or_assoc]

/-! ### The requests with the tag (R124) -/

theorem cancelRequests_eq (s : State) (tag : Byte) : s.cancelRequests tag = { s with
    ev := told s ((s.sched.requests.filter fun r => r.tag = tag).map fun r => requestOutcome r .cancelled)
    sched := { s.sched with
      requests := s.sched.requests.filter fun r => r.tag ≠ tag
      passDue := s.sched.passDue || (s.sched.requests.any fun r => r.tag = tag) && !s.suspended } } := by
  have hany : (s.sched.requests.any fun r => r.tag = tag) =
      !(s.sched.requests.filter fun r => r.tag = tag).isEmpty := by
    rw [Bool.eq_iff_iff]
    simp [List.filter_eq_nil_iff]
  have hflip : ∀ (c : Bool) (t : State), (if c then t else t.trigger) = if !c then t.trigger else t := by
    intro c t
    cases c <;> rfl
  have htold : ∀ rs os, told (s.setRequests rs) os = told s os := by
    intro rs os
    apply told_congr <;> rfl
  have hsusp : ∀ (t : State), t.rails.state = s.rails.state → t.power = s.power → t.intake = s.intake →
      t.suspended = s.suspended := fun t hr hp hi => suspended_congr hr hp (by rw [hi]) (by rw [hi]) (by rw [hi])
  refine (hflip _ _).trans ?_
  rw [triggerIf_eq, tellRequests_eq, htold, ← hany, hsusp _ rfl rfl rfl]
  rfl

/-! ### CANCEL of a tag -/

/-- The state from which a CANCEL acts on the slots: where it releases one, the walks have got on. -/
def State.cancelFrom (s : State) (tag : Byte) : State :=
  if s.anySlot (Slot.releasedBy tag) then s.advanceWalks else s

/-- A CANCEL before a pass it interrupted goes on. -/
def State.cancelled (s : State) (tag : Byte) : State :=
  ((slotIds.foldl (State.cancelSlot tag) (s.cancelFrom tag)).cancelRequests tag).holdIfLeft s.anyDriving

theorem cancelTag_eq (s : State) (tag : Byte) : s.cancelTag tag =
    if s.sched.pass.isSome && !s.latching && s.examined.any (fun r => r.tag = tag) then (s.cancelled tag).continuePass
    else s.cancelled tag := rfl

theorem cancelFrom_walkedOn (s : State) (tag : Byte) : WalkedOn s (s.cancelFrom tag) := by
  unfold State.cancelFrom
  split
  · exact advanceWalks_walkedOn s
  · exact walkedOn_refl s

theorem cancelFrom_still {s : State} {tag : Byte} (h : ∀ i sl, s.slot i = some sl → sl.releasedBy tag = false) :
    s.cancelFrom tag = s := by
  refine if_neg ?_
  simp only [State.anySlot, List.any_eq_true, Option.any_eq_true]
  rintro ⟨i, -, sl, hs, hr⟩
  simp [h i sl hs] at hr

/-- The slots, requests and outcomes of a CANCEL before the rails follow (R124). -/
def State.cancelActed (s : State) (tag : Byte) : State :=
  { s.cancelFrom tag with
    ev := told (s.cancelFrom tag)
      ((slotIds.filterMap fun i => ((s.cancelFrom tag).slot i).bind (cancelAction tag).outcome) ++
        (s.sched.requests.filter fun r => r.tag = tag).map fun r => requestOutcome r .cancelled)
    store := { (s.cancelFrom tag).store with
      pixels := (slotIds.foldl (State.cancelSlot tag) (s.cancelFrom tag)).store.pixels }
    sched := { (s.cancelFrom tag).sched with
      slots := (slotIds.foldl (State.cancelSlot tag) (s.cancelFrom tag)).sched.slots
      requests := s.sched.requests.filter fun r => r.tag ≠ tag
      passDue := s.sched.passDue || (slotIds.any (fun i => ((s.cancelFrom tag).slot i).any (Slot.releasedBy tag)) ||
        s.sched.requests.any fun r => r.tag = tag) && !s.suspended } }

theorem cancelled_eq (s : State) (tag : Byte) : s.cancelled tag = (s.cancelActed tag).holdIfLeft s.anyDriving := by
  have hu := cancelFrom_walkedOn s tag
  have hsusp := hu.suspended
  have hreq : (s.cancelFrom tag).sched.requests = s.sched.requests := by rw [hu.frame]
  have hdue : (s.cancelFrom tag).sched.passDue = s.sched.passDue := by rw [hu.frame]
  unfold State.cancelled State.cancelActed
  generalize s.cancelFrom tag = u at hsusp hreq hdue ⊢
  refine congrArg (State.holdIfLeft · s.anyDriving) ?_
  have hf := cancelSlotList_frame tag slotIds_nodup u
  have hev := (cancelSlot_acts tag).told_all slotIds_nodup u
  generalize slotIds.foldl (State.cancelSlot tag) u = f at hf hev ⊢
  have hsusp' : f.suspended = s.suspended := by
    rw [← hsusp, hf]; exact suspended_congr rfl rfl rfl Iff.rfl Iff.rfl
  have hreq' : f.sched.requests = s.sched.requests := by rw [hf, hreq]
  have hdue' : f.sched.passDue =
      (s.sched.passDue || slotIds.any (fun i => (u.slot i).any (Slot.releasedBy tag)) && !s.suspended) := by
    rw [hf, hdue, hsusp]
  have htold : ∀ os, told f os =
      told u ((slotIds.filterMap fun i => (u.slot i).bind (cancelAction tag).outcome) ++ os) := by
    intro os
    rw [told_append, ← hev]
    refine told_congr ?_ ?_ os
    · rfl
    · rw [hf]; rfl
  rw [cancelRequests_eq, hreq', hdue', hsusp', htold]
  conv_lhs => rw [hf]
  simp only [Bool.and_or_distrib_right, Bool.or_assoc]

/-- A CANCEL interrupts the pass that examines a request with its tag (R113, R124). -/
theorem examining_iff (s : State) (tag : Byte) :
    (s.sched.pass.isSome && !s.latching && s.examined.any (fun r => r.tag = tag)) = true ↔
    (∃ todo found, s.sched.pass = some (.deferRead todo found) ∨ s.sched.pass = some (.resolveRead todo found)) ∧
      ∃ before r behind, s.sched.requests = before ++ r :: behind ∧ (∀ q ∈ before, q.due = false) ∧ r.due = true ∧
        r.tag = tag := by
  have hpass : (s.sched.pass.isSome && !s.latching) = true ↔
      ∃ todo found, s.sched.pass = some (.deferRead todo found) ∨ s.sched.pass = some (.resolveRead todo found) := by
    unfold State.latching
    cases hp : s.sched.pass with
    | none => simp
    | some p => cases p <;> simp
  have hexamined : s.examined.any (fun r => r.tag = tag) = true ↔ ∃ before r behind,
      s.sched.requests = before ++ r :: behind ∧ (∀ q ∈ before, q.due = false) ∧ r.due = true ∧ r.tag = tag := by
    simp only [State.examined, Option.any_eq_true, List.find?_eq_some_iff_append, decide_eq_true_eq, Bool.not_eq_true']
    constructor
    · rintro ⟨r, ⟨hd, before, behind, e, hb⟩, ht⟩
      exact ⟨before, r, behind, e, hb, hd, ht⟩
    · rintro ⟨before, r, behind, e, hb, hd, ht⟩
      exact ⟨r, ⟨hd, before, behind, e, hb⟩, ht⟩
  rw [Bool.and_eq_true, hpass, hexamined]

theorem holdIfLeft_eq (s : State) (before : Bool) : s.holdIfLeft before = { s with
    rails := if before = true ∧ s.anyDriving = false ∧ s.rails.state = .on then s.startHold.rails else s.rails } := by
  cases h : s.anyDriving
  · rw [holdIfLeft_rails h]; simp
  · simp [State.holdIfLeft, h]

/-- A CANCEL, field by field (R124). -/
theorem cancelled_frame (s : State) (tag : Byte) : s.cancelled tag = { s.cancelActed tag with
    rails := if s.anyDriving = true ∧ (s.cancelled tag).anyDriving = false ∧ s.rails.state = .on then s.startHold.rails
      else s.rails } := by
  have hrails : (s.cancelFrom tag).rails = s.rails := by rw [(cancelFrom_walkedOn s tag).frame]
  have hpanel : (s.cancelFrom tag).store.panel = s.store.panel := by rw [(cancelFrom_walkedOn s tag).frame]
  have h := cancelled_eq s tag
  rw [holdIfLeft_eq] at h
  unfold State.cancelActed at h ⊢
  generalize slotIds.foldl (State.cancelSlot tag) (s.cancelFrom tag) = f at h ⊢
  generalize s.cancelFrom tag = u at h hrails hpanel ⊢
  generalize s.cancelled tag = w at h ⊢
  have hdriving : w.anyDriving = f.anyDriving := by rw [h]; rfl
  rw [hdriving]
  conv_lhs => rw [h]
  simp only [startHold_eq, hrails, hpanel]
  rfl

theorem cancel_exec {s : State} {tag : Byte} (he : Expressed s .cancel 1) :
    exec (.cancel [tag]) s = .next ((received s).cancelTag tag) := by
  show Outcome.next _ = _
  rw [express_of_expressed (body := [tag]) he, if_neg (by simp)]; rfl

/-- A CANCEL that no slot answers to touches none. -/
theorem cancelSlots_still {s : State} {tag : Byte} (h : ∀ i sl, s.slot i = some sl → sl.tag ≠ tag) :
    slotIds.foldl (State.cancelSlot tag) s = s := by
  refine List.foldl_fixed' (fun i => ?_) slotIds
  cases hs : s.slot i with
  | none => exact (cancelSlot_acts tag).free s i hs
  | some sl => exact cancelSlot_other hs (h i sl hs)

theorem cancelled_still {s : State} {tag : Byte} (h : ∀ i sl, s.slot i = some sl → sl.tag ≠ tag) :
    s.cancelled tag = s.cancelRequests tag := by
  have hfrom : s.cancelFrom tag = s := by
    refine cancelFrom_still fun i sl hs => ?_
    rw [← Bool.not_eq_true, releasedBy_iff]
    exact fun hr => h i sl hs hr.1
  have hdriving : (s.cancelRequests tag).anyDriving = s.anyDriving := by rw [cancelRequests_eq]; rfl
  unfold State.cancelled
  rw [hfrom, cancelSlots_still h]
  unfold State.holdIfLeft
  rw [hdriving]
  simp

/-- Settles O35: the slots by `cancelSlot_acts`, from the state in which the walks have got on where a slot is
released. -/
theorem cancelActsByState : Obligations.CancelActsByState := by
  refine ⟨fun s body he hb => ?_, fun s tag he hw => ?_,
    fun s tag before behind r todo found he hp hr hb hd ht hs => ?_⟩
  · show Outcome.next _ = _
    rw [express_of_expressed he, if_pos hb]; rfl
  · intro released examining
    have hexec := cancel_exec (tag := tag) he
    rw [cancelTag_eq] at hexec
    have hexamining := examining_iff (received s) tag
    have hu := cancelFrom_walkedOn (received s) tag
    have walked := hu.walked
    have hw' := walked.wf hw
    have hstill : (∀ i, ¬ released i) → (received s).cancelFrom tag = received s := fun h =>
      cancelFrom_still fun i sl hs => by
        rw [← Bool.not_eq_true, releasedBy_iff]
        exact fun hr => h i ⟨sl, hs, hr⟩
    have hframe := cancelled_frame (received s) tag
    unfold State.cancelActed at hframe
    refine ⟨_, (received s).cancelled tag, hu, hstill, walked.owned, fun ho i sl => walked.driving
      (s := received s) ⟨ho.owners, ho.taken, ho.driving, ho.unknown, ho.latching, ho.walking, ho.reading⟩,
      fun h => ?_, fun h => ?_, ?_⟩
    · rw [hexec, if_pos (hexamining.mpr h)]
    · rw [hexec, if_neg (mt hexamining.mp h)]
    generalize (received s).cancelFrom tag = u at hw' hframe
    generalize (received s).cancelled tag = w at hframe
    have hslot : ∀ i, w.slot i = (u.slot i).bind (cancelAction tag).next := fun i => by
      rw [← (cancelSlot_acts tag).slot u i]
      exact slot_of_slots (by rw [hframe]) i
    have hpixel : ∀ k, w.pixel k = (slotIds.foldl (State.cancelSlot tag) u).pixel k := fun k => by
      unfold State.pixel; rw [hframe]
    intro freed outcome
    refine ⟨fun i h => ?_, fun i sl hs ht hp => ?_, fun i sl hs ht => ?_, ?_, ?_, fun k i hk h => ?_, fun k h => ?_, ?_,
      ?_, fun hd hn hr => ?_, fun h => ?_⟩
    · rw [hslot]
      rcases h with h | ⟨sl, hs, ht, hp⟩
      · rw [h]; rfl
      · simp [hs, cancelAction, ht, hp]
    · rw [hslot, hs]; simp [cancelAction, ht, hp]
    · rw [hslot, hs]; simp [cancelAction, ht]
    · rw [hframe]; rfl
    · rw [hframe]; rfl
    · obtain ⟨sl, hs, ht, hp⟩ := h
      rw [hpixel, (cancelSlot_acts tag).pixel_of_owned hw' hk hs]
      simp [cancelAction, ht, hp, PixelRec.released]
    · rw [hpixel]
      by_cases hk : ∃ i sl, (u.pixel k).owner = some i ∧ u.slot i = some sl
      · obtain ⟨i, sl, hk, hs⟩ := hk
        rw [(cancelSlot_acts tag).pixel_of_owned hw' hk hs]
        exact if_neg fun hr => h i hk ⟨sl, hs, hr⟩
      · refine (cancelSlot_acts tag).pixel_of_unowned hw' fun i hi => ?_
        rw [Option.eq_none_iff_forall_not_mem]
        exact fun sl hs => hk ⟨i, sl, hi, hs⟩
    · have hdue := congrArg (·.sched.passDue) hframe
      have hreleases : (slotIds.any fun i => (u.slot i).any (Slot.releasedBy tag)) = true ↔ ∃ i, freed i := by
        simp only [List.any_eq_true, mem_slotIds, true_and, Option.any_eq_true, releasedBy_iff, freed]
      have hrequests : (s.sched.requests.any fun r => r.tag = tag) = true ↔ ∃ r ∈ s.sched.requests, r.tag = tag := by
        simp
      have hdue' : w.sched.passDue = (s.sched.passDue || ((slotIds.any fun i => (u.slot i).any (Slot.releasedBy tag)) ||
          s.sched.requests.any fun r => r.tag = tag) && !s.suspended) := hdue
      rw [← hreleases, ← hrequests, hdue', Bool.or_eq_true, Bool.and_eq_true, Bool.or_eq_true,
        Bool.not_eq_true', and_comm]
    · conv_lhs => rw [hframe]
      conv_rhs => rw [hframe]
    · refine (congrArg State.rails hframe).trans ?_
      show (if _ then _ else _) = _
      rw [if_pos ⟨hd, hn, hr⟩, startHold_eq]; rfl
    · refine (congrArg State.rails hframe).trans (if_neg ?_)
      rintro ⟨hd, hn, hr⟩
      rcases h with h | h | h
      · exact absurd (h.symm.trans hd) (by simp)
      · exact absurd (h.symm.trans hn) (by simp)
      · exact h hr
  · rw [cancel_exec he, cancelTag_eq, if_pos ((examining_iff (received s) tag).mpr
      ⟨⟨todo, found, hp⟩, before, r, behind, hr, hb, hd, ht⟩), cancelled_still (s := received s) hs, cancelRequests_eq]
    have hany : ((received s).sched.requests.any fun r => r.tag = tag) = true :=
      List.any_eq_true.mpr ⟨r, by show r ∈ s.sched.requests; rw [hr]; simp, by simp [ht]⟩
    have htold : ∀ os, told (received s) os = told s os := by
      intro os
      apply told_congr <;> rfl
    rw [hany, htold, Bool.true_and]
    rfl

end Sys2Proof.Machine
end

section
/-! SUPPORT. The latch end (R119): its walk is judged to the end, then its slot is freed or ARMED, and the rails and
the pass follow. -/

namespace Sys2Proof.Machine

open Host (Outcome)

/-! ### The end of the walk (R118, R119) -/

/-- A latch end judges the rest of its walk, a READ of PIXELS getting on meanwhile (R15; log 28). -/
theorem latchEnd_exec {s : State} {i : Fin 16} {todo : List Nat} (hp : s.sched.pass = some (.latching i todo))
    (hd : s.comp.draw = none) : ∃ x, exec .latchEnd s = .next (x.endLatch i).continuePass ∧ WalkedOn s x ∧
      x.sched.pass = some (.latching i []) ∧ x.store.pixels = (todo.foldl (latchPixel i) s).store.pixels ∧
      x.sched.slots = (todo.foldl (latchPixel i) s).sched.slots ∧
      ((∀ r, s.intake.hold ≠ .readPixels r) → x.intake = s.intake ∧ x.freeCount = s.freeCount) := by
  obtain ⟨⟨n, hn⟩, hr⟩ := freeAdvanceRead_on s
  have hpass : s.freeAdvanceRead.sched.pass = some (.latching i (todo.drop n)) := by
    rw [hn, advancePass_latching n hp hd]; rfl
  have hexec : exec .latchEnd s =
      .next ((s.freeAdvanceRead.advancePass (todo.drop n).length).endLatch i).continuePass := by
    show Outcome.next _ = _
    rw [hp]
    simp only [hd, Option.isSome_none, Bool.false_eq_true, if_false, hpass]
  have hrest : s.freeAdvanceRead.advancePass (todo.drop n).length =
      (s.advancePass (n + (todo.drop n).length)).withWalkers s.freeAdvanceRead.intake.hold
        s.freeAdvanceRead.freeCount := by
    conv_lhs => rw [hn]
    rw [advancePass_withWalkers, advancePass_add]
  have hall : s.advancePass (n + (todo.drop n).length) =
      (todo.foldl (latchPixel i) s).setPass (some (.latching i [])) := by
    have hlen : todo.length ≤ n + (todo.drop n).length := by rw [List.length_drop]; omega
    rw [advancePass_latching _ hp hd, List.take_of_length_le hlen, List.drop_of_length_le hlen]
  have hwalked : WalkedOn s (s.freeAdvanceRead.advancePass (todo.drop n).length) := by
    refine ⟨⟨n + (todo.drop n).length, ?_⟩, by rw [hrest]; exact hr, fun h => absurd (h.1.symm.trans hp) (by simp)⟩
    conv_lhs => rw [hrest, advancePass_frame]
    conv_rhs => rw [hrest, advancePass_frame]
    rfl
  refine ⟨_, hexec, hwalked, ?_, ?_, ?_, fun h => ?_⟩
  · rw [hrest, hall]; rfl
  · rw [hrest, hall]; rfl
  · rw [hrest, hall]; rfl
  · have hstill : s.freeAdvanceRead = s := by
      unfold State.freeAdvanceRead
      split
      · rename_i r e; exact absurd e (h r)
      · rfl
    rw [hstill, advancePass_frame]
    exact ⟨rfl, rfl⟩

/-! ### What becomes of the slot (R119) -/

/-- A marked slot, or one that took nothing, is freed with its outcome told. -/
theorem endLatch_freed {s : State} {i : Fin 16} {sl : Slot} (h : s.slot i = some sl) {e : Ending}
    (he : sl.cancel = true ∧ e = .cancelled ∨ sl.cancel = false ∧ sl.taken = 0 ∧ e = .empty) :
    s.endLatch i =
      ((s.setFlagIf (decide (0 < sl.skipped)) .collide).endOwned i sl e PixelRec.released).trigger := by
  unfold State.endLatch
  rw [h]
  rcases he with ⟨hc, rfl⟩ | ⟨hc, ht, rfl⟩
  · simp only [hc, if_true]; rfl
  · simp only [hc, Bool.false_eq_true, if_false, ht, if_true]; rfl

/-- Any other slot becomes ARMED, and the rails follow. -/
theorem endLatch_armed {s : State} {i : Fin 16} {sl : Slot} (h : s.slot i = some sl) (hc : sl.cancel = false)
    (ht : sl.taken ≠ 0) : s.endLatch i =
      ((s.setFlagIf (decide (0 < sl.skipped)) .collide).setSlot i (some { sl with phase := .armed })).onArmed := by
  unfold State.endLatch
  rw [h]
  simp only [hc, Bool.false_eq_true, if_false, ht]

/-- A slot that becomes ARMED starts a frame: PGOOD stands as the rails rise, or they are ON and none is in progress
(R132, R139, R140). -/
def State.startsFrame (s : State) : Prop :=
  (s.rails.state = .off ∧ s.rails.pgood = true) ∨ (s.rails.state = .on ∧ s.scan = none)

theorem reachOn_armed {s : State} (h : s.anyArmed = true) : s.reachOn =
    State.startFrame { s with rails := { s.rails with state := .on, rise := none } } := if_pos h

theorem onArmed_off {s : State} (h : s.rails.state = .off) (hp : s.rails.pgood = false) : s.onArmed =
    { s with rails := { s.rails with state := .rising, rise := some s.store.panel.riseLimit } } := by
  simp [State.onArmed, h, State.enterRising, hp]

theorem onArmed_off_pgood {s : State} (ha : s.anyArmed = true) (h : s.rails.state = .off) (hp : s.rails.pgood = true) :
    s.onArmed = State.startFrame { s with rails := { s.rails with state := .on, rise := none } } := by
  unfold State.onArmed State.enterRising
  rw [h]
  simp only [hp, if_true]
  exact reachOn_armed ha

theorem onArmed_on {s : State} (h : s.rails.state = .on) : s.onArmed =
    if s.scan.isNone then State.startFrame { s with rails := { s.rails with hold := none } }
    else { s with rails := { s.rails with hold := none } } := by
  unfold State.onArmed
  rw [h]

theorem onArmed_other {s : State} (h : s.rails.state = .rising ∨ s.rails.state = .falling ∨ s.rails.state = .fault) :
    s.onArmed = s := by
  unfold State.onArmed
  rcases h with h | h | h <;> rw [h]

theorem onArmed_started {s : State} (ha : s.anyArmed = true) (h : s.startsFrame) :
    s.onArmed.scan = some s.store.panel.framePeriod ∧ ∀ j, s.onArmed.slot j = (s.slot j).map Slot.start := by
  rcases h with ⟨h, hp⟩ | ⟨h, hn⟩
  · rw [onArmed_off_pgood ha h hp]
    exact ⟨rfl, State.startFrame_slot _⟩
  · rw [onArmed_on h, if_pos (by simp [hn])]
    exact ⟨rfl, State.startFrame_slot _⟩

theorem onArmed_not_started {s : State} (h : ¬ s.startsFrame) :
    s.onArmed.scan = s.scan ∧ s.onArmed.sched = s.sched := by
  cases hr : s.rails.state with
  | off =>
    have hp : s.rails.pgood = false := by
      rw [← Bool.not_eq_true]; exact fun hp => h (.inl ⟨hr, hp⟩)
    rw [onArmed_off hr hp]; exact ⟨rfl, rfl⟩
  | on =>
    have hn : s.scan ≠ none := fun hn => h (.inr ⟨hr, hn⟩)
    rw [onArmed_on hr, if_neg (by simpa using hn)]; exact ⟨rfl, rfl⟩
  | rising => rw [onArmed_other (.inl hr)]; exact ⟨rfl, rfl⟩
  | falling => rw [onArmed_other (.inr (.inl hr))]; exact ⟨rfl, rfl⟩
  | fault => rw [onArmed_other (.inr (.inr hr))]; exact ⟨rfl, rfl⟩

theorem onArmed_rails {s : State} (ha : s.anyArmed = true) : s.onArmed.rails =
    match s.rails.state with
    | .off => if s.rails.pgood then { s.rails with state := .on, rise := none }
      else { s.rails with state := .rising, rise := some s.store.panel.riseLimit }
    | .on => { s.rails with hold := none }
    | _ => s.rails := by
  cases hr : s.rails.state with
  | off =>
    cases hp : s.rails.pgood
    · rw [onArmed_off hr hp]; simp
    · rw [onArmed_off_pgood ha hr hp]; simp
  | on => rw [onArmed_on hr]; split <;> rfl
  | rising => rw [onArmed_other (.inl hr)]
  | falling => rw [onArmed_other (.inr (.inl hr))]
  | fault => rw [onArmed_other (.inr (.inr hr))]

/-! ### The pass goes on (R113, R119) -/

/-- The suspension of passes rests, of the rails, on FAULT alone. -/
theorem suspended_congr_fault {s t : State} (hr : t.rails.state = .fault ↔ s.rails.state = .fault)
    (hp : t.power = s.power) (hi : t.intake = s.intake) : t.suspended = s.suspended := by
  simp [State.suspended, State.panelsetWaits, State.headBody, hr, hp, hi]

theorem notify_suspended (s : State) (w : Bool) (n : Notice) : (s.notify w n).suspended = s.suspended := by
  rw [notify_frame]; exact suspended_congr rfl rfl rfl Iff.rfl Iff.rfl

theorem endPass_flag (s : State) (f : Flag) : s.endPass.flag f = s.flag f := by
  rw [endPass_frame]; rfl

/-- A pass that goes on sets no other flag than DONE and NOTICELOST (R130). -/
theorem examine_flag {f : Flag} (hd : f ≠ .done) (hl : f ≠ .noticelost) (rest : List Request) :
    ∀ (s : State) (ahead : List Request), (s.examine ahead rest).flag f = s.flag f := by
  induction rest with
  | nil => intro s ahead; exact endPass_flag _ f
  | cons r behind ih =>
    intro s ahead
    simp only [State.examine]
    split
    · exact ih _ _
    · split
      · exact (ih _ _).trans (notify_flag hd hl _ _ _)
      · split
        · exact endPass_flag _ f
        · split
          · exact ih _ _
          · rw [beginReads_eq]; rfl

theorem endPass_passDue {s : State} (h : s.suspended = false) : s.endPass.sched.passDue = s.sched.passDue := by
  rw [endPass_eq]; simp [h]

/-- A pass that goes on keeps a pass that is due, where passes are not suspended (R112). -/
theorem examine_passDue (rest : List Request) : ∀ (s : State) (ahead : List Request), s.suspended = false →
    (s.examine ahead rest).sched.passDue = s.sched.passDue := by
  induction rest with
  | nil => intro s ahead h; exact endPass_passDue (s := s.setRequests ahead) h
  | cons r behind ih =>
    intro s ahead h
    simp only [State.examine]
    split
    · exact ih _ _ h
    · split
      · rw [ih _ _ ((notify_suspended s _ _).trans h), notify_frame]
      · split
        · exact endPass_passDue (s := s.setRequests (ahead ++ r :: behind)) h
        · split
          · exact ih _ _ h
          · rw [beginReads_eq]; rfl

theorem continuePass_slot (s : State) (i : Fin 16) : s.continuePass.slot i = s.slot i :=
  slot_of_slots (by rw [continuePass_frame]) i

theorem continuePass_pixel (s : State) (k : Nat) : s.continuePass.pixel k = s.pixel k := by
  unfold State.pixel; rw [continuePass_frame]

theorem continuePass_rails (s : State) : s.continuePass.rails = s.rails := by rw [continuePass_frame]

theorem continuePass_scan (s : State) : s.continuePass.scan = s.scan := by rw [continuePass_frame]

/-! ### The latch end as a whole -/

theorem setFlagIf_flag (s : State) (c : Bool) (f : Flag) : (s.setFlagIf c f).flag f = (s.flag f || c) := by
  cases c
  · simp [State.setFlagIf]
  · simp [State.setFlagIf, setFlag_flag]

theorem setFlagIf_told {s t : State} (he : t.ev = s.ev) (hr : t.reserved = s.reserved) (c : Bool) (f : Flag)
    (os : List (Bool × Notice)) : told (t.setFlagIf c f) os = told (s.setFlagIf c f) os := by
  refine told_congr ?_ ?_ os
  · rw [setFlagIf_ev, setFlagIf_ev, State.setFlag, State.setFlag, he]
  · rw [setFlagIf_frame, setFlagIf_frame s]; exact hr

/-- The slot that a latch end frees gives up its pixels, and a pass is triggered (R119, R123). -/
theorem endLatch_freed_eq {s : State} {i : Fin 16} {sl : Slot} (h : s.slot i = some sl) {e : Ending}
    (he : sl.cancel = true ∧ e = .cancelled ∨ sl.cancel = false ∧ sl.taken = 0 ∧ e = .empty) : s.endLatch i = { s with
      ev := told (s.setFlagIf (decide (0 < sl.skipped)) .collide) [slotOutcome sl e]
      store := { s.store with pixels := mapOwned i PixelRec.released s.store.pixels }
      sched := { s.sched with slots := s.sched.slots.set i none, passDue := s.sched.passDue || !s.suspended } } := by
  have hsusp : ∀ t : State, t.rails = s.rails → t.power = s.power → t.intake = s.intake → t.suspended = s.suspended :=
    fun t hr hp hi => suspended_congr_fault (by rw [hr]) hp hi
  rw [endLatch_freed h he, endOwned_frame]
  generalize told (s.setFlagIf (decide (0 < sl.skipped)) .collide) [slotOutcome sl e] = ev
  unfold State.trigger
  rw [setFlagIf_frame, hsusp _ rfl rfl rfl]
  rfl

/-- The slot that a latch end leaves ARMED: nothing is told, and the rails and the scanner may follow. -/
theorem endLatch_armed_frame {s : State} {i : Fin 16} {sl : Slot} (h : s.slot i = some sl) (hc : sl.cancel = false)
    (ht : sl.taken ≠ 0) : s.endLatch i = { s with
      ev := (s.setFlagIf (decide (0 < sl.skipped)) .collide).ev
      sched := { s.sched with slots := (s.endLatch i).sched.slots }
      scan := (s.endLatch i).scan, rails := (s.endLatch i).rails } := by
  rw [endLatch_armed h hc ht, setFlagIf_frame, onArmed_frame]
  rfl

/-- The slots, the scanner and the rails once a slot has become ARMED (R119, R132, R139, R140). -/
theorem endLatch_armed_slots {s : State} {i : Fin 16} {sl : Slot} (h : s.slot i = some sl) (hc : sl.cancel = false)
    (ht : sl.taken ≠ 0) :
    (s.startsFrame → (s.endLatch i).scan = some s.store.panel.framePeriod ∧
      (s.endLatch i).slot i = some { sl with phase := .running 0 } ∧
      ∀ j, j ≠ i → (s.endLatch i).slot j = (s.slot j).map Slot.start) ∧
    (¬ s.startsFrame → (s.endLatch i).scan = s.scan ∧ (s.endLatch i).slot i = some { sl with phase := .armed } ∧
      ∀ j, j ≠ i → (s.endLatch i).slot j = s.slot j) ∧
    (s.endLatch i).rails = match s.rails.state with
      | .off => if s.rails.pgood then { s.rails with state := .on, rise := none }
        else { s.rails with state := .rising, rise := some s.store.panel.riseLimit }
      | .on => { s.rails with hold := none }
      | _ => s.rails := by
  have hframe := setFlagIf_frame s (decide (0 < sl.skipped)) .collide
  rw [endLatch_armed h hc ht]
  generalize s.setFlagIf (decide (0 < sl.skipped)) .collide = c at hframe ⊢
  have hrails : c.rails = s.rails := by rw [hframe]
  have hscan : c.scan = s.scan := by rw [hframe]
  have hpanel : c.store.panel = s.store.panel := by rw [hframe]
  have hslot : ∀ j, c.slot j = s.slot j := fun j => slot_of_slots (by rw [hframe]) j
  have hown := State.setSlot_slot_same (s := c) i (some { sl with phase := .armed })
  have hother : ∀ j, j ≠ i → (c.setSlot i (some { sl with phase := .armed })).slot j = s.slot j := fun j hj =>
    (State.setSlot_slot_other _ _ _ _ hj).trans (hslot j)
  have harmed : (c.setSlot i (some { sl with phase := .armed })).anyArmed = true := by
    simp only [State.anyArmed, State.anySlot, List.any_eq_true, Option.any_eq_true]
    exact ⟨i, mem_slotIds i, _, hown, rfl⟩
  have hstarts : (c.setSlot i (some { sl with phase := .armed })).startsFrame ↔ s.startsFrame := by
    unfold State.startsFrame
    rw [State.setSlot_rails, State.setSlot_scan, hrails, hscan]
  refine ⟨fun hs => ?_, fun hs => ?_, ?_⟩
  · obtain ⟨hsc, hsl⟩ := onArmed_started harmed (hstarts.mpr hs)
    refine ⟨by rw [hsc, State.setSlot_store, hpanel], ?_, fun j hj => by rw [hsl, hother j hj]⟩
    rw [hsl, hown]
    rfl
  · obtain ⟨hsc, hsl⟩ := onArmed_not_started (mt hstarts.mp hs)
    exact ⟨by rw [hsc, State.setSlot_scan, hscan], by rw [State.slot_of_sched hsl, hown],
      fun j hj => by rw [State.slot_of_sched hsl, hother j hj]⟩
  · rw [onArmed_rails harmed, State.setSlot_rails, State.setSlot_store, hrails, hpanel]

theorem freed_ending {sl : Slot} (hf : sl.cancel = true ∨ sl.taken = 0) : ∃ e, sl.cancel = true ∧ e = Ending.cancelled ∨
    sl.cancel = false ∧ sl.taken = 0 ∧ e = Ending.empty := by
  cases hc : sl.cancel
  · exact ⟨.empty, .inr ⟨rfl, by simpa [hc] using hf, rfl⟩⟩
  · exact ⟨.cancelled, .inl ⟨rfl, rfl⟩⟩

/-- A latch end suspends no passes and ends no suspension. -/
theorem endLatch_suspended {s : State} {i : Fin 16} {sl : Slot} (h : s.slot i = some sl) :
    (s.endLatch i).suspended = s.suspended := by
  by_cases hf : sl.cancel = true ∨ sl.taken = 0
  · obtain ⟨e, he⟩ := freed_ending hf
    rw [endLatch_freed_eq h he]
    exact suspended_congr_fault Iff.rfl rfl rfl
  · rw [not_or, Bool.not_eq_true] at hf
    have hframe := endLatch_armed_frame h hf.1 hf.2
    obtain ⟨-, -, hrails⟩ := endLatch_armed_slots h hf.1 hf.2
    refine suspended_congr_fault ?_ (by rw [hframe]) (by rw [hframe])
    rw [hrails]
    cases hr : s.rails.state with
    | off => cases s.rails.pgood <;> simp
    | _ => simp [hr]

/-- A latch end changes pixels, slots, the trigger of a pass, the scanner, the rails and what has been told. -/
theorem endLatch_frame {s : State} {i : Fin 16} {sl : Slot} (h : s.slot i = some sl) : s.endLatch i = { s with
    ev := (s.endLatch i).ev
    store := { s.store with pixels := (s.endLatch i).store.pixels }
    sched := { s.sched with slots := (s.endLatch i).sched.slots, passDue := (s.endLatch i).sched.passDue }
    scan := (s.endLatch i).scan, rails := (s.endLatch i).rails } := by
  by_cases hf : sl.cancel = true ∨ sl.taken = 0
  · obtain ⟨e, he⟩ := freed_ending hf
    rw [endLatch_freed_eq h he]
  · rw [not_or, Bool.not_eq_true] at hf
    have hv := endLatch_armed_frame h hf.1 hf.2
    generalize s.endLatch i = v at hv ⊢
    conv_lhs => rw [hv]
    rw [hv]

/-- Settles O32: `latchEnd_exec` ends the walk, `endLatch_freed_eq` and `endLatch_armed_slots` say what becomes of its
slot, and the pass that goes on leaves slots, pixels, rails and scanner. -/
theorem latchEndSettlesSlot : Obligations.LatchEndSettlesSlot := by
  intro s i todo sl hp hd w hs hw collided freed started
  obtain ⟨x, hexec, hx, hpass, hpixels, hslots, hhold⟩ := latchEnd_exec hp hd
  have hxs : x.slot i = some sl := (slot_of_slots hslots i).trans hs
  have walked := hx.walked
  have hother : ∀ j, j ≠ i → x.slot j = s.slot j := fun j hj =>
    walked.others j fun todo' e => hj (Pass.latching.inj (Option.some.inj (e.symm.trans hp))).1
  have hpixel : ∀ k, x.pixel k = w.pixel k := fun k => by unfold State.pixel; rw [hpixels]
  have hxw := walked.wf hw
  have hxf := hx.frame
  have hsusp := hx.suspended
  have hxev : x.ev = s.ev := by rw [hxf]
  have hxrails : x.rails = s.rails := by rw [hxf]
  have hxscan : x.scan = s.scan := by rw [hxf]
  have hxdue : x.sched.passDue = s.sched.passDue := by rw [hxf]
  have hxpanel : x.store.panel = s.store.panel := by rw [hxf]
  have htold := setFlagIf_told hxev hx.reserved (decide (0 < sl.skipped)) .collide
  have hdue : s.suspended = false → (x.endLatch i).continuePass.sched.passDue = (x.endLatch i).sched.passDue := fun h =>
    examine_passDue _ _ _ (((endLatch_suspended hxs).trans hsusp).trans h)
  have hflag : (x.endLatch i).continuePass.flag .collide = (x.endLatch i).flag .collide :=
    examine_flag (by simp) (by simp) _ _ _
  have hcollided : (x.setFlagIf (decide (0 < sl.skipped)) .collide).flag .collide =
      (s.flag .collide || decide (0 < sl.skipped)) := by
    rw [setFlagIf_flag]; unfold State.flag; rw [hxev]
  have hframe : x.endLatch i = { s with
      ev := (x.endLatch i).ev, rails := (x.endLatch i).rails, scan := (x.endLatch i).scan
      store := { s.store with pixels := (x.endLatch i).store.pixels }
      intake := { s.intake with hold := (x.endLatch i).intake.hold }, freeCount := (x.endLatch i).freeCount
      sched := { s.sched with
        slots := (x.endLatch i).sched.slots, passDue := (x.endLatch i).sched.passDue
        pass := some (.latching i []) } } := by
    have hvf := endLatch_frame hxs
    generalize x.endLatch i = v at hvf ⊢
    have hhold' : v.intake.hold = x.intake.hold := by rw [hvf]
    have hcount : v.freeCount = x.freeCount := by rw [hvf]
    rw [hhold', hcount]
    conv_lhs => rw [hvf, hxf]
    rw [hpass]
  have hcev : (x.setFlagIf (decide (0 < sl.skipped)) .collide).ev = collided.ev := by
    rw [setFlagIf_ev, setFlagIf_ev, State.setFlag, State.setFlag, hxev]
  have hstarts : x.startsFrame ↔
      (s.rails.state = .off ∧ s.rails.pgood = true) ∨ (s.rails.state = .on ∧ s.scan = none) := by
    unfold State.startsFrame
    rw [hxrails, hxscan]
  refine ⟨x.endLatch i, _, hexec, rfl, ?_⟩
  simp only [continuePass_slot, continuePass_pixel, continuePass_rails, continuePass_scan, hflag]
  by_cases hf : freed
  · obtain ⟨e, he⟩ := freed_ending hf
    have hv := endLatch_freed_eq hxs he
    have hnot : ¬ started := fun h => h.1 hf
    have hvpixel : ∀ k, (x.endLatch i).pixel k =
        if (x.pixel k).owner = some i then { x.pixel k with owner := none } else x.pixel k := fun k => by
      rw [hv]; exact pixelAt_mapOwned hxw.1 i PixelRec.released k
    have hvslot : ∀ j, (x.endLatch i).slot j = (x.setSlot i none).slot j := fun j =>
      slot_of_slots (by rw [hv]; rfl) j
    refine ⟨fun hc => ?_, fun hc ht => ?_, fun h => absurd hf h, hframe, ?_, fun h => ?_, ?_, ?_, hdue,
      fun _ => ⟨?_, ?_, ?_, fun k => ?_⟩, fun h => absurd hf h,
      fun j sl' hj _ _ h => absurd h hnot, fun j hj _ => ?_, fun k => ?_⟩
    · rcases he with ⟨-, rfl⟩ | ⟨hc', -, -⟩
      · rw [hv]; exact htold _
      · exact absurd (hc.symm.trans hc') (by simp)
    · rcases he with ⟨hc', -⟩ | ⟨-, -, rfl⟩
      · exact absurd (hc.symm.trans hc') (by simp)
      · rw [hv]; exact htold _
    · rw [hv]; exact hx.2.1
    · rw [hv]; exact hhold h
    · rw [hv]
      exact (told_flag (by simp) (by simp) _ _).trans hcollided
    · rw [hv, decide_eq_true hf, hxdue, hsusp, Bool.true_and]
    · rw [hvslot, State.setSlot_slot_same]
    · rw [hv]; exact hxrails
    · rw [hv]; exact hxscan
    · rw [hvpixel, hpixel]
    · rw [hvslot, State.setSlot_slot_other _ _ _ _ hj, hother j hj]
    · rw [hvpixel, ← walked.shown k, ← walked.target k]
      split <;> exact ⟨rfl, rfl⟩
  · have hf' : sl.cancel = false ∧ sl.taken ≠ 0 := by
      rw [← Bool.not_eq_true]; exact not_or.mp hf
    obtain ⟨hc, ht⟩ := hf'
    have hv := endLatch_armed_frame hxs hc ht
    obtain ⟨hstart, hnot, hrails⟩ := endLatch_armed_slots hxs hc ht
    rw [hxrails, hxpanel] at hrails
    have hstarted : started ↔ x.startsFrame := (and_iff_right hf).trans hstarts.symm
    have hvpixel : ∀ k, (x.endLatch i).pixel k = x.pixel k := fun k => by unfold State.pixel; rw [hv]
    rw [hxpanel] at hstart
    rw [hxscan] at hnot
    refine ⟨fun h => absurd (.inl h) hf, fun _ h => absurd (.inr h) hf, fun _ => ?_, hframe, ?_, fun h => ?_, ?_, ?_,
      hdue, fun h => absurd h hf, fun _ => ⟨fun k => ?_, fun hr hg => ?_, fun hr hg => ?_,
        fun hr => ⟨?_, fun hn => ?_, fun hn => ?_⟩, fun hr => ?_⟩,
      fun j sl' hj hs' ha h => ?_, fun j hj h => ?_, fun k => ?_⟩
    · rw [hv]; exact hcev
    · rw [hv]; exact hx.2.1
    · rw [hv]; exact hhold h
    · rw [hv]; exact hcollided
    · rw [hv, decide_eq_false hf, hxdue, Bool.false_and, Bool.or_false]
    · rw [hvpixel, hpixel]
    · obtain ⟨hsc, hsl, -⟩ := hnot (by rw [hstarts]; simp [hr, hg])
      exact ⟨hsl, by rw [hrails]; simp [hr, hg], hsc⟩
    · obtain ⟨hsc, hsl, -⟩ := hstart (by rw [hstarts]; simp [hr, hg])
      exact ⟨hsl, by rw [hrails]; simp [hr, hg], hsc⟩
    · rw [hrails]; simp [hr]
    · obtain ⟨hsc, hsl, -⟩ := hstart (by rw [hstarts]; simp [hr, hn])
      exact ⟨hsl, hsc⟩
    · obtain ⟨hsc, hsl, -⟩ := hnot (by rw [hstarts]; simp [hr, Option.isSome_iff_ne_none.mp hn])
      exact ⟨hsl, hsc⟩
    · obtain ⟨hsc, hsl, -⟩ := hnot (by rw [hstarts]; rcases hr with hr | hr <;> simp [hr])
      exact ⟨hsl, by rw [hrails]; rcases hr with hr | hr <;> rw [hr], hsc⟩
    · obtain ⟨-, -, hsl⟩ := hstart (hstarted.mp h)
      rw [hsl j hj, hother j hj, hs', ← start_of_armed ha]; rfl
    · by_cases hst : started
      · obtain ⟨-, -, hsl⟩ := hstart (hstarted.mp hst)
        rw [hsl j hj, hother j hj]
        cases hs' : s.slot j with
        | none => rfl
        | some sl' => rw [Option.map_some, start_of_not_armed (h.elim (fun h => h sl' hs') fun h => absurd hst h)]
      · obtain ⟨-, -, hsl⟩ := hnot (mt hstarted.mpr hst)
        rw [hsl j hj, hother j hj]
    · rw [hvpixel]; exact ⟨walked.shown k, walked.target k⟩

end Sys2Proof.Machine
end

section
/-! SUPPORT. The rules of the Table Store's own operations (02): font slots, the keys of the directory, the blocks that
entries hold and the free ones, and the packed bitmap. -/

namespace Sys2Proof.Machine

/-! ### Font slots and styles (R17, R28) -/

theorem font_setFont (t : Tables) (n m : Nat) (f : Option Font) :
    (t.setFont n f).font m = if n = m ∧ n < 8 then f else t.font m := by
  unfold Tables.font Tables.setFont
  rw [Vector.getElem?_setIfInBounds]
  by_cases h : n = m
  · subst h
    by_cases hn : n < 8
    · simp [hn]
    · simp [hn]
  · simp [h]

theorem font_setFont_same (t : Tables) {n : Nat} (h : n ≤ 7) (f : Option Font) : (t.setFont n f).font n = f := by
  rw [font_setFont, if_pos ⟨rfl, by omega⟩]

theorem font_setFont_other (t : Tables) {n m : Nat} (h : m ≠ n) (f : Option Font) :
    (t.setFont n f).font m = t.font m := by
  rw [font_setFont, if_neg fun e => h e.1.symm]

/-- A DEFINED slot is one of the eight. -/
theorem font_le {t : Tables} {n : Nat} (h : (t.font n).isSome = true) : n ≤ 7 := by
  by_contra hn
  rw [Tables.font, Vector.getElem?_eq_none (by omega)] at h
  cases h

/-- To empty an EMPTY slot changes nothing. -/
theorem setFont_none (t : Tables) {n : Nat} (h : t.font n = none) : t.setFont n none = t := by
  unfold Tables.setFont
  suffices hf : t.fonts.setIfInBounds n none = t.fonts by rw [hf]
  refine Vector.ext fun i hi => ?_
  rw [Vector.getElem_setIfInBounds]
  split
  · subst n
    rw [Tables.font, Vector.getElem?_eq_getElem hi] at h
    exact h.symm
  · rfl

theorem style_set (t : Tables) {n : Nat} (h : n ≤ 15) (m : Nat) (st : Style) :
    Tables.style { t with styles := t.styles.setIfInBounds n st } m = if n = m then st else t.style m := by
  unfold Tables.style
  rw [Vector.getElem?_setIfInBounds]
  by_cases hm : n = m
  · subst hm; simp [Nat.lt_succ_of_le h]
  · simp [hm]

/-! ### Keys of the directory (R20) -/

theorem dirKey_div (slot : Nat) {code : Nat} (h : code ≤ 0x10FFFF) : dirKey slot code / 2097152 = slot := by
  unfold dirKey; omega

theorem dirKey_inj {slot slot' code code' : Nat} (h : code ≤ 0x10FFFF) (h' : code' ≤ 0x10FFFF) :
    dirKey slot code = dirKey slot' code' ↔ slot = slot' ∧ code = code' := by
  unfold dirKey; omega

/-! ### What a list with rising keys holds after a change -/

section Lists

variable {α : Type}

theorem Store.drop_of_get?_none {m : List (Nat × α)} {k : Nat} (h : Store.get? m k = none) : Store.drop m k = m := by
  induction m with
  | nil => rfl
  | cons e rest ih =>
    obtain ⟨k', v⟩ := e
    simp only [Store.get?] at h
    split at h
    · cases h
    · rename_i hk
      have ih := ih h
      simp only [Store.drop] at ih ⊢
      rw [List.filter_cons_of_pos (by simpa using hk), ih]

/-- The entry under a key and the rest make up the list. -/
theorem Store.perm_drop {m : List (Nat × α)} (hs : Store.sorted m) {k : Nat} {v : α} (h : Store.get? m k = some v) :
    m.Perm ((k, v) :: Store.drop m k) := by
  induction m with
  | nil => cases h
  | cons e rest ih =>
    obtain ⟨k', v'⟩ := e
    obtain ⟨hlt, hrest⟩ := List.pairwise_cons.mp hs
    simp only [Store.get?] at h
    split at h
    · rename_i hk
      subst hk
      cases h
      have hout : Store.drop rest k' = rest :=
        List.filter_eq_self.mpr fun e he => by simpa using (Nat.ne_of_lt (hlt e he)).symm
      rw [show Store.drop ((k', v) :: rest) k' = Store.drop rest k' from List.filter_cons_of_neg (by simp), hout]
    · rename_i hk
      rw [show Store.drop ((k', v') :: rest) k = (k', v') :: Store.drop rest k from
        List.filter_cons_of_pos (by simpa using hk)]
      exact ((ih hrest h).cons _).trans (.swap ..)

/-- A new key adds its entry. -/
theorem Store.perm_put {m : List (Nat × α)} {k : Nat} (h : Store.get? m k = none) (v : α) :
    (Store.put m k v).Perm ((k, v) :: m) := by
  induction m with
  | nil => exact .refl _
  | cons e rest ih =>
    obtain ⟨k', v'⟩ := e
    simp only [Store.get?] at h
    split at h
    · cases h
    · rename_i hk
      simp only [Store.put]
      split
      · exact .refl _
      · rw [if_neg (Ne.symm hk)]
        exact ((ih h).cons _).trans (.swap ..)

theorem Store.get?_filter {m : List (Nat × α)} (p : Nat → Bool) (k : Nat) :
    Store.get? (m.filter fun e => p e.1) k = if p k = true then Store.get? m k else none := by
  induction m with
  | nil => simp [Store.get?]
  | cons e rest ih =>
    obtain ⟨k', v⟩ := e
    by_cases hk : k' = k
    · subst hk
      by_cases hp : p k' = true <;> simp [hp, Store.get?, ih]
    · by_cases hp : p k' = true <;> simp [hp, Store.get?, hk, ih]

end Lists

/-! ### The blocks that are held and the free ones (R21) -/

/-- The blocks that the entries of a directory hold. -/
def blocksOf (d : List (Nat × Entry)) : List Nat := d.flatMap fun e => e.2.blocks

theorem held_idle {t : Tables} (h : t.glyphWrite = none) : t.held = blocksOf t.directory := by
  simp [Tables.held, h, blocksOf]

theorem held_writing {t : Tables} {g : GlyphWrite} (h : t.glyphWrite = some g) :
    t.held = blocksOf t.directory ++ g.entry.blocks := by
  simp [Tables.held, h, blocksOf]

theorem blocksOf_length (d : List (Nat × Entry)) : (blocksOf d).length = (d.map fun e => e.2.blocks.length).sum :=
  List.length_flatMap

theorem blocksOf_drop {d : List (Nat × Entry)} (hs : Store.sorted d) {k : Nat} {e : Entry}
    (h : Store.get? d k = some e) : (blocksOf d).Perm (e.blocks ++ blocksOf (Store.drop d k)) :=
  (Store.perm_drop hs h).flatMap_right _

theorem blocksOf_put {d : List (Nat × Entry)} {k : Nat} (h : Store.get? d k = none) (e : Entry) :
    (blocksOf (Store.put d k e)).Perm (e.blocks ++ blocksOf d) :=
  (Store.perm_put h e).flatMap_right _

theorem mem_blocksOf {d : List (Nat × Entry)} {b : Nat} : b ∈ blocksOf d ↔ ∃ e ∈ d, b ∈ e.2.blocks :=
  List.mem_flatMap

/-- Blocks in the pool, no block twice, are no more than the pool has. -/
theorem blocks_length_le {bs : List Nat} (hn : bs.Nodup) (hp : ∀ b ∈ bs, b < 16384) : bs.length ≤ 16384 := by
  have hsub := List.Nodup.subperm hn fun b hb => List.mem_range.mpr (hp b hb)
  simpa using hsub.length_le

theorem PoolLegal.held_le {t : Tables} (h : PoolLegal t) : t.held.length ≤ 16384 := blocks_length_le h.once h.inPool

/-- The free blocks and the blocks held are the pool (R21). -/
theorem PoolLegal.free_add_held {t : Tables} (h : PoolLegal t) : t.freeBlocks + t.held.length = 16384 := by
  have := h.held_le
  simp only [Tables.freeBlocks, Config.poolBlocks]; omega

/-- The blocks a GLYPHPUT takes are the first of those not held (R23, log 8). -/
theorem takeBlocks_eq (fuel next n : Nat) (held : List Nat) :
    takeBlocks fuel next n held = ((List.range' next fuel).filter fun b => b ∉ held).take n := by
  induction fuel generalizing next n with
  | zero => simp [takeBlocks]
  | succ fuel ih =>
    cases n with
    | zero => simp [takeBlocks]
    | succ n =>
      simp only [takeBlocks, List.range'_succ]
      split
      · rename_i hb
        rw [ih, List.filter_cons_of_neg (by simpa using hb)]
      · rename_i hb
        rw [ih, List.filter_cons_of_pos (by simpa using hb), List.take_succ_cons]

/-- As many blocks are not held as the pool has less the blocks held. -/
theorem free_length {held : List Nat} (hn : held.Nodup) {size : Nat} (hp : ∀ b ∈ held, b < size) :
    ((List.range size).filter fun b => b ∉ held).length = size - held.length := by
  have hperm : ((List.range size).filter fun b => decide (b ∈ held)).Perm held := by
    rw [List.perm_ext_iff_of_nodup (List.nodup_range.filter _) hn]
    intro b
    simp only [List.mem_filter, List.mem_range, decide_eq_true_eq]
    exact ⟨fun h => h.2, fun h => ⟨hp b h, h⟩⟩
  have hsplit := List.length_eq_length_filter_add (l := List.range size) fun b => decide (b ∈ held)
  rw [hperm.length_eq, List.length_range] at hsplit
  simp only [decide_not]
  omega

/-- What a list of blocks taken beside `held` is: as many as asked for, each once, in the pool and free. -/
structure TakenBeside (held : List Nat) (n : Nat) (bs : List Nat) : Prop where
  length : bs.length = n
  once : bs.Nodup
  inPool : ∀ b ∈ bs, b < 16384
  free : ∀ b ∈ bs, b ∉ held

theorem takeBlocks_beside {held : List Nat} (hn : held.Nodup) (hp : ∀ b ∈ held, b < 16384) {n : Nat}
    (hroom : n + held.length ≤ 16384) : TakenBeside held n (takeBlocks Config.poolBlocks 0 n held) := by
  have hsub : ∀ b ∈ takeBlocks Config.poolBlocks 0 n held, b < 16384 ∧ b ∉ held := by
    intro b hb
    rw [takeBlocks_eq, ← List.range_eq_range'] at hb
    simpa [Config.poolBlocks] using List.mem_of_mem_take hb
  refine ⟨?_, ?_, fun b hb => (hsub b hb).1, fun b hb => (hsub b hb).2⟩
  · rw [takeBlocks_eq, ← List.range_eq_range', List.length_take, free_length hn (size := Config.poolBlocks) hp]
    simp only [Config.poolBlocks]; omega
  · rw [takeBlocks_eq, ← List.range_eq_range']
    exact ((List.nodup_range.filter _).sublist (List.take_sublist ..))

/-! ### Packed bitmaps (R172) -/

theorem clearPadding_length (n : Nat) (b : Bytes) : (clearPadding n b).length = b.length := by
  induction b with
  | nil => rfl
  | cons x rest ih =>
    cases rest with
    | nil => simp only [clearPadding]; split <;> rfl
    | cons y rest => simpa [clearPadding] using ih

/-- The padding half-byte is cleared in the last byte alone, and there only in the low half. -/
theorem clearPadding_getD (n : Nat) (b : Bytes) (i : Nat) : (clearPadding n b).getD i 0 =
    if i + 1 = b.length ∧ n % 2 = 1 then BitVec.ofNat 8 ((b.getD i 0).toNat / 16 * 16) else b.getD i 0 := by
  induction b generalizing i with
  | nil => simp [clearPadding]
  | cons x rest ih =>
    cases rest with
    | nil =>
      simp only [clearPadding]
      split <;> cases i <;> simp_all
    | cons y rest =>
      cases i with
      | zero => simp [clearPadding]
      | succ i => simpa [clearPadding] using ih i

theorem highHalf_toNat (b : Byte) : (BitVec.ofNat 8 (b.toNat / 16 * 16)).toNat = b.toNat / 16 * 16 := by
  have := b.isLt
  simp only [BitVec.toNat_ofNat]; omega

/-- Every coverage value of a bitmap keeps its value when the padding half-byte is cleared. -/
theorem coverageOf_clearPadding {n : Nat} {b : Bytes} (hl : b.length = bitmapBytes n) {j : Nat} (hj : j < n) :
    coverageOf ((clearPadding n b).getD (j / 2) 0) j = coverageOf (b.getD (j / 2) 0) j := by
  rw [clearPadding_getD]
  split
  · rename_i hlast
    obtain ⟨hlast, hodd⟩ := hlast
    have heven : j % 2 = 0 := by unfold bitmapBytes at hl; omega
    simp only [coverageOf, heven, if_true, highHalf_toNat]
    omega
  · rfl

/-- The padding half-byte of a bitmap with an odd number of values is 0. -/
theorem clearPadding_padding {n : Nat} (b : Bytes) (hb : b ≠ []) (hn : n % 2 = 1) :
    ((clearPadding n b).getD (b.length - 1) 0).toNat % 16 = 0 := by
  have := List.length_pos_of_ne_nil hb
  rw [clearPadding_getD, if_pos ⟨by omega, hn⟩, highHalf_toNat]
  omega

end Sys2Proof.Machine
end

section
/-! SUPPORT. What a command can do to the Table Store, said once: `exec_tables`. The records of chapter 02, the end of
a glyph write and the resets change it; every other command leaves it. -/

namespace Sys2Proof.Machine

open Host (Outcome)

/-! ### The changes (R18 to R31) -/

/-- One change of the tables. A record finds no glyph write in progress (R16). -/
inductive TablesStep (t : Tables) : Tables → Prop
  | keep : TablesStep t t
  | losePool : TablesStep t { t with pool := [] }
  | abandonWrite : TablesStep t { t with glyphWrite := none }
  | empty (styles : Vector Style 16) (h : styles = t.styles ∨ styles = Vector.replicate 16 Style.initial) :
      TablesStep t { Tables.emptied t.pool with styles := styles }
  | fontdef {body : Bytes} {d : FontdefRec} (h : parseFontdef body = .ok d) (idle : t.glyphWrite = none) :
      TablesStep t (t.fontdef d)
  | fontdrop {body : Bytes} {slot : Nat} (h : parseFontdrop body = .ok slot) (idle : t.glyphWrite = none) :
      TablesStep t (t.fontdrop slot)
  | accept {body : Bytes} {g : GlyphputRec} (h : checkGlyphput t body = .ok g) (idle : t.glyphWrite = none) :
      TablesStep t (t.accept g)
  | commit {g : GlyphWrite} (h : t.glyphWrite = some g) : TablesStep t (t.commit g)
  | glyphdrop (key : Nat) (idle : t.glyphWrite = none) :
      TablesStep t { t with directory := Store.drop t.directory key }
  | kernload {body : Bytes} {slot : Nat} {ps : List KernPair} (h : checkKernload t body = .ok (slot, ps)) :
      TablesStep t (t.setKern slot ps)
  | styleset {body : Bytes} {n : Nat} {st : Style} (h : parseStyleset body = .ok (n, st)) :
      TablesStep t { t with styles := t.styles.setIfInBounds n st }

theorem TablesStep.of_eq {t u : Tables} (h : u = t) : TablesStep t u := h ▸ .keep

/-! ### Guards: a property of the tables that both ways out of a guard have -/

section Guards

variable {s : State} {P : Tables → Prop}

theorem withHead_tables {k : RecordKind} {f : Bytes → State} (stay : P s.tables) (act : ∀ body, P (f body).tables) :
    P (s.withHead k f).tables := by
  rcases withHead_cases s k f with ⟨-, e⟩ | ⟨body, -, -, e⟩
  · rw [e]; exact stay
  · rw [e]; exact act body

theorem withDraw_tables {k : RecordKind} {f : Bytes → State} (stay : P s.tables) (act : ∀ body, P (f body).tables) :
    P (s.withDraw k f).tables :=
  withHead_tables stay fun body => by
    split
    · exact stay
    · exact act body

theorem glyphWrite_of_idle (h : s.tableBusy = false) : s.tables.glyphWrite = none := by
  simp only [State.tableBusy, Bool.or_eq_false_iff] at h
  simpa using h.1.1

theorem withTable_tables {k : RecordKind} {f : Bytes → State} (stay : P s.tables)
    (act : s.tables.glyphWrite = none → ∀ body, P (f body).tables) : P (s.withTable k f).tables :=
  withHead_tables stay fun body => by
    split
    · exact stay
    · rename_i hw
      exact act (glyphWrite_of_idle (by simpa using hw)) body

theorem withRead_tables {area : Area} {f : Bytes → State} (stay : P s.tables) (act : ∀ body, P (f body).tables) :
    P (s.withRead area f).tables :=
  withHead_tables stay fun body => by
    split
    · exact stay
    · split
      · exact stay
      · split
        · exact stay
        · split
          · exact stay
          · exact act body

theorem ifRoom_tables {u : State} (stay : P s.tables) (act : P u.tables) : P (s.ifRoom u).tables := by
  unfold State.ifRoom
  split
  · exact stay
  · exact act

theorem withRailctl_tables {action : Nat} {u : State} (stay : P s.tables) (act : P u.tables) :
    P (s.withRailctl action u).tables :=
  withHead_tables stay fun body => by
    split
    · exact stay
    · split
      · exact stay
      · split
        · exact stay
        · exact act

theorem withTempset_tables {source : Source} {f : Int → State} (stay : P s.tables) (act : ∀ z, P (f z).tables) :
    P (s.withTempset source f).tables :=
  withHead_tables stay fun body => by
    split
    · exact stay
    · split
      · exact stay
      · split
        · exact stay
        · exact act _

theorem withSleep_tables {option : Nat} {u : State} (stay : P s.tables) (act : P u.tables) :
    P (s.withSleep option u).tables :=
  withHead_tables stay fun body => by
    split
    · exact stay
    · split
      · exact stay
      · split
        · exact stay
        · split
          · exact stay
          · split
            · exact stay
            · exact act

theorem csRise_tables {isKind : Byte → Bool} {body : Bytes} {f : Rx → State → State} (stay : P s.tables)
    (act : ∀ rx s', s'.tables = s.tables → P (f rx s').tables) : P (s.csRise isKind body f).tables := by
  rcases csRise_cases s isKind body f with e | ⟨rx, -, -, ⟨-, e⟩ | ⟨-, e⟩⟩
  · rw [e]; exact stay
  · rw [e, State.framing, State.setFlagIf_tables]; exact stay
  · rw [e]; exact act rx _ rfl

theorem endUntaken_tables (s : State) (rx : Rx) : (s.endUntaken rx).tables = s.tables := by
  unfold State.endUntaken
  split <;> rfl

theorem express_tables {k : RecordKind} {body : Bytes} {f : State → State} (stay : P s.tables)
    (act : ∀ s', s'.tables = s.tables → P (f s').tables) : P (s.express k body f).tables :=
  csRise_tables stay fun rx s' e => by
    split
    · exact act s' e
    · rw [endUntaken_tables, e]; exact stay

end Guards

/-! ### Shared operations that leave the tables -/

section Operations

variable (s : State)

theorem advancePass_tables (n : Nat) : (s.advancePass n).tables = s.tables := by rw [advancePass_frame]

theorem readMany_tables (n : Nat) : (State.readMany n s).tables = s.tables := by rw [readMany_frame]

theorem freeAdvanceRead_tables : s.freeAdvanceRead.tables = s.tables := by rw [freeAdvanceRead_frame]

theorem advanceWalks_tables : s.advanceWalks.tables = s.tables := by rw [advanceWalks_frame]

theorem endPass_tables : s.endPass.tables = s.tables := by rw [endPass_frame]

theorem continuePass_tables : s.continuePass.tables = s.tables := by rw [continuePass_frame]

theorem reachOn_tables : s.reachOn.tables = s.tables := by rw [reachOn_frame]

theorem enterRising_tables : s.enterRising.tables = s.tables := by rw [enterRising_frame]

theorem enterFault_tables : s.enterFault.tables = s.tables := by rw [enterFault_frame]

theorem recomputeBand_tables : s.recomputeBand.tables = s.tables := by rw [recomputeBand_frame]

theorem startReadIfSensor_tables (lead : List WireEvent) : (s.startReadIfSensor lead).tables = s.tables := by
  rw [startReadIfSensor_frame]

theorem failRead_tables (events : List WireEvent) : (s.failRead events).tables = s.tables := by rw [failRead_frame]

theorem freeMisses_tables : s.freeMisses.tables = s.tables := by rw [freeMisses_frame]

theorem startText_tables (t : TextRec) : (s.startText t).tables = s.tables := by
  unfold State.startText
  split
  · rfl
  · exact freeMisses_tables _

theorem endLatch_tables (i : Fin 16) : (s.endLatch i).tables = s.tables := by
  cases h : s.slot i with
  | none => simp [State.endLatch, h]
  | some sl => rw [endLatch_frame h]

theorem cancelled_tables (tag : Byte) : (s.cancelled tag).tables = s.tables := by
  rw [cancelled_frame]
  show (s.cancelFrom tag).tables = s.tables
  rw [(cancelFrom_walkedOn s tag).frame]

theorem cancelTag_tables (tag : Byte) : (s.cancelTag tag).tables = s.tables := by
  rw [cancelTag_eq]
  split
  · rw [continuePass_tables, cancelled_tables]
  · exact cancelled_tables s tag

theorem haltAll_tables : s.haltAll.tables = s.tables := by rw [haltAll_eq]

theorem resolveAndAdmit_tables (r : Request) (unknownSeen : Bool) :
    (s.resolveAndAdmit r unknownSeen).tables = s.tables := by
  unfold State.resolveAndAdmit
  split
  · rfl
  · rw [continuePass_tables, State.notify_tables]; rfl
  · exact endPass_tables s

theorem commitBank_tables (b : BankId) : (s.commitBank b).tables = s.tables := by
  unfold State.commitBank
  rw [recomputeBand_tables]
  cases s.activeBank <;> simp

end Operations

/-! ### The commands -/

/-- Whatever state a command answers has tables that one change makes of those of `s`. -/
def StepsTables (s : State) (o : Outcome State Fault Refusal) : Prop :=
  ∀ t, o = .next t → TablesStep s.tables t.tables

theorem StepsTables.next {s t : State} (h : TablesStep s.tables t.tables) : StepsTables s (.next t) := fun u e => by
  injection e with e; exact e ▸ h

/-- A branch that changes the tables only where a condition holds. -/
theorem ite_tables {P : Tables → Prop} {c : Prop} [Decidable c] {s t : State} (ht : P t.tables) (hs : P s.tables) :
    P (if c then t else s).tables := by
  split
  · exact ht
  · exact hs

section Commands

variable (s : State)

/-! #### The Link Port (09) -/

theorem execHeaderDecode_tables (counted : Bool) (target kind : Byte) (length : BitVec 16) :
    StepsTables s (execHeaderDecode counted target kind length s) := by
  refine .next (ite_tables .keep ?_)
  unfold State.decodeHeader
  dsimp only
  refine ite_tables .keep (ite_tables (.of_eq (State.setFlagIf_tables ..)) ?_)
  have shown : TablesStep s.tables
      (if kind = RecordKind.fetchlive.code then (s.setMiso []).advanceShown else s.setMiso []).tables := by
    refine ite_tables ?_ .keep
    unfold State.advanceShown State.freeRebuild
    have hmiss : (s.setMiso []).freeMisses.tables = s.tables := freeMisses_tables _
    split
    · refine ite_tables (.of_eq hmiss) ?_
      exact hmiss ▸ .empty _ (.inl rfl)
    · exact .of_eq hmiss
  split <;> exact shown

theorem execRecordReceived_tables (body : Bytes) : StepsTables s (execRecordReceived body s) :=
  .next (csRise_tables .keep fun rx s' e => by
    split
    · exact .of_eq e
    · exact .of_eq ((endUntaken_tables s' rx).trans e))

theorem execFramingError_tables (cut : FramingCut) : StepsTables s (execFramingError cut s) := by
  refine .next (.of_eq ?_)
  split
  · split
    · rfl
    · split
      · exact State.setFlagIf_tables ..
      · rfl
  · split
    · rfl
    · exact State.setFlagIf_tables ..

theorem execUnknownKind_tables : StepsTables s (execUnknownKind s) := by
  refine .next (ite_tables ?_ .keep)
  split
  · exact .keep
  · exact ite_tables .keep .keep

theorem execFetchlive_tables : StepsTables s (execFetchlive s) := by
  refine .next ?_
  split
  · exact .keep
  · split <;> exact .keep

theorem execFetchqueue_tables : StepsTables s (execFetchqueue s) := by
  refine .next ?_
  split
  · exact .keep
  · split
    · exact .keep
    · exact ite_tables .keep .keep
    · exact ite_tables (.of_eq (endUntaken_tables (s.setRx none) _)) .keep

/-! #### Drawing (03, 04) -/

theorem execFill_tables : StepsTables s (execFill s) :=
  .next (withDraw_tables .keep fun _ => by split <;> exact .keep)

theorem execText_tables : StepsTables s (execText s) :=
  .next (withDraw_tables .keep fun _ => by
    split
    · exact .keep
    · exact ite_tables .keep (.of_eq (startText_tables s.pop _)))

theorem execHilite_tables : StepsTables s (execHilite s) :=
  .next (withDraw_tables .keep fun _ => by
    split
    · exact .keep
    · exact ite_tables .keep .keep)

theorem execCopy_tables : StepsTables s (execCopy s) :=
  .next (withDraw_tables .keep fun _ => by split <;> exact .keep)

theorem execClippush_tables : StepsTables s (execClippush s) :=
  .next (withDraw_tables .keep fun _ => by
    split
    · exact .keep
    · exact .of_eq (State.setFlagIf_tables ..))

theorem execClippop_tables : StepsTables s (execClippop s) :=
  .next (withDraw_tables .keep fun _ => by
    split
    · exact .keep
    · exact .of_eq (State.setFlagIf_tables ..))

theorem execClipreset_tables : StepsTables s (execClipreset s) :=
  .next (withDraw_tables .keep fun _ => by split <;> exact .keep)

theorem execDrawEnd_tables : StepsTables s (execDrawEnd s) := by
  refine .next ?_
  split
  · dsimp only
    split
    · exact .of_eq (State.setFlagIf_tables ..)
    · exact .keep
    · exact .keep
    · exact .keep
  · exact .keep

/-! #### The Table Store (02) -/

theorem execFontdef_tables : StepsTables s (execFontdef s) :=
  .next (withTable_tables .keep fun idle _ => by
    split
    · exact .keep
    · rename_i h; exact .fontdef h idle)

theorem execFontdrop_tables : StepsTables s (execFontdrop s) :=
  .next (withTable_tables .keep fun idle _ => by
    split
    · exact .keep
    · rename_i h; exact .fontdrop h idle)

theorem execGlyphput_tables : StepsTables s (execGlyphput s) :=
  .next (withTable_tables .keep fun idle _ => by
    split
    · exact .keep
    · rename_i h; exact .accept h idle)

theorem execGlyphWriteEnd_tables : StepsTables s (execGlyphWriteEnd s) := by
  refine .next ?_
  split
  · exact .keep
  · rename_i g h
    dsimp only
    split
    · rw [startText_tables]; exact .commit h
    · exact .commit h
    · exact .commit h

theorem execGlyphdrop_tables : StepsTables s (execGlyphdrop s) :=
  .next (withTable_tables .keep fun idle _ => by
    split
    · exact .keep
    · exact .glyphdrop _ idle)

theorem execKernload_tables : StepsTables s (execKernload s) :=
  .next (withTable_tables .keep fun _ _ => by
    split
    · exact .keep
    · rename_i h; exact .kernload h)

theorem execStyleset_tables : StepsTables s (execStyleset s) :=
  .next (withTable_tables .keep fun _ _ => by
    split
    · exact .keep
    · rename_i h; exact .styleset h)

/-! #### Waveforms and temperature (05, 06) -/

theorem execWavebegin_tables : StepsTables s (execWavebegin s) :=
  .next (withHead_tables .keep fun _ => by
    split
    · exact .keep
    · exact ite_tables .keep (.of_eq (State.setBank_tables ..)))

theorem execWaveput_tables : StepsTables s (execWaveput s) :=
  .next (withHead_tables .keep fun _ => by
    split
    · exact .keep
    · split
      · exact .keep
      · exact .of_eq (State.setBank_tables ..))

theorem execWavecommit_tables : StepsTables s (execWavecommit s) :=
  .next (withHead_tables .keep fun _ => by
    split
    · exact .keep
    · split
      · exact .keep
      · exact ite_tables .keep (.of_eq (commitBank_tables s.pop _)))

theorem tempset_tables (source : Source) : (s.tempset source).tables = s.tables := State.abandonRead_tables s

theorem execTempsetFixed_tables : StepsTables s (execTempsetFixed s) :=
  .next (withTempset_tables .keep fun _ =>
    .of_eq ((recomputeBand_tables _).trans (tempset_tables s.pop .fixed)))

theorem execTempsetSensor_tables : StepsTables s (execTempsetSensor s) :=
  .next (withTempset_tables .keep fun _ => .of_eq (tempset_tables s.pop .sensor))

/-! #### Updates (07) -/

theorem execUpdate_tables : StepsTables s (execUpdate s) :=
  .next (withHead_tables .keep fun _ => by
    split
    · exact .keep
    · exact ite_tables (.of_eq (State.notify_tables ..)) (ite_tables .keep .keep))

theorem execAdmissionPass_tables : StepsTables s (execAdmissionPass s) := by
  refine .next (ite_tables (.of_eq ?_) .keep)
  rw [continuePass_tables, beginPass_eq]

theorem execResolutionPixelReadsEnd_tables : StepsTables s (execResolutionPixelReadsEnd s) := by
  refine .next ?_
  split
  · exact ite_tables (.of_eq (continuePass_tables _)) .keep
  · exact .of_eq (resolveAndAdmit_tables s _ _)
  · exact .keep

theorem execLatchEnd_tables : StepsTables s (execLatchEnd s) := by
  refine .next ?_
  split
  · refine ite_tables .keep (.of_eq ?_)
    dsimp only
    split
    · rw [continuePass_tables, endLatch_tables, advancePass_tables, freeAdvanceRead_tables]
    · exact freeAdvanceRead_tables s
  · exact .keep

theorem execFrameEnd_tables : StepsTables s (execFrameEnd s) := by
  refine .next (ite_tables (.of_eq ?_) .keep)
  rw [frameEnd_frame]
  exact advanceWalks_tables s

theorem execCancel_tables (body : Bytes) : StepsTables s (execCancel body s) :=
  .next (express_tables .keep fun s' e => ite_tables (.of_eq e) (.of_eq ((cancelTag_tables s' _).trans e)))

theorem execHalt_tables (body : Bytes) : StepsTables s (execHalt body s) :=
  .next (express_tables .keep fun s' e => ite_tables (.of_eq e) (.of_eq ((haltAll_tables s').trans e)))

/-! #### The panel and the rails (01, 08) -/

theorem execPanelset_tables : StepsTables s (execPanelset s) :=
  .next (withHead_tables .keep fun _ => by
    split
    · exact .keep
    · exact ite_tables .keep (ite_tables .keep .keep))

theorem execRailctlOff_tables : StepsTables s (execRailctlOff s) :=
  .next (withRailctl_tables .keep (ite_tables .keep (by split <;> exact .keep)))

theorem execRailctlClear_tables : StepsTables s (execRailctlClear s) :=
  .next (withRailctl_tables .keep (ite_tables .keep .keep))

theorem execFallTimerExpiry_tables : StepsTables s (execFallTimerExpiry s) :=
  .next (ite_tables (ite_tables (.of_eq (enterRising_tables _)) .keep) .keep)

/-! #### The Event and Reply Unit (09) -/

theorem execEvmask_tables : StepsTables s (execEvmask s) :=
  .next (withHead_tables .keep fun _ => by split <;> exact .keep)

theorem execEvclear_tables : StepsTables s (execEvclear s) :=
  .next (withHead_tables .keep fun _ => by
    split
    · exact .keep
    · exact .of_eq (freeMisses_tables s))

theorem execReadGlyph_tables : StepsTables s (execReadGlyph s) :=
  .next (withRead_tables .keep fun _ =>
    ite_tables .keep (ite_tables .keep (ifRoom_tables .keep (ite_tables .keep .keep))))

theorem execReadGlyphEnd_tables : StepsTables s (execReadGlyphEnd s) :=
  .next (by split <;> exact .keep)

theorem execReadKern_tables : StepsTables s (execReadKern s) :=
  .next (withRead_tables .keep fun _ => ite_tables .keep (ite_tables .keep (ifRoom_tables .keep .keep)))

theorem execReadStyle_tables : StepsTables s (execReadStyle s) :=
  .next (withRead_tables .keep fun _ => ite_tables .keep (ifRoom_tables .keep .keep))

theorem execReadWave_tables : StepsTables s (execReadWave s) :=
  .next (withRead_tables .keep fun _ => ite_tables .keep (ifRoom_tables .keep .keep))

theorem execReadResidue_tables : StepsTables s (execReadResidue s) :=
  .next (withRead_tables .keep fun _ => ifRoom_tables .keep .keep)

theorem execReadPixels_tables : StepsTables s (execReadPixels s) :=
  .next (withRead_tables .keep fun _ => ite_tables .keep (by
    split
    · exact .keep
    · exact ifRoom_tables .keep .keep))

theorem execReadPixelsEnd_tables : StepsTables s (execReadPixelsEnd s) := by
  refine .next (.of_eq ?_)
  split
  · rename_i r _
    dsimp only
    split <;> exact readMany_tables s r.todo.length
  · rfl

/-! #### Power states and resets (09) -/

theorem fallAsleep_tables (p : Power) : (s.fallAsleep p).tables = s.tables := by rw [fallAsleep_eq]

theorem execSleep_tables : StepsTables s (execSleep s) :=
  .next (withSleep_tables .keep (.of_eq (fallAsleep_tables s .sleep)))

theorem execSleepDeep_tables : StepsTables s (execSleepDeep s) :=
  .next (withSleep_tables .keep (by
    show TablesStep s.tables { (s.fallAsleep .deep).tables with pool := [] }
    rw [fallAsleep_tables]
    exact .losePool))

theorem execWake_tables (body : Bytes) : StepsTables s (execWake body s) :=
  .next (csRise_tables .keep fun rx s' e => by
    split
    · refine ite_tables (.of_eq ?_) (.of_eq e)
      split <;> exact e
    · exact .of_eq ((endUntaken_tables s' rx).trans e))

theorem execWakingEnd_tables : StepsTables s (execWakingEnd s) := by
  refine .next ?_
  split
  · rw [startReadIfSensor_tables]
    exact ite_tables (.empty _ (.inl rfl)) .keep
  · exact .keep

theorem softReset_tables (keep : Bool) : TablesStep s.tables (s.softReset keep).tables := by
  obtain ⟨cut, n, -, h⟩ := softReset_blocks s keep
  rw [h]
  cases keep
  · exact .empty _ (.inr rfl)
  · exact .abandonWrite

theorem resetRecord_tables (option : Nat) (keep : Bool) (body : Bytes) :
    StepsTables s (.next (s.resetRecord option keep body)) :=
  .next (ite_tables .keep (express_tables .keep fun s' e =>
    ite_tables (.of_eq e) (ite_tables (.of_eq e) (e ▸ softReset_tables s' keep))))

end Commands

/-- What a command can do to the Table Store. -/
theorem exec_tables (c : Instr) (s : State) : StepsTables s (exec c s) := by
  cases c with
  | pinReset => exact .next (.empty _ (.inr rfl))
  | resetNRelease a0 a1 => exact .next (ite_tables .keep .keep)
  | startingEnd => exact .next (ite_tables (.of_eq (startReadIfSensor_tables _ _)) .keep)
  | headerDecode counted target kind length => exact execHeaderDecode_tables s counted target kind length
  | recordReceived body => exact execRecordReceived_tables s body
  | framingError cut => exact execFramingError_tables s cut
  | unknownKind => exact execUnknownKind_tables s
  | fill => exact execFill_tables s
  | text => exact execText_tables s
  | hilite => exact execHilite_tables s
  | copy => exact execCopy_tables s
  | clippush => exact execClippush_tables s
  | clippop => exact execClippop_tables s
  | clipreset => exact execClipreset_tables s
  | drawEnd => exact execDrawEnd_tables s
  | fontdef => exact execFontdef_tables s
  | fontdrop => exact execFontdrop_tables s
  | glyphput => exact execGlyphput_tables s
  | glyphWriteEnd => exact execGlyphWriteEnd_tables s
  | glyphdrop => exact execGlyphdrop_tables s
  | kernload => exact execKernload_tables s
  | styleset => exact execStyleset_tables s
  | wavebegin => exact execWavebegin_tables s
  | waveput => exact execWaveput_tables s
  | wavecommit => exact execWavecommit_tables s
  | update => exact execUpdate_tables s
  | admissionPass => exact execAdmissionPass_tables s
  | latchEnd => exact execLatchEnd_tables s
  | frameEnd => exact execFrameEnd_tables s
  | cancel body => exact execCancel_tables s body
  | halt body => exact execHalt_tables s body
  | panelset => exact execPanelset_tables s
  | reinitEnd => exact .next (ite_tables .keep .keep)
  | railctlOff => exact execRailctlOff_tables s
  | railctlClear => exact execRailctlClear_tables s
  | pgoodAsserted => exact .next (ite_tables (.of_eq (reachOn_tables _)) .keep)
  | pgoodLost => exact .next (ite_tables (.of_eq (enterFault_tables _)) .keep)
  | riseTimerExpiry => exact .next (ite_tables (.of_eq (enterFault_tables s)) .keep)
  | holdTimerExpiry => exact .next (ite_tables .keep .keep)
  | fallTimerExpiry => exact execFallTimerExpiry_tables s
  | tempsetFixed => exact execTempsetFixed_tables s
  | tempsetSensor => exact execTempsetSensor_tables s
  | sampleIntervalExpiry => exact .next (ite_tables .keep .keep)
  | sensorReadEnd raw => exact .next (ite_tables (.of_eq (recomputeBand_tables _)) .keep)
  | sensorNoAck => exact .next (ite_tables (.of_eq (failRead_tables s _)) .keep)
  | sensorReadTimeout => exact .next (ite_tables (.of_eq (failRead_tables s.useFree _)) .keep)
  | evmask => exact execEvmask_tables s
  | evclear => exact execEvclear_tables s
  | readGlyph => exact execReadGlyph_tables s
  | readGlyphEnd => exact execReadGlyphEnd_tables s
  | readKern => exact execReadKern_tables s
  | readStyle => exact execReadStyle_tables s
  | readWave => exact execReadWave_tables s
  | readResidue => exact execReadResidue_tables s
  | readPixels => exact execReadPixels_tables s
  | readPixelsEnd => exact execReadPixelsEnd_tables s
  | sleep => exact execSleep_tables s
  | sleepDeep => exact execSleepDeep_tables s
  | wake body => exact execWake_tables s body
  | wakingEnd => exact execWakingEnd_tables s
  | reset body => exact resetRecord_tables s 0 false body
  | resetKeepTables body => exact resetRecord_tables s 1 true body
  | fetchlive => exact execFetchlive_tables s
  | fetchqueue => exact execFetchqueue_tables s
  | resolutionPixelReadsEnd => exact execResolutionPixelReadsEnd_tables s

/-- What a step can do to the Table Store. -/
theorem step_tables {s t : State} (h : step s = .next t) : TablesStep s.tables t.tables := by
  unfold step at h
  split at h
  · injection h with h; subst h; exact .keep
  · rename_i i rest _
    exact exec_tables i { s with pending := rest } t h

end Sys2Proof.Machine
end

section
/-! SUPPORT. Every step keeps the pool and the directory legal, and the fonts and styles in their ranges (R17, R20, R21,
R26, R28): each change of `TablesStep` does, and `step_tables` says that a step makes no other. -/

namespace Sys2Proof.Machine

/-! ### What the checks of a record leave (R18, R19, R22, R27, R29) -/

/-- The checks of R18 in one: its three FIELD checks have one answer. -/
theorem parseFontdef_eq (b : Bytes) : parseFontdef b =
    if b.length ≠ 7 then .refuse .length
    else if 7 < u8 b 0 ∨ 4095 < u16 b 1 ∨ 1 < u8 b 3 ∨ (u8 b 3 = 1 ∧ 0x10FFFF < u24 b 4) then .refuse .field
    else .ok ⟨u8 b 0, u16 b 1, if u8 b 3 = 1 then some (u24 b 4) else none⟩ := by
  show (if b.length ≠ 7 then Checked.refuse .length
    else if 7 < u8 b 0 ∨ 4095 < u16 b 1 ∨ 1 < u8 b 3 then .refuse .field
    else if u8 b 3 = 1 ∧ 0x10FFFF < u24 b 4 then .refuse .field
    else .ok (⟨u8 b 0, u16 b 1, if u8 b 3 = 1 then some (u24 b 4) else none⟩ : FontdefRec)) = _
  split
  · rfl
  · by_cases h : 7 < u8 b 0 ∨ 4095 < u16 b 1 ∨ 1 < u8 b 3
    · rw [if_pos h, if_pos (by tauto)]
    · rw [if_neg h]
      by_cases h' : u8 b 3 = 1 ∧ 0x10FFFF < u24 b 4
      · exact (if_pos h').trans (if_pos (by tauto)).symm
      · exact (if_neg h').trans (if_neg (by tauto)).symm

theorem fontdef_fields {b : Bytes} {d : FontdefRec} (h : parseFontdef b = .ok d) :
    d.slot ≤ 7 ∧ d.missingAdvance ≤ 4095 ∧ ∀ c, d.fallback = some c → c ≤ 0x10FFFF := by
  rw [parseFontdef_eq] at h
  split at h
  · cases h
  · split at h
    · cases h
    · rename_i hbad
      cases h
      refine ⟨by dsimp only; omega, by dsimp only; omega, fun c hc => ?_⟩
      dsimp only at hc
      split at hc
      · cases hc; omega
      · cases hc

theorem styleset_thickness {b : Bytes} {n : Nat} {st : Style} (h : parseStyleset b = .ok (n, st)) :
    1 ≤ st.thickness ∧ st.thickness ≤ 4 := by
  unfold parseStyleset at h
  split at h
  · cases h
  · split at h
    · cases h
    · cases h; exact clampNat_bounds (by decide) _

/-- Check 2 of R22. -/
abbrev GlyphKey (b : Bytes) : Prop := u8 b 0 ≤ 7 ∧ u24 b 1 ≤ 0x10FFFF

/-- Check 4 of R22. -/
abbrev GlyphFields (b : Bytes) : Prop :=
  u8 b 4 ≤ 80 ∧ u8 b 5 ≤ 80 ∧ -64 ≤ s8 b 6 ∧ s8 b 6 ≤ 63 ∧ -80 ≤ s8 b 7 ∧ s8 b 7 ≤ 127 ∧ 0 ≤ s32 b 8 ∧ s32 b 8 ≤ 4095

/-- Checks 6 and 7 of R22 fail: no entry to add, or too few blocks. -/
abbrev GlyphFull (t : Tables) (b : Bytes) : Prop :=
  (t.entry (u8 b 0) (u24 b 1) = none ∧ 8192 ≤ t.directory.length) ∨
    t.available (u8 b 0) (u24 b 1) < blocksNeeded (u8 b 4) (u8 b 5)

theorem checkGlyphput_eq (t : Tables) (b : Bytes) : checkGlyphput t b =
    if b.length < 12 then .refuse .length
    else if ¬ GlyphKey b then .refuse .field
    else if t.font (u8 b 0) = none then .refuse .noFont
    else if ¬ GlyphFields b then .refuse .field
    else if b.length ≠ 12 + bitmapBytes (u8 b 4 * u8 b 5) then .refuse .length
    else if GlyphFull t b then .refuse .storeFull
    else .ok (glyphputFields b) := by
  have hkey : 7 < u8 b 0 ∨ Config.maxCode < u24 b 1 ↔ ¬ GlyphKey b := by simp only [Config.maxCode, GlyphKey]; omega
  have hfields : (80 < u8 b 4 ∨ 80 < u8 b 5 ∨ s8 b 6 < -64 ∨ 63 < s8 b 6 ∨ s8 b 7 < -80 ∨ 127 < s8 b 7 ∨ s32 b 8 < 0 ∨
      4095 < s32 b 8) ↔ ¬ GlyphFields b := by simp only [GlyphFields]; omega
  refine if_congr Iff.rfl rfl (if_congr hkey rfl (if_congr Option.isNone_iff_eq_none rfl (if_congr hfields rfl
    (if_congr Iff.rfl rfl ?_))))
  refine .trans ?_ (ite_or ..).symm
  exact if_congr (and_congr_left' Option.isNone_iff_eq_none) rfl rfl

/-- The fields of a GLYPHPUT that passed the seven checks of R22. -/
structure GlyphputLegal (t : Tables) (b : Bytes) (g : GlyphputRec) : Prop where
  fields : g = glyphputFields b
  slot : g.slot ≤ 7
  code : g.code ≤ 0x10FFFF
  font : (t.font g.slot).isSome = true
  size : g.width ≤ 80 ∧ g.height ≤ 80
  bearings : -64 ≤ g.bearingX ∧ g.bearingX ≤ 63 ∧ -80 ≤ g.bearingY ∧ g.bearingY ≤ 127
  advance : 0 ≤ g.advance ∧ g.advance ≤ 4095
  length : b.length = 12 + bitmapBytes (g.width * g.height)
  room : (t.entry g.slot g.code).isSome = true ∨ t.directory.length < 8192
  blocks : blocksNeeded g.width g.height ≤ t.available g.slot g.code

theorem glyphput_legal {t : Tables} {b : Bytes} {g : GlyphputRec} (h : checkGlyphput t b = .ok g) :
    GlyphputLegal t b g := by
  rw [checkGlyphput_eq] at h
  split_ifs at h with hmin hkey hfont hfields hlen hfull
  cases h
  simp only [not_or, not_and_or, not_le, not_lt] at hfull
  obtain ⟨hroom, hblocks⟩ := hfull
  obtain ⟨hslot, hcode⟩ := hkey
  obtain ⟨hwidth, hheight, hleft, hright, hbottom, htop, hadvance⟩ := hfields
  exact ⟨rfl, hslot, hcode, Option.isSome_iff_ne_none.mpr hfont, ⟨hwidth, hheight⟩, ⟨hleft, hright, hbottom, htop⟩,
    hadvance, not_not.mp hlen, hroom.imp_left Option.isSome_iff_ne_none.mpr, hblocks⟩

/-! ### Kern lists (R26, R27) -/

/-- Both codes of a pair are character codes (R26). -/
def KernPair.coded (p : KernPair) : Prop := p.left ≤ Config.maxCode ∧ p.right ≤ Config.maxCode

/-- The pair comes before another (R26). -/
def KernPair.rises (p q : KernPair) : Prop := p.left < q.left ∨ (p.left = q.left ∧ p.right < q.right)

theorem KernPair.before_iff (p q : KernPair) : p.before q = true ↔ p.rises q := by
  simp [KernPair.before, KernPair.rises]

theorem KernPair.rises_trans {p q r : KernPair} (h : p.rises q) (h' : q.rises r) : p.rises r := by
  unfold KernPair.rises at *; omega

/-- The walk over a pair: its codes are checked first, then its order (R27). -/
theorem kernWalk_cons (prev : Option KernPair) (p : KernPair) (rest : List KernPair) :
    (¬ p.coded → kernWalk prev (p :: rest) = some .field) ∧
    (∀ q, prev = some q → p.coded → ¬ q.rises p → kernWalk prev (p :: rest) = some .order) ∧
    ((∀ q, prev = some q → q.rises p) → p.coded → kernWalk prev (p :: rest) = kernWalk (some p) rest) := by
  simp only [kernWalk]
  refine ⟨fun h => if_pos (by unfold KernPair.coded at h; omega), fun q hq hc hr => ?_, fun hr hc => ?_⟩
  · rw [if_neg (by unfold KernPair.coded at hc; omega), if_pos]
    simpa [hq, ← KernPair.before_iff] using hr
  · rw [if_neg (by unfold KernPair.coded at hc; omega), if_neg]
    cases prev with
    | none => simp
    | some q => simpa using (KernPair.before_iff q p).mpr (hr q rfl)

/-- The walk finds nothing to refuse in a list of character codes that rises strictly. -/
theorem kernWalk_eq_none {prev : Option KernPair} {ps : List KernPair} : kernWalk prev ps = none ↔
    (∀ p ∈ ps, p.coded) ∧ List.IsChain KernPair.rises (prev.toList ++ ps) := by
  induction ps generalizing prev with
  | nil => cases prev <;> simp [kernWalk]
  | cons p rest ih =>
    obtain ⟨hfield, horder, hgo⟩ := kernWalk_cons prev p rest
    by_cases hc : p.coded
    · by_cases hr : ∀ q, prev = some q → q.rises p
      · rw [hgo hr hc, ih]
        cases prev with
        | none => simp [hc]
        | some q => simp [hc, hr q rfl]
      · obtain ⟨q, hq, hr⟩ : ∃ q, prev = some q ∧ ¬ q.rises p := by simpa using hr
        rw [horder q hq hc hr]
        simp [hq, hr]
    · rw [hfield hc]
      simp [hc]

/-- Past pairs that pass, the walk goes on from the last of them. -/
theorem kernWalk_append {prev : Option KernPair} {ps : List KernPair} (h : kernWalk prev ps = none)
    (rest : List KernPair) : kernWalk prev (ps ++ rest) = kernWalk (ps.getLast?.or prev) rest := by
  induction ps generalizing prev with
  | nil => rfl
  | cons p ps ih =>
    obtain ⟨hcoded, hchain⟩ := kernWalk_eq_none.mp h
    have hp : p.coded := hcoded p (List.mem_cons_self ..)
    have hr : ∀ q, prev = some q → q.rises p := by
      rintro q rfl
      simp only [Option.toList_some, List.singleton_append, List.isChain_cons_cons] at hchain
      exact hchain.1
    rw [(kernWalk_cons prev p ps).2.2 hr hp] at h
    rw [List.cons_append, (kernWalk_cons prev p _).2.2 hr hp, ih h]
    cases hps : ps.getLast? with
    | none => simp [List.getLast?_eq_none_iff.mp hps]
    | some q => simp [List.getLast?_cons, hps]

theorem kernWalk_pairwise {ps : List KernPair} (h : kernWalk none ps = none) : ps.Pairwise KernPair.rises := by
  have : Trans KernPair.rises KernPair.rises KernPair.rises := ⟨KernPair.rises_trans⟩
  exact List.isChain_iff_pairwise.mp (kernWalk_eq_none.mp h).2

theorem signed_bounds {n : Nat} (h : n < 256) : -128 ≤ signed 256 n ∧ signed 256 n ≤ 127 := by
  unfold signed
  split <;> omega

theorem u8_lt (b : Bytes) (i : Nat) : u8 b i < 256 := (b.getD i 0).isLt

/-- A KERNLOAD that passed the five checks of R27. -/
theorem kernload_legal {t : Tables} {b : Bytes} {slot : Nat} {ps : List KernPair}
    (h : checkKernload t b = .ok (slot, ps)) : (t.font slot).isSome = true ∧ ps.length ≤ 512 ∧
      kernWalk none ps = none ∧ ∀ p ∈ ps, -128 ≤ p.adj ∧ p.adj ≤ 127 := by
  unfold checkKernload at h
  dsimp only at h
  split at h
  · cases h
  · split at h
    · cases h
    · split at h
      · cases h
      · split at h
        · cases h
        · split at h
          · cases h
          · rename_i hfont hroom _ hwalk
            cases h
            refine ⟨by simpa [Option.isSome_iff_ne_none] using hfont, by simpa [kernPairsAt, Config.maxKern] using hroom, hwalk, fun p hp => ?_⟩
            obtain ⟨j, -, rfl⟩ := List.mem_map.mp hp
            exact signed_bounds (u8_lt _ _)

/-! ### The pool (R21) -/

/-- Entries may go, a glyph write may be given up, and headers may change where no entry needs them. -/
theorem PoolLegal.of_sublist {t u : Tables} (h : PoolLegal t) (hd : u.directory.Sublist t.directory)
    (hf : ∀ e ∈ u.directory, (u.font (e.1 / 2097152)).isSome = true)
    (hw : ∀ g, u.glyphWrite = some g → t.glyphWrite = some g ∧ (u.font g.slot).isSome = true) : PoolLegal u := by
  have hblocks : (blocksOf u.directory).Sublist (blocksOf t.directory) := hd.flatMap _
  have hheld : u.held.Sublist t.held := by
    cases hu : u.glyphWrite with
    | none =>
      rw [held_idle hu]
      exact hblocks.trans (List.sublist_append_left ..)
    | some g =>
      rw [held_writing hu, held_writing (hw g hu).1]
      exact hblocks.append_right _
  refine ⟨h.sorted.sublist hd, h.once.sublist hheld, fun b hb => h.inPool b (hheld.subset hb),
    fun e he => h.sizes e (hd.subset he), fun e he => h.ranges e (hd.subset he), hf, ?_, fun g hg => ?_⟩
  · have hlen := hd.length_le
    have hroom := h.room
    cases hu : u.glyphWrite with
    | none => simp only [Option.isSome_none, Bool.false_eq_true, if_false]; omega
    | some g =>
      simp only [(hw g hu).1, Option.isSome_some, if_true] at hroom ⊢; omega
  · obtain ⟨hg, hfont⟩ := hw g hg
    obtain ⟨hlen, hentry, hcode, -, hrange⟩ := h.writing g hg
    refine ⟨hlen, ?_, hcode, hfont, hrange⟩
    cases hu : u.entry g.slot g.code with
    | none => rfl
    | some e =>
      rw [Tables.entry, Store.get?_of_mem h.sorted (hd.subset (Store.mem_of_get? hu))] at hentry
      cases hentry

/-- Headers and kern lists may change where no DEFINED slot becomes EMPTY. -/
theorem PoolLegal.of_fonts {t u : Tables} (h : PoolLegal t) (hd : u.directory = t.directory)
    (hf : ∀ n, (t.font n).isSome = true → (u.font n).isSome = true) (hw : u.glyphWrite = t.glyphWrite) :
    PoolLegal u :=
  h.of_sublist (hd ▸ .refl _) (fun e he => hf _ (h.fonts e (hd ▸ he))) fun g hg => by
    rw [hw] at hg
    obtain ⟨-, -, -, hfont, -⟩ := h.writing g hg
    exact ⟨hg, hf _ hfont⟩

/-- At the end of a write its blocks pass to the entry, so the blocks held stay the same. -/
theorem commit_held {t : Tables} {g : GlyphWrite} (hg : t.glyphWrite = some g)
    (he : t.entry g.slot g.code = none) : (t.commit g).held.Perm t.held := by
  rw [held_idle rfl, held_writing hg]
  exact (blocksOf_put he g.entry).trans List.perm_append_comm

/-- The end of a glyph write keeps the pool legal (R24). -/
theorem PoolLegal.commit {t : Tables} (h : PoolLegal t) {g : GlyphWrite} (hg : t.glyphWrite = some g) :
    PoolLegal (t.commit g) := by
  obtain ⟨hlen, hentry, hcode, hfont, hrange⟩ := h.writing g hg
  have hheld := commit_held hg hentry
  have hroom := h.room
  rw [hg] at hroom
  have hmem : ∀ e ∈ (t.commit g).directory, e = (dirKey g.slot g.code, g.entry) ∨ e ∈ t.directory :=
    fun e he => Store.mem_put he
  refine ⟨Store.sorted_put h.sorted _ _, hheld.nodup_iff.mpr h.once, fun b hb => h.inPool b (hheld.mem_iff.mp hb),
    fun e he => ?_, fun e he => ?_, fun e he => ?_, ?_, fun g' hg' => by cases hg'⟩
  · rcases hmem e he with rfl | he
    · exact hlen
    · exact h.sizes e he
  · rcases hmem e he with rfl | he
    · exact hrange
    · exact h.ranges e he
  · rcases hmem e he with rfl | he
    · rw [dirKey_div g.slot hcode]; exact hfont
    · exact h.fonts e he
  · show (Store.put _ _ _).length + 0 ≤ 8192
    rw [(Store.perm_put hentry g.entry).length_eq]
    simpa using hroom

/-- The entry of a GLYPHPUT and its write, over the blocks free once the old entry has gone (R23). -/
def Tables.writeOf (t : Tables) (g : GlyphputRec) : GlyphWrite :=
  ⟨g.slot, g.code, ⟨g.width, g.height, g.bearingX, g.bearingY, g.advance.toNat,
    takeBlocks Config.poolBlocks 0 (blocksNeeded g.width g.height)
      (Tables.held { t with directory := Store.drop t.directory (dirKey g.slot g.code) })⟩,
    clearPadding (g.width * g.height) g.bitmap⟩

/-- The tables while that write is in progress. -/
def Tables.writing (t : Tables) (g : GlyphputRec) : Tables :=
  { t with directory := Store.drop t.directory (dirKey g.slot g.code), glyphWrite := some (t.writeOf g) }

theorem writing_entry (t : Tables) (g : GlyphputRec) : (t.writing g).entry g.slot g.code = none :=
  (Store.get?_drop ..).trans (if_pos rfl)

/-- A GLYPHPUT begins its write; one that needs no block ends it at once (R23, R24). -/
theorem accept_eq (t : Tables) (g : GlyphputRec) : t.accept g =
    if blocksNeeded g.width g.height = 0 then (t.writing g).commit (t.writeOf g) else t.writing g := rfl

/-- The blocks available to a GLYPHPUT and those of the other entries are the pool (R22). -/
theorem PoolLegal.available_add {t : Tables} (h : PoolLegal t) (idle : t.glyphWrite = none) (slot code : Nat) :
    t.available slot code + (blocksOf (Store.drop t.directory (dirKey slot code))).length = 16384 := by
  have hfree := h.free_add_held
  rw [held_idle idle] at hfree
  unfold Tables.available
  cases he : t.entry slot code with
  | none => rw [Store.drop_of_get?_none he]; simpa using hfree
  | some e =>
    have hlen := (blocksOf_drop h.sorted he).length_eq
    rw [List.length_append] at hlen
    simp only [Option.map_some, Option.getD_some]
    omega

theorem PoolLegal.drop {t : Tables} (h : PoolLegal t) (idle : t.glyphWrite = none) (key : Nat) :
    PoolLegal { t with directory := Store.drop t.directory key } :=
  h.of_sublist (List.filter_sublist ..) (fun e he => h.fonts e (Store.mem_drop.mp he).1)
    fun g hg => absurd (hg.symm.trans idle) (Option.some_ne_none g)

/-- The blocks an accepted GLYPHPUT takes are free once the old entry has gone (R22, R23). -/
theorem writeOf_beside {t : Tables} {b : Bytes} {g : GlyphputRec} (h : PoolLegal t) (idle : t.glyphWrite = none)
    (hg : GlyphputLegal t b g) : TakenBeside (blocksOf (Store.drop t.directory (dirKey g.slot g.code)))
      (blocksNeeded g.width g.height) (t.writeOf g).entry.blocks := by
  have hroom := h.available_add idle g.slot g.code
  have hdrop := h.drop idle (dirKey g.slot g.code)
  have hheld : Tables.held { t with directory := Store.drop t.directory (dirKey g.slot g.code) } =
      blocksOf (Store.drop t.directory (dirKey g.slot g.code)) := held_idle idle
  have honce := hdrop.once
  have hpool := hdrop.inPool
  unfold Tables.writeOf
  rw [hheld] at honce hpool ⊢
  have hblocks := hg.blocks
  exact takeBlocks_beside honce hpool (by omega)

theorem PoolLegal.writing_legal {t : Tables} {b : Bytes} {g : GlyphputRec} (h : PoolLegal t)
    (idle : t.glyphWrite = none) (hg : GlyphputLegal t b g) : PoolLegal (t.writing g) := by
  have hdrop := h.drop idle (dirKey g.slot g.code)
  have htaken := writeOf_beside h idle hg
  have hheld : (t.writing g).held =
      blocksOf (Store.drop t.directory (dirKey g.slot g.code)) ++ (t.writeOf g).entry.blocks := held_writing rfl
  have honce := hdrop.once
  have hpool := hdrop.inPool
  rw [held_idle (t := { t with directory := Store.drop t.directory (dirKey g.slot g.code) }) idle] at honce hpool
  refine ⟨hdrop.sorted, ?_, fun b hb => ?_, hdrop.sizes, hdrop.ranges, hdrop.fonts, ?_, fun g' hg' => ?_⟩
  · rw [hheld, List.nodup_append]
    exact ⟨honce, htaken.once, fun a ha b hb e => htaken.free b hb (e ▸ ha)⟩
  · rw [hheld, List.mem_append] at hb
    rcases hb with hb | hb
    · exact hpool b hb
    · exact htaken.inPool b hb
  · show (Store.drop t.directory (dirKey g.slot g.code)).length + 1 ≤ 8192
    have hroom := h.room
    rw [idle] at hroom
    rcases hg.room with he | hlt
    · obtain ⟨e, he⟩ := Option.isSome_iff_exists.mp he
      have := (Store.perm_drop h.sorted he).length_eq
      simp only [List.length_cons, Option.isSome_none, Bool.false_eq_true, if_false] at this hroom
      omega
    · have := (List.filter_sublist (l := t.directory) (p := fun e => e.1 ≠ dirKey g.slot g.code)).length_le
      unfold Store.drop
      omega
  · obtain rfl : t.writeOf g = g' := Option.some.inj hg'
    obtain ⟨hwidth, hheight⟩ := hg.size
    obtain ⟨hleft, hright, hbottom, htop⟩ := hg.bearings
    have hadvance : g.advance.toNat ≤ 4095 := by have := hg.advance; omega
    exact ⟨htaken.length, writing_entry t g, hg.code, hg.font,
      ⟨hwidth, hheight, hleft, hright, hbottom, htop, hadvance⟩⟩

/-- Each change of the tables keeps each pool block free or held once (R17, R20, R21). -/
theorem TablesStep.keeps_pool {t u : Tables} (step : TablesStep t u) (h : PoolLegal t) : PoolLegal u := by
  cases step with
  | keep => exact h
  | losePool => exact h.of_fonts rfl (fun _ => id) rfl
  | abandonWrite => exact h.of_sublist (.refl _) h.fonts fun g hg => by cases hg
  | empty styles hst =>
    exact h.of_sublist (List.nil_sublist _) (fun e he => by cases he) fun g hg => by cases hg
  | fontdef hd idle =>
    rename_i d
    refine h.of_fonts rfl (fun n hn => ?_) rfl
    rw [Tables.fontdef, font_setFont]
    split
    · rfl
    · exact hn
  | fontdrop hd idle =>
    rename_i slot
    refine h.of_sublist (List.filter_sublist ..) (fun e he => ?_)
      fun g hg => absurd (hg.symm.trans idle) (Option.some_ne_none g)
    obtain ⟨he, hslot⟩ := List.mem_filter.mp he
    exact (font_setFont_other t (of_decide_eq_true hslot) none).symm ▸ h.fonts e he
  | accept hg idle =>
    have hwriting := h.writing_legal idle (glyphput_legal hg)
    rw [accept_eq]
    split
    · exact hwriting.commit rfl
    · exact hwriting
  | commit hg => exact h.commit hg
  | glyphdrop key idle => exact h.drop idle key
  | kernload hk =>
    rename_i slot ps
    refine h.of_fonts rfl (fun n hn => ?_) rfl
    rw [Tables.setKern, font_setFont]
    split
    · rename_i e; simpa [e.1] using hn
    · exact hn
  | styleset hs => exact h.of_fonts rfl (fun _ => id) rfl

/-! ### Fonts and styles (R17, R26, R28) -/

/-- The header and the kern list of a DEFINED slot are in their ranges (R17, R26). -/
structure FontLegal (f : Font) : Prop where
  header : f.missingAdvance ≤ 4095 ∧ ∀ c, f.fallback = some c → c ≤ 0x10FFFF
  room : f.kern.length ≤ 512
  order : f.kern.Pairwise KernPair.rises
  range : ∀ p ∈ f.kern, p.left ≤ 0x10FFFF ∧ p.right ≤ 0x10FFFF ∧ -128 ≤ p.adj ∧ p.adj ≤ 127

theorem fontsLegal_iff {t : Tables} : FontsLegal t ↔
    (∀ n f, t.font n = some f → FontLegal f) ∧ ∀ st ∈ t.styles.toList, 1 ≤ st.thickness ∧ st.thickness ≤ 4 :=
  ⟨fun h => ⟨fun n f hf => ⟨h.header n f hf, h.kernRoom n f hf, h.kernOrder n f hf, h.kernRange n f hf⟩, h.thickness⟩,
    fun h => ⟨fun n f hf => (h.1 n f hf).header, fun n f hf => (h.1 n f hf).room, fun n f hf => (h.1 n f hf).order,
      fun n f hf => (h.1 n f hf).range, h.2⟩⟩

theorem FontsLegal.font {t : Tables} (h : FontsLegal t) {n : Nat} {f : Font} (hf : t.font n = some f) : FontLegal f :=
  (fontsLegal_iff.mp h).1 n f hf

theorem FontsLegal.congr {t u : Tables} (h : FontsLegal t) (hf : u.fonts = t.fonts) (hs : u.styles = t.styles) :
    FontsLegal u := by
  have hfont : ∀ n, u.font n = t.font n := fun n => by unfold Tables.font; rw [hf]
  exact fontsLegal_iff.mpr ⟨fun n f hn => h.font ((hfont n).symm.trans hn), hs ▸ h.thickness⟩

theorem FontsLegal.setFont {t : Tables} (h : FontsLegal t) (n : Nat) {o : Option Font}
    (ho : ∀ f, o = some f → FontLegal f) : FontsLegal (t.setFont n o) := by
  refine fontsLegal_iff.mpr ⟨fun m f hf => ?_, h.thickness⟩
  rw [font_setFont] at hf
  split at hf
  · exact ho f hf
  · exact h.font hf

theorem styles_initial {st : Style} (h : st ∈ (Vector.replicate 16 Style.initial).toList) :
    1 ≤ st.thickness ∧ st.thickness ≤ 4 := by
  rw [Vector.toList_replicate] at h
  rw [List.eq_of_mem_replicate h]
  decide

theorem kern_getD_legal {t : Tables} (h : FontsLegal t) (n : Nat) {d : FontdefRec}
    (hd : d.missingAdvance ≤ 4095 ∧ ∀ c, d.fallback = some c → c ≤ 0x10FFFF) :
    FontLegal ⟨d.missingAdvance, d.fallback, ((t.font n).map Font.kern).getD []⟩ := by
  cases hf : t.font n with
  | none => exact ⟨hd, by simp, by simp, by simp⟩
  | some f =>
    have hk := h.font hf
    exact ⟨hd, hk.room, hk.order, hk.range⟩

/-- Each change of the tables keeps font headers, kern lists and styles in their ranges (R17, R26, R28). -/
theorem TablesStep.keeps_fonts {t u : Tables} (step : TablesStep t u) (h : FontsLegal t) : FontsLegal u := by
  cases step with
  | keep => exact h
  | losePool => exact h.congr rfl rfl
  | abandonWrite => exact h.congr rfl rfl
  | empty styles hst =>
    refine fontsLegal_iff.mpr ⟨fun n f hf => ?_, fun st hmem => ?_⟩
    · exact absurd (hf.symm.trans (emptied_font t.pool n)) (Option.some_ne_none f)
    · rcases hst with rfl | rfl
      · exact h.thickness st hmem
      · exact styles_initial hmem
  | fontdef hd idle =>
    obtain ⟨-, hheader⟩ := fontdef_fields hd
    exact h.setFont _ fun f hf => Option.some.inj hf ▸ kern_getD_legal h _ hheader
  | fontdrop hd idle =>
    rename_i slot
    exact (h.setFont slot (o := none) fun f hf => by cases hf).congr rfl rfl
  | accept hg idle =>
    rw [accept_eq]
    split <;> exact h.congr rfl rfl
  | commit hg => exact h.congr rfl rfl
  | glyphdrop key idle => exact h.congr rfl rfl
  | kernload hk =>
    obtain ⟨-, hroom, hwalk, hadj⟩ := kernload_legal hk
    refine h.setFont _ fun f hf => ?_
    obtain ⟨f0, hf0, rfl⟩ := Option.map_eq_some_iff.mp hf
    refine ⟨(h.font hf0).header, hroom, kernWalk_pairwise hwalk, fun p hp => ?_⟩
    obtain ⟨hl, hr⟩ := (kernWalk_eq_none.mp hwalk).1 p hp
    exact ⟨hl, hr, hadj p hp⟩
  | styleset hs =>
    rename_i n st
    refine fontsLegal_iff.mpr ⟨(fontsLegal_iff.mp h).1, fun st' hmem => ?_⟩
    rw [Vector.toList_setIfInBounds] at hmem
    rcases List.mem_or_eq_of_mem_set hmem with hold | rfl
    · exact h.thickness st' hold
    · exact styleset_thickness hs

/-- Settles O58: each change of the tables keeps both invariants. -/
theorem stepKeepsPoolLegal : Obligations.StepKeepsPoolLegal :=
  ⟨fun _ _ h hstep => (step_tables hstep).keeps_pool h, fun _ _ h hstep => (step_tables hstep).keeps_fonts h⟩

end Sys2Proof.Machine
end

section
/-! SUPPORT. The Table Store's records at the intake head: fonts, styles, kern lists and the two drops (R18, R19, R25,
R27, R29). -/

namespace Sys2Proof.Machine

open Host (Outcome)

/-! ### A table record that waits for nothing (R16) -/

section Dispatched

variable {s : State} {k : RecordKind} {body : Bytes} {rest : List Record} {f : Bytes → State}

theorem withTable_of_dispatches (h : Dispatches s k body rest) (hw : s.tableBusy = false) :
    s.withTable k f = f body := by
  unfold State.withTable
  rw [withHead_of_dispatches h, hw]; rfl

theorem withTable_refuses {r : Reason} (h : Dispatches s k body rest) (hw : s.tableBusy = false)
    (hf : f body = s.refuseHead k r) :
    (.next (s.withTable k f) : Outcome State Fault Refusal) = .next (refusedAt s k r rest) := by
  rw [withTable_of_dispatches h hw, hf, refuseHead_eq_refusedAt h]

/-- A record that is taken leaves the queue and changes the tables alone. -/
theorem withTable_takes {tb : Tables} (h : Dispatches s k body rest) (hw : s.tableBusy = false)
    (hf : f body = { s.pop with tables := tb }) :
    (.next (s.withTable k f) : Outcome State Fault Refusal) = .next { taken s rest with tables := tb } := by
  rw [withTable_of_dispatches h hw, hf, pop_eq_taken h]

end Dispatched

/-! ### FONTDEF and STYLESET (R18, R29) -/

/-- Settles O16: the checks of R18, and `font_setFont` on the slot. -/
theorem fontdefDefinesSlot : Obligations.FontdefDefinesSlot := by
  intro s body rest hd hw
  have hparse := parseFontdef_eq body
  refine ⟨fun hl => withTable_refuses hd hw (by rw [hparse, if_pos hl]), fun hl => ?_⟩
  intro bad
  rw [if_neg (not_not.mpr hl)] at hparse
  refine ⟨fun hb => withTable_refuses hd hw (by rw [hparse, if_pos hb]), fun hb => ?_⟩
  rw [if_neg hb] at hparse
  have hslot : u8 body 0 ≤ 7 := (fontdef_fields hparse).1
  refine ⟨_, withTable_takes (tb := s.tables.fontdef ⟨u8 body 0, u16 body 1,
    if u8 body 3 = 1 then some (u24 body 4) else none⟩) hd hw (by rw [hparse]), ?_,
    fun n hn => font_setFont_other _ hn _, rfl⟩
  refine (font_setFont_same _ hslot _).trans ?_
  cases s.tables.font (u8 body 0) <;> rfl

/-- The style a STYLESET of legal codes gives (R29). -/
def stylesetOf (b : Bytes) : Style := ⟨Tone.clamp (u8 b 1),
  if u8 b 2 = 0 then .none else if u8 b 2 = 1 then .underline else .box,
  if u8 b 3 = 0 then .solid else .dotted, Tone.clamp (u8 b 4), clampNat 1 4 (u8 b 5)⟩

theorem parseStyleset_eq (b : Bytes) : parseStyleset b = if b.length ≠ 6 then .refuse .length
    else if 15 < u8 b 0 ∨ 2 < u8 b 2 ∨ 1 < u8 b 3 then .refuse .field else .ok (u8 b 0, stylesetOf b) := rfl

theorem stylesetOf_edgeKind {b : Bytes} (h : u8 b 2 ≤ 2) : (stylesetOf b).edgeKind.code = u8 b 2 := by
  unfold stylesetOf
  dsimp only
  split
  · rename_i h0; rw [h0]; rfl
  · split
    · rename_i h1; rw [h1]; rfl
    · show 2 = _; omega

theorem stylesetOf_pattern {b : Bytes} (h : u8 b 3 ≤ 1) : (stylesetOf b).pattern.code = u8 b 3 := by
  unfold stylesetOf
  dsimp only
  split
  · rename_i h0; rw [h0]; rfl
  · show 1 = _; omega

/-- Settles O21: the checks of R29, and `style_set` on the one style. -/
theorem stylesetWritesStyle : Obligations.StylesetWritesStyle := by
  intro s body rest hd hw
  have hparse := parseStyleset_eq body
  refine ⟨fun hl => withTable_refuses hd hw (by rw [hparse, if_pos hl]), fun hl => ?_⟩
  rw [if_neg (not_not.mpr hl)] at hparse
  refine ⟨fun hb => withTable_refuses hd hw (by rw [hparse, if_pos hb]), fun hn hk hp => ?_⟩
  rw [if_neg (by omega)] at hparse
  have hset := style_set s.tables hn (u8 body 0) (stylesetOf body)
  rw [if_pos rfl] at hset
  refine ⟨_, withTable_takes hd hw (by rw [hparse]), ?_, ?_, ?_, ?_, ?_, fun n hne => ?_, rfl⟩
  · exact (congrArg (fun st => st.fill.val) hset).trans (Nat.min_comm ..)
  · exact (congrArg (fun st => st.edgeKind.code) hset).trans (stylesetOf_edgeKind hk)
  · exact (congrArg (fun st => st.pattern.code) hset).trans (stylesetOf_pattern hp)
  · exact (congrArg (fun st => st.edgeTone.val) hset).trans (Nat.min_comm ..)
  · exact (congrArg Style.thickness hset).trans (clampNat_eq (by decide) _)
  · exact (style_set s.tables hn n (stylesetOf body)).trans (if_neg (Ne.symm hne))

/-! ### FONTDROP and GLYPHDROP (R19, R25) -/

/-- The blocks of the entries that pass a test and of those that do not are the blocks of all. -/
theorem blocksOf_filter (d : List (Nat × Entry)) (p : Nat × Entry → Bool) :
    (blocksOf (d.filter p)).length + (blocksOf (d.filter fun e => !p e)).length = (blocksOf d).length := by
  rw [← List.length_append, blocksOf, blocksOf, ← List.flatMap_append]
  exact ((List.filter_append_perm p d).flatMap_right _).length_eq

theorem fontdrop_entry (t : Tables) (slot : Nat) {slot' code : Nat} (h : code ≤ 0x10FFFF) :
    (t.fontdrop slot).entry slot' code = if slot' = slot then none else t.entry slot' code := by
  refine (Store.get?_filter (m := t.directory) (fun key => decide (key / 2097152 ≠ slot)) _).trans ?_
  rw [dirKey_div slot' h]
  by_cases hs : slot' = slot
  · simp [hs]
  · simp [hs, Tables.entry]

/-- Without a glyph write the free blocks are the pool less the blocks of the entries. -/
theorem freeBlocks_idle {t : Tables} (h : t.glyphWrite = none) :
    t.freeBlocks = 16384 - (blocksOf t.directory).length := by
  rw [Tables.freeBlocks, held_idle h]; rfl

theorem fontdrop_free {t : Tables} (h : PoolLegal t) (idle : t.glyphWrite = none) (slot : Nat) :
    (t.fontdrop slot).freeBlocks = t.freeBlocks +
      ((t.directory.filter fun e => e.1 / 2097152 = slot).map fun e => e.2.blocks.length).sum := by
  have hall := h.held_le
  rw [held_idle idle] at hall
  have hsplit := blocksOf_filter t.directory fun e => decide (e.1 / 2097152 = slot)
  have hkept : (t.fontdrop slot).directory = t.directory.filter fun e => !decide (e.1 / 2097152 = slot) := by
    simp [Tables.fontdrop]
  rw [freeBlocks_idle (t := t.fontdrop slot) idle, freeBlocks_idle idle, hkept, ← blocksOf_length]
  omega

/-- No entry belongs to an EMPTY slot, so to drop one changes nothing (R17, R19). -/
theorem fontdrop_empty {t : Tables} (h : PoolLegal t) {slot : Nat} (hf : t.font slot = none) : t.fontdrop slot = t := by
  have hkept : t.directory.filter (fun e => e.1 / 2097152 ≠ slot) = t.directory := by
    refine List.filter_eq_self.mpr fun e he => decide_eq_true fun hs => ?_
    have := h.fonts e he
    rw [hs, hf] at this
    cases this
  unfold Tables.fontdrop
  rw [setFont_none t hf, hkept]

theorem glyphdrop_free {t : Tables} (h : PoolLegal t) (idle : t.glyphWrite = none) {slot code : Nat} {e : Entry}
    (he : t.entry slot code = some e) :
    Tables.freeBlocks { t with directory := Store.drop t.directory (dirKey slot code) } =
      t.freeBlocks + e.blocks.length := by
  have hall := h.available_add idle slot code
  simp only [Tables.available, he, Option.map_some, Option.getD_some] at hall
  refine (freeBlocks_idle (t := { t with directory := Store.drop t.directory (dirKey slot code) }) idle).trans ?_
  show 16384 - (blocksOf (Store.drop t.directory (dirKey slot code))).length = _
  omega

theorem drop_entry (t : Tables) {slot code slot' code' : Nat} (h : code ≤ 0x10FFFF) (h' : code' ≤ 0x10FFFF) :
    Store.get? (Store.drop t.directory (dirKey slot code)) (dirKey slot' code') =
      if slot' = slot ∧ code' = code then none else t.entry slot' code' := by
  rw [Store.get?_drop]
  simp only [dirKey_inj h h', eq_comm (a := slot'), eq_comm (a := code')]
  rfl

/-- Settles O17: the checks of R19 and R25, and the directory without the entries that go. -/
theorem dropsReturnBlocks : Obligations.DropsReturnBlocks := by
  constructor
  · intro s body rest hd hw hpool
    have idle := glyphWrite_of_idle hw
    refine ⟨fun hl => withTable_refuses hd hw (by rw [parseFontdrop, if_pos hl]),
      fun hl hb => withTable_refuses hd hw (by rw [parseFontdrop, if_neg (not_not.mpr hl), if_pos hb]),
      fun hl hb => ?_⟩
    have hparse : parseFontdrop body = .ok (u8 body 0) := by
      rw [parseFontdrop, if_neg (not_not.mpr hl), if_neg (Nat.not_lt.mpr hb)]
    exact ⟨_, withTable_takes (tb := s.tables.fontdrop (u8 body 0)) hd hw (by rw [hparse]), font_setFont_same _ hb _, fontdrop_empty hpool,
      fun n hn => font_setFont_other _ hn _, fun slot code hc => fontdrop_entry s.tables _ hc,
      fontdrop_free hpool idle _, rfl⟩
  · intro s body rest hd hw hpool
    have idle := glyphWrite_of_idle hw
    refine ⟨fun hl => withTable_refuses hd hw (by rw [parseGlyphdrop, if_pos hl]),
      fun hl hb => withTable_refuses hd hw (by
        rw [parseGlyphdrop, if_neg (not_not.mpr hl), if_pos (by simpa [Config.maxCode] using hb)]),
      fun hl hs hc => ?_⟩
    have hparse : parseGlyphdrop body = .ok (u8 body 0, u24 body 1) := by
      rw [parseGlyphdrop, if_neg (not_not.mpr hl), if_neg]
      simp only [Config.maxCode]; omega
    refine ⟨_, withTable_takes (tb := { s.tables with
      directory := Store.drop s.tables.directory (dirKey (u8 body 0) (u24 body 1)) }) hd hw (by rw [hparse]),
      fun slot code hcode => drop_entry s.tables hc hcode, fun hn => ?_, fun e he => glyphdrop_free hpool idle he, rfl⟩
    show ({ s.tables with directory := Store.drop s.tables.directory (dirKey _ _) } : Tables) = s.tables
    rw [Store.drop_of_get?_none hn]

/-! ### KERNLOAD (R26, R27) -/

/-- The pairs of a KERNLOAD body (10.4). -/
def kernloadPairs (b : Bytes) : List KernPair :=
  (List.range (u16 b 1)).map fun j => ⟨u24 b (3 + 7 * j), u24 b (6 + 7 * j), s8 b (9 + 7 * j)⟩

theorem kernPairsAt_eq (b : Bytes) : kernPairsAt b 3 (u16 b 1) = kernloadPairs b := by
  unfold kernPairsAt kernloadPairs
  refine List.map_congr_left fun j _ => ?_
  rw [show 3 + 7 * j + 3 = 6 + 7 * j by omega, show 3 + 7 * j + 6 = 9 + 7 * j by omega]

theorem kernloadPairs_length (b : Bytes) : (kernloadPairs b).length = u16 b 1 := by simp [kernloadPairs]

/-- The pair at a place of the list has character codes. -/
def CodedAt (ps : List KernPair) (j : Nat) : Prop := ∀ p, ps[j]? = some p → p.coded

/-- The pair at a place of the list comes before the next. -/
def RisesAt (ps : List KernPair) (j : Nat) : Prop := ∀ p q, ps[j]? = some p → ps[j + 1]? = some q → p.rises q

theorem kernWalk_none_of_all {ps : List KernPair} (hc : ∀ j, j < ps.length → CodedAt ps j)
    (hr : ∀ j, j + 1 < ps.length → RisesAt ps j) : kernWalk none ps = none := by
  refine kernWalk_eq_none.mpr ⟨fun p hp => ?_, ?_⟩
  · obtain ⟨j, hj, rfl⟩ := List.mem_iff_getElem.mp hp
    exact hc j hj _ (List.getElem?_eq_getElem hj)
  · refine List.isChain_iff_getElem.mpr fun j hj => ?_
    exact hr j hj _ _ (List.getElem?_eq_getElem (Nat.lt_of_succ_lt hj)) (List.getElem?_eq_getElem hj)

/-- The first failing pair decides, its codes first (R27): the pairs before place `j` pass. -/
theorem kernWalk_first_failing {ps : List KernPair} {j : Nat} (hj : j < ps.length) (hc : ∀ i, i < j → CodedAt ps i)
    (hr : ∀ i, i + 1 < j → RisesAt ps i) :
    (¬ CodedAt ps j → kernWalk none ps = some .field) ∧
    (CodedAt ps j → 0 < j → ¬ RisesAt ps (j - 1) → kernWalk none ps = some .order) := by
  have hbefore : kernWalk none (ps.take j) = none := by
    refine kernWalk_none_of_all (fun i hi p hp => ?_) fun i hi p q hp hq => ?_
    · rw [List.length_take] at hi
      rw [List.getElem?_take_of_lt (by omega)] at hp
      exact hc i (by omega) p hp
    · rw [List.length_take] at hi
      rw [List.getElem?_take_of_lt (by omega)] at hp hq
      exact hr i (by omega) p q hp hq
  have hwalk : kernWalk none ps = kernWalk (ps.take j).getLast? (ps[j] :: ps.drop (j + 1)) := by
    conv_lhs => rw [← List.take_append_drop j ps, List.drop_eq_getElem_cons hj]
    rw [kernWalk_append hbefore, Option.or_none]
  obtain ⟨hfield, horder, -⟩ := kernWalk_cons (ps.take j).getLast? ps[j] (ps.drop (j + 1))
  have hcoded : CodedAt ps j ↔ ps[j].coded := by simp [CodedAt, hj]
  refine ⟨fun h => hwalk.trans (hfield (hcoded.not.mp h)), fun h hpos hrise => ?_⟩
  have hlast : (ps.take j).getLast? = some ps[j - 1] := by
    rw [List.getLast?_take, if_neg (by omega), List.getElem?_eq_getElem (by omega)]; rfl
  refine hwalk.trans (horder _ hlast (hcoded.mp h) fun hrises => hrise fun p q hp hq => ?_)
  rw [List.getElem?_eq_getElem (by omega)] at hp
  rw [show j - 1 + 1 = j by omega, List.getElem?_eq_getElem hj] at hq
  cases hp; cases hq
  exact hrises

/-- The checks of R27 on a body of its length, for a slot that exists. -/
theorem checkKernload_walk {t : Tables} {b : Bytes} {f : Font} (hl : 3 ≤ b.length ∧ b.length = 3 + 7 * u16 b 1)
    (hf : t.font (u8 b 0) = some f) (hn : u16 b 1 ≤ 512) :
    (∀ r, kernWalk none (kernloadPairs b) = some r → checkKernload t b = .refuse r) ∧
    (kernWalk none (kernloadPairs b) = none → checkKernload t b = .ok (u8 b 0, kernloadPairs b)) := by
  have hslot : u8 b 0 ≤ 7 := font_le (by rw [hf]; rfl)
  have hguards : ¬ (b.length < 3 ∨ b.length ≠ 3 + 7 * u16 b 1) ∧ ¬ 7 < u8 b 0 ∧ ¬ (t.font (u8 b 0)).isNone = true ∧
      ¬ Config.maxKern < u16 b 1 := ⟨by omega, by omega, by simp [hf], by simpa [Config.maxKern] using hn⟩
  obtain ⟨h1, h2, h3, h4⟩ := hguards
  refine ⟨fun r h => ?_, fun h => ?_⟩ <;>
    (unfold checkKernload; dsimp only; rw [if_neg h1, if_neg h2, if_neg h3, if_neg h4, kernPairsAt_eq, h])

/-- Settles O20: the checks of R27 in order, the fifth by `kernWalk_first_failing`. -/
theorem kernloadReplacesList : Obligations.KernloadReplacesList := by
  intro s body rest hd hw n pairs coded rising refused
  have hpairs : pairs = kernloadPairs body := rfl
  have hlen : (kernloadPairs body).length = n := kernloadPairs_length body
  have refuses : ∀ r, checkKernload s.tables body = .refuse r → refused r := fun r h =>
    withTable_refuses hd hw (by rw [h])
  refine ⟨fun hl => refuses _ ?_, fun hmin hl => ⟨fun hs => refuses _ ?_, fun hs hf => refuses _ ?_, fun f hf =>
    ⟨fun hn => refuses _ ?_, fun hn => ⟨fun j hj hc hr => ?_, fun hc hr => ?_⟩⟩⟩⟩
  · unfold checkKernload; dsimp only; rw [if_pos hl]
  · unfold checkKernload; dsimp only; rw [if_neg (by omega), if_pos hs]
  · unfold checkKernload; dsimp only; rw [if_neg (by omega), if_neg (by omega), if_pos (by simp [hf])]
  · have hslot : u8 body 0 ≤ 7 := font_le (by rw [hf]; rfl)
    unfold checkKernload; dsimp only
    rw [if_neg (by omega), if_neg (by omega), if_neg (by simp [hf]), if_pos (by simpa [Config.maxKern] using hn)]
  · obtain ⟨hwalks, -⟩ := checkKernload_walk ⟨hmin, hl⟩ hf hn
    obtain ⟨hfield, horder⟩ := kernWalk_first_failing (ps := kernloadPairs body) (hlen ▸ hj) hc hr
    exact ⟨fun h => refuses _ (hwalks _ (hfield h)), fun h hpos hrise => refuses _ (hwalks _ (horder h hpos hrise))⟩
  · obtain ⟨-, hok⟩ := checkKernload_walk ⟨hmin, hl⟩ hf hn
    have hcheck := hok (kernWalk_none_of_all (fun j hj => hc j (hlen ▸ hj)) fun j hj => hr j (hlen ▸ hj))
    have hslot : u8 body 0 ≤ 7 := font_le (by rw [hf]; rfl)
    refine ⟨_, withTable_takes (tb := s.tables.setKern (u8 body 0) (kernloadPairs body)) hd hw (by rw [hcheck]), ?_,
      fun m hm => font_setFont_other _ hm _, rfl⟩
    exact (font_setFont_same _ hslot _).trans (by rw [hf]; rfl)

end Sys2Proof.Machine
end

section
/-! SUPPORT. Glyphs (R22 to R24, R172): the blocks of a GLYPHPUT, and the end of its write, which stores the bitmap and
answers a held TEXT or HILITE (R30). -/

namespace Sys2Proof.Machine

open Host (Outcome)

/-! ### GLYPHPUT (R22, R23) -/

/-- An accepted GLYPHPUT: what its write is, and the tables as the write begins. -/
structure Accepted (t : Tables) (b : Bytes) (g : GlyphputRec) : Prop where
  legal : GlyphputLegal t b g
  before : PoolLegal t
  idle : t.glyphWrite = none

section Accept

variable {t : Tables} {b : Bytes} {g : GlyphputRec}

theorem Accepted.beside (h : Accepted t b g) : TakenBeside (blocksOf (Store.drop t.directory (dirKey g.slot g.code)))
    (blocksNeeded g.width g.height) (t.writeOf g).entry.blocks := writeOf_beside h.before h.idle h.legal

theorem accept_held (t : Tables) (g : GlyphputRec) : (t.accept g).held.Perm (t.writing g).held := by
  rw [accept_eq]
  split
  · exact commit_held rfl (writing_entry t g)
  · exact .refl _

/-- The free blocks and the blocks taken add up to the blocks available (R22, R23). -/
theorem Accepted.free (h : Accepted t b g) :
    (t.accept g).freeBlocks + blocksNeeded g.width g.height = t.available g.slot g.code := by
  have havailable := h.before.available_add h.idle g.slot g.code
  have hheld : (t.writing g).held.length =
      (blocksOf (Store.drop t.directory (dirKey g.slot g.code))).length + blocksNeeded g.width g.height := by
    rw [← h.beside.length, ← List.length_append, show (t.writing g).held = _ from held_writing rfl]
    rfl
  have hneeded := h.legal.blocks
  rw [Tables.freeBlocks, (accept_held t g).length_eq, hheld, Config.poolBlocks]
  omega

theorem accept_entry_other (t : Tables) (hc : g.code ≤ 0x10FFFF) {slot code : Nat} (hcode : code ≤ 0x10FFFF)
    (hne : ¬ (slot = g.slot ∧ code = g.code)) : (t.accept g).entry slot code = t.entry slot code := by
  have hkey : dirKey g.slot g.code ≠ dirKey slot code := fun e =>
    hne (((dirKey_inj hc hcode).mp e).imp Eq.symm Eq.symm)
  have hdrop : (t.writing g).entry slot code = t.entry slot code := (Store.get?_drop ..).trans (if_neg hkey)
  rw [accept_eq]
  split
  · exact ((Store.get?_put ..).trans (if_neg hkey)).trans hdrop
  · exact hdrop

theorem blocksNeeded_eq_zero {w h : Nat} : blocksNeeded w h = 0 ↔ w * h = 0 := by
  unfold blocksNeeded bitmapBytes; omega

/-- A glyph with no coverage value joins at once, without a block (R23, R24). -/
theorem Accepted.joins (h : Accepted t b g) (hn : blocksNeeded g.width g.height = 0) :
    (t.accept g).glyphWrite = none ∧ (t.accept g).pool = t.pool ∧ (t.accept g).entry g.slot g.code =
      some ⟨g.width, g.height, g.bearingX, g.bearingY, g.advance.toNat, []⟩ := by
  have hblocks : (t.writeOf g).entry.blocks = [] := List.length_eq_zero_iff.mp (h.beside.length.trans hn)
  have hbitmap : (t.writeOf g).bitmap = [] := by
    refine List.length_eq_zero_iff.mp ((clearPadding_length ..).trans ?_)
    have hlen := h.legal.length
    rw [blocksNeeded_eq_zero] at hn
    rw [hn, show bitmapBytes 0 = 0 from rfl] at hlen
    rw [h.legal.fields]
    simp [glyphputFields, hlen]
  rw [accept_eq, if_pos hn]
  refine ⟨rfl, ?_, ((Store.get?_put ..).trans (if_pos rfl)).trans ?_⟩
  · show Memory.writeBitmap t.pool (t.writeOf g).entry.blocks 0 (t.writeOf g).bitmap = t.pool
    rw [hbitmap]; rfl
  · rw [← hblocks]; rfl

/-- What of the tables a GLYPHPUT changes. -/
theorem Accepted.frame (h : Accepted t b g) : t.accept g =
    { t with directory := (t.accept g).directory, glyphWrite := (t.accept g).glyphWrite } := by
  by_cases hn : blocksNeeded g.width g.height = 0
  · obtain ⟨-, hpool, -⟩ := h.joins hn
    conv_rhs => rw [← hpool]
    rw [accept_eq, if_pos hn]
    rfl
  · rw [accept_eq, if_neg hn]
    rfl

/-- The bitmap of the write gives the coverage values as the GLYPHPUT sent them (R172). -/
theorem Accepted.bitmap (h : Accepted t b g) : (t.writeOf g).bitmap.length = bitmapBytes (g.width * g.height) ∧
    ∀ j, j < g.width * g.height →
      coverageOf ((t.writeOf g).bitmap.getD (j / 2) 0) j = coverageOf (b.getD (12 + j / 2) 0) j := by
  have hsent : g.bitmap = b.drop 12 := by rw [h.legal.fields]; rfl
  have hlen : (b.drop 12).length = bitmapBytes (g.width * g.height) := by
    rw [List.length_drop, h.legal.length]; omega
  refine ⟨(clearPadding_length ..).trans (hsent ▸ hlen), fun j hj => ?_⟩
  refine (coverageOf_clearPadding (hsent ▸ hlen) hj).trans ?_
  rw [hsent]
  simp [List.getD_eq_getElem?_getD]

end Accept

/-- Settles O18: `checkGlyphput_eq` for the checks, then what `Accepted` says of the write. -/
theorem glyphputTakesBlocks : Obligations.GlyphputTakesBlocks := by
  intro s body rest hd hw slot code w h bytes needed available entry c2 c4 full refused
  have idle := glyphWrite_of_idle hw
  have hcheck := checkGlyphput_eq s.tables body
  rw [show bitmapBytes (u8 body 4 * u8 body 5) = bytes from rfl] at hcheck
  have havailable : s.tables.available slot code = available := by
    show _ + _ = _ + _
    cases s.tables.entry slot code <;> rfl
  have refuses : ∀ r, checkGlyphput s.tables body = .refuse r → refused r := fun r h =>
    withTable_refuses hd hw (by rw [h])
  refine ⟨fun hl => refuses _ ?_, fun hl hk => refuses _ ?_, fun hl hk hf => refuses _ ?_,
    fun hl hk hf hg => refuses _ ?_, fun hl hk hf hg hb => refuses _ ?_, fun hk hf hg hb => ?_⟩
  · rw [hcheck, if_pos hl]
  · rw [hcheck, if_neg (Nat.not_lt.mpr hl), if_pos hk]
  · rw [hcheck, if_neg (Nat.not_lt.mpr hl), if_neg (not_not.mpr hk), if_pos hf]
  · rw [hcheck, if_neg (Nat.not_lt.mpr hl), if_neg (not_not.mpr hk), if_neg (Option.isSome_iff_ne_none.mp hf), if_pos hg]
  · rw [hcheck, if_neg (Nat.not_lt.mpr hl), if_neg (not_not.mpr hk), if_neg (Option.isSome_iff_ne_none.mp hf),
      if_neg (not_not.mpr hg), if_pos hb]
  · have hfull : GlyphFull s.tables body ↔ full ∨ available < needed := or_congr_right (by rw [← havailable]; rfl)
    rw [if_neg (by omega), if_neg (not_not.mpr hk), if_neg (Option.isSome_iff_ne_none.mp hf), if_neg (not_not.mpr hg),
      if_neg (not_not.mpr hb)] at hcheck
    refine ⟨fun hfail => refuses _ (by rw [hcheck, if_pos (hfull.mpr hfail)]), fun hroom hneed hpool => ?_⟩
    rw [if_neg fun hf => (hfull.mp hf).elim hroom (Nat.not_lt.mpr hneed)] at hcheck
    have haccepted : Accepted s.tables body (glyphputFields body) := ⟨glyphput_legal hcheck, hpool, idle⟩
    refine ⟨_, withTable_takes (tb := s.tables.accept (glyphputFields body)) hd hw (by rw [hcheck]),
      fun slot' code' hcode hne => accept_entry_other s.tables hk.2 hcode hne, haccepted.free.trans havailable,
      fun hn => ?_, fun hn => ?_, ?_⟩
    · obtain ⟨hwrite, -, hentry⟩ := haccepted.joins hn
      exact ⟨hwrite, hentry⟩
    · have hwriting : s.tables.accept (glyphputFields body) = s.tables.writing (glyphputFields body) :=
        if_neg (Nat.pos_iff_ne_zero.mp hn)
      obtain ⟨hlength, hcoverage⟩ := haccepted.bitmap
      obtain ⟨hcount, honce, hpool, hfree⟩ := haccepted.beside
      rw [hwriting]
      exact ⟨writing_entry .., _, rfl, rfl, rfl, rfl, hcount, honce, hpool,
        fun e he b hb hmem => hfree b hb (mem_blocksOf.mpr ⟨e, he, hmem⟩), hlength, hcoverage⟩
    · exact congrArg (fun tb : Tables => { taken s rest with tables := tb }) haccepted.frame

/-! ### The end of a glyph write (R24, R172) -/

/-- Each byte of a bitmap has a place of its own in its blocks (R20). -/
theorem bitmapAddress_inj {blocks : List Nat} (hn : blocks.Nodup) {i j : Nat} (hi : i < 64 * blocks.length)
    (hj : j < 64 * blocks.length) (h : bitmapAddress blocks i = bitmapAddress blocks j) : i = j := by
  unfold bitmapAddress Config.blockBytes at h
  have hi' : i / 64 < blocks.length := by omega
  have hj' : j / 64 < blocks.length := by omega
  rw [List.getD_eq_getElem _ _ hi', List.getD_eq_getElem _ _ hj'] at h
  have hblock : blocks[i / 64] = blocks[j / 64] := by omega
  have hindex := (hn.getElem_inj_iff).mp hblock
  rw [hblock] at h
  omega

theorem bitmapAddress_lt {blocks : List Nat} (hp : ∀ b ∈ blocks, b < 16384) {j : Nat} (hj : j < 64 * blocks.length) :
    bitmapAddress blocks j < Config.poolBlocks * Config.blockBytes := by
  have hj' : j / 64 < blocks.length := by omega
  have := hp _ (List.getElem_mem hj')
  unfold bitmapAddress Config.blockBytes Config.poolBlocks
  rw [List.getD_eq_getElem _ _ hj']
  omega

/-- A bitmap's bytes go to its own addresses alone. -/
theorem read_writeBitmap_other (blocks : List Nat) (bytes : Bytes) (m : List Host.Cell) (start a : Nat)
    (h : ∀ i, i < bytes.length → a ≠ bitmapAddress blocks (start + i)) :
    Memory.read (Memory.writeBitmap m blocks start bytes) a = Memory.read m a := by
  induction bytes generalizing m start with
  | nil => rfl
  | cons b rest ih =>
    have hfirst : bitmapAddress blocks start ≠ a := (h 0 (Nat.zero_lt_succ _)).symm
    rw [Memory.writeBitmap, ih, Memory.read_write_other _ _ _ _ hfirst]
    intro i hi
    rw [Nat.add_assoc, Nat.add_comm 1]
    exact h (i + 1) (Nat.succ_lt_succ hi)

/-- A bitmap reads back as it was written. -/
theorem read_writeBitmap_same {blocks : List Nat} (hn : blocks.Nodup) (hp : ∀ b ∈ blocks, b < 16384) (bytes : Bytes)
    (m : List Host.Cell) (start : Nat) (hroom : start + bytes.length ≤ 64 * blocks.length) {i : Nat}
    (hi : i < bytes.length) :
    Memory.read (Memory.writeBitmap m blocks start bytes) (bitmapAddress blocks (start + i)) = bytes.getD i 0 := by
  induction bytes generalizing m start i with
  | nil => cases hi
  | cons b rest ih =>
    rw [List.length_cons] at hroom hi
    rw [Memory.writeBitmap]
    cases i with
    | zero =>
      show Memory.read _ (bitmapAddress blocks start) = b
      rw [read_writeBitmap_other, Memory.read_write _ _ _ _ (bitmapAddress_lt hp (by omega)), if_pos rfl]
      · intro i hi h
        have := bitmapAddress_inj hn (by omega) (by omega) h
        omega
    | succ i =>
      rw [show start + (i + 1) = start + 1 + i by omega, ih _ _ (by omega) (by omega)]
      rfl

/-- The blocks of the write in progress are its own, and in the pool (R21). -/
theorem PoolLegal.writeBlocks {t : Tables} (h : PoolLegal t) {g : GlyphWrite} (hg : t.glyphWrite = some g) :
    g.entry.blocks.Nodup ∧ ∀ b ∈ g.entry.blocks, b < 16384 := by
  have honce := h.once
  have hpool := h.inPool
  rw [held_writing hg] at honce hpool
  exact ⟨(List.nodup_append.mp honce).2.1, fun b hb => hpool b (List.mem_append_right _ hb)⟩

/-- The coverage values of the entry read as the write's bitmap gives them (R24, R172). -/
theorem commit_coverage {t : Tables} (h : PoolLegal t) {g : GlyphWrite} (hg : t.glyphWrite = some g)
    (hl : g.bitmap.length = bitmapBytes (g.entry.width * g.entry.height)) {j : Nat}
    (hj : j < g.entry.width * g.entry.height) :
    (t.commit g).coverage g.entry j = coverageOf (g.bitmap.getD (j / 2) 0) j := by
  obtain ⟨honce, hpool⟩ := h.writeBlocks hg
  obtain ⟨hblocks, -⟩ := h.writing g hg
  have hroom : 0 + g.bitmap.length ≤ 64 * g.entry.blocks.length := by rw [hblocks, hl, blocksNeeded]; omega
  have hread := read_writeBitmap_same honce hpool g.bitmap t.pool 0 hroom (i := j / 2)
    (by rw [hl, bitmapBytes]; omega)
  rw [Nat.zero_add] at hread
  exact congrArg (coverageOf · j) hread

theorem commit_entry (t : Tables) {g : GlyphWrite} (hg : g.code ≤ 0x10FFFF) :
    (t.commit g).entry g.slot g.code = some g.entry ∧ ∀ slot code, code ≤ 0x10FFFF →
      ¬ (slot = g.slot ∧ code = g.code) → (t.commit g).entry slot code = t.entry slot code := by
  refine ⟨(Store.get?_put ..).trans (if_pos rfl), fun slot code hc hne => (Store.get?_put ..).trans (if_neg fun e => ?_)⟩
  exact hne (((dirKey_inj hg hc).mp e).imp Eq.symm Eq.symm)

/-- A state whose glyph write has ended, before a held lookup is answered (R24). -/
def State.committed (s : State) (g : GlyphWrite) : State := { s with tables := s.tables.commit g }

theorem glyphWriteEnd_plain {s : State} {g : GlyphWrite} (hg : s.tables.glyphWrite = some g)
    (ht : ∀ x, s.comp.draw ≠ some (.textHeld x)) (hh : ∀ h, s.comp.draw ≠ some (.hiliteHeld h)) :
    exec .glyphWriteEnd s = .next (s.committed g) := by
  show Outcome.next _ = _
  rw [hg]
  dsimp only
  split
  · rename_i x hx; exact absurd hx (ht x)
  · rename_i h hx; exact absurd hx (hh h)
  · rfl

theorem glyphWriteEnd_text {s : State} {g : GlyphWrite} (hg : s.tables.glyphWrite = some g) {x : TextRec}
    (hx : s.comp.draw = some (.textHeld x)) : exec .glyphWriteEnd s = .next ((s.committed g).startText x) := by
  show Outcome.next _ = _
  simp only [hg, hx]
  rfl

theorem glyphWriteEnd_hilite {s : State} {g : GlyphWrite} (hg : s.tables.glyphWrite = some g) {h : HiliteRec}
    (hx : s.comp.draw = some (.hiliteHeld h)) : exec .glyphWriteEnd s = .next ((s.committed g).startHilite h) := by
  show Outcome.next _ = _
  simp only [hg, hx]
  rfl

/-- Settles O19: `commit_entry` and `commit_coverage` for the tables, `startText_eq` for a held TEXT. -/
theorem glyphWriteEndStoresBitmap : Obligations.GlyphWriteEndStoresBitmap := by
  intro s g hg hpool hl
  obtain ⟨-, -, hcode, -⟩ := hpool.writing g hg
  obtain ⟨hentry, hother⟩ := commit_entry s.tables hcode
  refine ⟨s.committed g, rfl, hentry, hother, fun j hj => commit_coverage hpool hg hl hj, fun a ha => ?_,
    glyphWriteEnd_plain hg, fun x hx => glyphWriteEnd_text hg hx, fun h hx => glyphWriteEnd_hilite hg hx,
    fun x hx hf => ?_, fun x f hx hf => ?_, fun h hx => glyphWriteEnd_hilite hg hx⟩
  · exact read_writeBitmap_other _ _ _ _ _ fun i hi => by rw [Nat.zero_add]; exact ha i hi
  · rw [glyphWriteEnd_text hg hx]
    have hfont : (s.committed g).tables.font x.slot = none := hf
    unfold State.startText
    rw [hfont]
    rfl
  · intro start r
    obtain ⟨found, hmisses, hstart⟩ := startText_eq (s := s.committed g) (t := x) hf
    exact ⟨_, found, glyphWriteEnd_text hg hx, hmisses, hstart⟩

end Sys2Proof.Machine
end

section
/-! SUPPORT. READ of the tables (R32 to R34, R89, R108, R164): when a READ is answered, and the bytes of the readbacks
(10.5, R171 to R174). -/

namespace Sys2Proof.Machine

open Host (Outcome)

/-! ### Fields read back (R171) -/

theorem byte_toNat {n : Nat} (h : n < 256) : (BitVec.ofNat 8 n).toNat = n := by
  rw [BitVec.toNat_ofNat]; omega

theorem u16_be16 {n : Nat} (h : n < 65536) : u16 (be16 n) 0 = n := by
  show (BitVec.ofNat 8 (n / 256)).toNat * 256 + (BitVec.ofNat 8 n).toNat = n
  simp only [BitVec.toNat_ofNat]; omega

theorem u24_be24 {n : Nat} (h : n < 16777216) : u24 (be24 n) 0 = n := by
  show ((BitVec.ofNat 8 (n / 65536)).toNat * 256 + (BitVec.ofNat 8 (n / 256)).toNat) * 256 + (BitVec.ofNat 8 n).toNat = n
  simp only [BitVec.toNat_ofNat]; omega

theorem u32_be32 {n : Nat} (h : n < 4294967296) : u32 (be32 n) 0 = n := by
  show u16 (be16 (n / 65536)) 0 * 65536 + u16 (be16 n) 0 = n
  rw [u16_be16 (by omega)]
  show _ + ((BitVec.ofNat 8 (n / 256)).toNat * 256 + (BitVec.ofNat 8 n).toNat) = n
  simp only [BitVec.toNat_ofNat]; omega

theorem u16_lt (b : Bytes) (i : Nat) : u16 b i < 65536 := by
  have := u8_lt b i
  have := u8_lt b (i + 1)
  unfold u16; omega

/-- A signed byte's two's complement reads as the number (R171). -/
theorem signed_unsigned {z : Int} (h : -128 ≤ z) (h' : z ≤ 127) :
    signed 256 (BitVec.ofNat 8 (unsigned 256 z)).toNat = z := by
  unfold unsigned
  rw [byte_toNat (by omega), signed]
  split <;> omega

theorem ofNat_unsigned (z : Int) : BitVec.ofNat 8 (unsigned 256 z) = BitVec.ofInt 8 z := by
  refine BitVec.eq_of_toNat_eq ?_
  rw [BitVec.toNat_ofNat, BitVec.toNat_ofInt, unsigned]
  omega

/-! ### Parts of a payload -/

/-- Behind `n` bytes the rest of a payload stands. -/
theorem getElem?_behind {front : Bytes} {n : Nat} (h : front.length = n) (rest : Bytes) (k : Nat) :
    (front ++ rest)[n + k]? = rest[k]? := by
  rw [List.getElem?_append_right (by omega), ← h, Nat.add_sub_cancel_left]

theorem getD_behind {front : Bytes} {n : Nat} (h : front.length = n) (rest : Bytes) (k : Nat) :
    (front ++ rest).getD (n + k) 0 = rest.getD k 0 := by
  rw [List.getD_eq_getElem?_getD, List.getD_eq_getElem?_getD, getElem?_behind h]

theorem u8_behind {front : Bytes} {n : Nat} (h : front.length = n) (rest : Bytes) (k : Nat) :
    u8 (front ++ rest) (n + k) = u8 rest k := congrArg BitVec.toNat (getD_behind h rest k)

/-- Where every item gives `n` bytes, all of them give `n` times as many. -/
theorem length_flatMap_of {α : Type} {f : α → Bytes} {n : Nat} (h : ∀ x, (f x).length = n) (l : List α) :
    (l.flatMap f).length = n * l.length := by
  rw [List.length_flatMap]
  simp [h, Nat.mul_comm]

/-- Where every item gives `n` bytes, those of item `j` stand from byte `n · j` on. -/
theorem getElem?_flatMap_of {α : Type} {f : α → Bytes} {n : Nat} (h : ∀ x, (f x).length = n) {l : List α} {j : Nat}
    {x : α} (hx : l[j]? = some x) {k : Nat} (hk : k < n) : (l.flatMap f)[n * j + k]? = (f x)[k]? := by
  induction l generalizing j with
  | nil => cases hx
  | cons y l ih =>
    rw [List.flatMap_cons]
    cases j with
    | zero =>
      cases hx
      rw [Nat.mul_zero, Nat.zero_add, List.getElem?_append_left (by rw [h]; exact hk)]
    | succ j =>
      rw [show n * (j + 1) + k = n + (n * j + k) by rw [Nat.mul_succ]; omega, getElem?_behind (h y)]
      exact ih hx

theorem u8_of_getElem? {b : Bytes} {i : Nat} {x : Byte} (h : b[i]? = some x) : u8 b i = x.toNat := by
  unfold u8
  rw [List.getD_eq_getElem?_getD, h]; rfl

theorem flatMap_be8 (l : List Nat) : l.flatMap be8 = l.map (BitVec.ofNat 8) := List.map_eq_flatMap.symm

theorem readback_length (area : Byte) (payload : Bytes) :
    (Reply.readback area payload).bytes.length = 4 + payload.length := by
  simp [Reply.bytes, be8, be16]; omega

/-! ### A READ at the intake head (R164) -/

section Reads

variable {s : State} {body : Bytes} {rest : List Record}

theorem withRead_of_dispatches (hd : Dispatches s .read body rest) {area : Area} (ha : u8 body 0 = area.code)
    (hl : body.length = area.bodyLength) (f : Bytes → State) : s.withRead area f = f body := by
  have hcode : area.code ≤ 5 := by cases area <;> decide
  have hpos : 0 < area.bodyLength := by cases area <;> decide
  unfold State.withRead
  rw [withHead_of_dispatches hd, if_neg (by omega), if_neg (by omega), if_neg (not_not.mpr ha), if_neg (not_not.mpr hl)]

/-- The checks that the Event and Reply Unit makes of a READ before any wait. -/
theorem withRead_checks (hd : Dispatches s .read body rest) (area : Area) (f : Bytes → State) :
    (body = [] → s.withRead area f = refusedAt s .read .length rest) ∧
    (body ≠ [] → 5 < u8 body 0 → s.withRead area f = refusedAt s .read .field rest) ∧
    (body ≠ [] → u8 body 0 = area.code → body.length ≠ area.bodyLength →
      s.withRead area f = refusedAt s .read .length rest) := by
  have hcode : area.code ≤ 5 := by cases area <;> decide
  unfold State.withRead
  rw [withHead_of_dispatches hd]
  simp only [refuseHead_eq_refusedAt hd]
  refine ⟨fun h => if_pos (by rw [h]; rfl), fun h hb => ?_, fun h ha hl => ?_⟩
  · rw [if_neg (by simpa using h), if_pos hb]
  · rw [if_neg (by simpa using h), if_neg (by omega), if_neg (not_not.mpr ha), if_pos hl]

/-- The owner's last check: a reply place. -/
theorem ifRoom_eq (hd : Dispatches s .read body rest) (t : State) :
    s.ifRoom t = if 16 ≤ s.ev.replies.length then refusedAt s .read .replyFull rest else t := by
  have hfull : s.repliesFull = decide (16 ≤ s.ev.replies.length) := by
    simp [State.repliesFull, reserved_of_free hd.2.1, Config.maxReplies]
  simp only [State.ifRoom, hfull, decide_eq_true_eq, refuseHead_eq_refusedAt hd]

/-- `s` once the READ has left the queue and its readback has joined the reply queue. -/
def answered (s : State) (rest : List Record) (area : Byte) (payload : Bytes) : State :=
  { taken s rest with ev := { s.ev with replies := s.ev.replies ++ [.readback area payload] } }

theorem answer_eq (hd : Dispatches s .read body rest) (area : Area) (payload : Bytes) :
    s.answer area payload = answered s rest (BitVec.ofNat 8 area.code) payload := by
  unfold State.answer
  rw [pop_eq_taken hd]; rfl

/-- A READ whose readback is made at once. -/
theorem read_answers (hd : Dispatches s .read body rest) {area : Area} (ha : u8 body 0 = area.code)
    (hl : body.length = area.bodyLength) {f : Bytes → State} {payload : Bytes}
    (hf : f body = s.ifRoom (s.answer area payload)) :
    (16 ≤ s.ev.replies.length → (.next (s.withRead area f) : Outcome State Fault Refusal) =
      .next (refusedAt s .read .replyFull rest)) ∧
    (s.ev.replies.length < 16 → (.next (s.withRead area f) : Outcome State Fault Refusal) =
      .next (answered s rest (BitVec.ofNat 8 area.code) payload)) := by
  rw [withRead_of_dispatches hd ha hl, hf, ifRoom_eq hd, answer_eq hd]
  exact ⟨fun h => by rw [if_pos h], fun h => by rw [if_neg (Nat.not_le.mpr h)]⟩

theorem read_refuses (hd : Dispatches s .read body rest) {area : Area} (ha : u8 body 0 = area.code)
    (hl : body.length = area.bodyLength) {f : Bytes → State} {r : Reason} (hf : f body = s.refuseHead .read r) :
    (.next (s.withRead area f) : Outcome State Fault Refusal) = .next (refusedAt s .read r rest) := by
  rw [withRead_of_dispatches hd ha hl, hf, refuseHead_eq_refusedAt hd]

end Reads

/-! ### The readback of a kern list (R33, R173) -/

theorem encodeKernPair_length (p : KernPair) : (encodeKernPair p).length = 7 := rfl

/-- The pairs a KERN readback carries: at most 200 from the start index on (R33). -/
def Tables.kernCarried (t : Tables) (slot start : Nat) : List KernPair :=
  ((((t.font slot).map Font.kern).getD []).drop start).take 200

/-- The seven bytes before the pairs. -/
def Tables.kernHeader (t : Tables) (slot start : Nat) : Bytes :=
  be8 slot ++ be8 (if (t.font slot).isSome then 1 else 0) ++
    be16 (((t.font slot).map Font.kern).getD []).length ++ be16 start ++ be8 (t.kernCarried slot start).length

theorem kernReadback_eq (t : Tables) (slot start : Nat) : t.kernReadback slot start =
    t.kernHeader slot start ++ (t.kernCarried slot start).flatMap encodeKernPair := rfl

/-- The seven bytes of a carried pair (10.5). -/
theorem kernReadback_pair {t : Tables} {slot start j : Nat} {p : KernPair}
    (h : (t.kernCarried slot start)[j]? = some p) {k : Nat} (hk : k < 7) :
    (t.kernReadback slot start)[7 + 7 * j + k]? = (encodeKernPair p)[k]? := by
  rw [kernReadback_eq, Nat.add_assoc, getElem?_behind (n := 7) (front := t.kernHeader slot start) rfl]
  exact getElem?_flatMap_of encodeKernPair_length h hk

theorem kernCarried_length (t : Tables) (slot start : Nat) : (t.kernCarried slot start).length =
    min 200 ((((t.font slot).map Font.kern).getD []).length - start) := by
  rw [Tables.kernCarried, List.length_take, List.length_drop]

theorem kernReadback_length (t : Tables) (slot start : Nat) :
    (t.kernReadback slot start).length = 7 + 7 * (t.kernCarried slot start).length := by
  rw [kernReadback_eq, List.length_append, length_flatMap_of encodeKernPair_length]; rfl

/-- A carried pair's codes and adjustment read back as its own in their ranges (R26). -/
theorem kernReadback_values {t : Tables} {slot start j : Nat} {p : KernPair}
    (h : (t.kernCarried slot start)[j]? = some p) :
    (p.left ≤ 0x10FFFF → u24 (t.kernReadback slot start) (7 + 7 * j) = p.left) ∧
    (p.right ≤ 0x10FFFF → u24 (t.kernReadback slot start) (7 + 7 * j + 3) = p.right) ∧
    (-128 ≤ p.adj → p.adj ≤ 127 → s8 (t.kernReadback slot start) (7 + 7 * j + 6) = p.adj) := by
  have hbyte : ∀ k (x : Byte), k < 7 → (encodeKernPair p)[k]? = some x →
      u8 (t.kernReadback slot start) (7 + 7 * j + k) = x.toNat := fun k x hk hx =>
    u8_of_getElem? ((kernReadback_pair h hk).trans hx)
  refine ⟨fun hl => ?_, fun hr => ?_, fun hlo hhi => ?_⟩
  · have hcode := u24_be24 (n := p.left) (by omega)
    rw [← hcode]
    unfold u24 u16
    rw [show 7 + 7 * j = 7 + 7 * j + 0 from rfl, hbyte 0 _ (by decide) rfl, Nat.add_assoc (7 + 7 * j),
      hbyte 1 _ (by decide) rfl, Nat.add_assoc (7 + 7 * j), hbyte 2 _ (by decide) rfl]
    rfl
  · have hcode := u24_be24 (n := p.right) (by omega)
    rw [← hcode]
    unfold u24 u16
    rw [hbyte 3 _ (by decide) rfl, hbyte 4 _ (by decide) rfl, hbyte 5 _ (by decide) rfl]
    rfl
  · unfold s8
    rw [hbyte 6 _ (by decide) rfl]
    exact signed_unsigned hlo hhi

/-! ### The readback of the styles (R34) -/

theorem encodeStyle_length (st : Style) : (encodeStyle st).length = 5 := rfl

theorem styleReadback_length (t : Tables) : t.styleReadback.length = 80 := by
  rw [Tables.styleReadback, length_flatMap_of encodeStyle_length, Vector.length_toList]

theorem styleReadback_byte {t : Tables} {n : Nat} {st : Style} (h : t.styles[n]? = some st) {k : Nat} (hk : k < 5)
    {x : Nat} (hx : (encodeStyle st)[k]? = some (BitVec.ofNat 8 x)) (hlt : x < 256) :
    u8 t.styleReadback (5 * n + k) = x := by
  have hmem : t.styles.toList[n]? = some st := by rw [← h]; exact Vector.getElem?_toList ..
  unfold Tables.styleReadback
  rw [u8_of_getElem? ((getElem?_flatMap_of encodeStyle_length hmem hk).trans hx), byte_toNat hlt]

/-! ### The readback of a bank (R89, R174) -/

/-- The five bytes before the bounds. -/
def State.waveFront (s : State) (b : BankId) : Bytes :=
  be8 b.code ++ be8 (s.bank b).state.code ++ be8 (if (s.bank b).state = .active then 1 else 0) ++ be8 (s.pins b) ++
    be8 (s.bank b).bounds.length

/-- The eight bytes of the bounds, those a bank does not have as 0. -/
def Bank.boundBytes (v : Bank) : Bytes :=
  ((v.bounds.map (unsigned 256)) ++ List.replicate (8 - v.bounds.length) 0).flatMap be8

/-- The four bytes behind the bounds. -/
def Bank.totals (v : Bank) : Bytes := be8 (unsigned 256 v.ceiling) ++ be8 v.records.length ++ be16 v.frames

/-- The four bytes of a record. -/
def recordBytes (e : Nat × WaveRec) : Bytes := be8 (e.1 / 8) ++ be8 (e.1 % 8) ++ be16 e.2.frames

theorem recordBytes_length (e : Nat × WaveRec) : (recordBytes e).length = 4 := rfl

theorem waveReadback_eq (s : State) (b : BankId) : s.waveReadback b =
    s.waveFront b ++ ((s.bank b).boundBytes ++ ((s.bank b).totals ++ (s.bank b).records.flatMap recordBytes)) := by
  unfold State.waveReadback State.waveFront Bank.boundBytes Bank.totals
  simp only [List.append_assoc]
  rfl

theorem boundBytes_length {v : Bank} (h : v.bounds.length ≤ 8) : v.boundBytes.length = 8 := by
  rw [Bank.boundBytes, length_flatMap_of (n := 1) fun _ => rfl]
  simp; omega

theorem boundBytes_bound {v : Bank} (h : v.inBudget) (j : Nat) :
    s8 v.boundBytes j = v.bounds.getD j 0 := by
  obtain ⟨hcount, -, -, -, -, hrange, -, hceiling⟩ := h
  rw [Bank.boundBytes, flatMap_be8]
  unfold s8 u8
  by_cases hb : j < v.bounds.length
  · obtain ⟨hlo, hhi⟩ := hrange _ (List.getElem_mem hb)
    simp only [List.getD_eq_getElem?_getD, List.getElem?_map, List.getElem?_append, List.length_map, hb, if_true,
      List.getElem?_eq_getElem hb, Option.map_some, Option.getD_some]
    exact signed_unsigned (by omega) (by omega)
  · simp [List.getD_eq_getElem?_getD, List.getElem?_append, hb, signed, List.getElem?_replicate]
    split <;> simp

theorem pins_le (s : State) (b : BankId) : s.pins b ≤ 16 := by
  have := List.length_filter_le (fun i => (s.slot i).any fun sl => sl.bank = b) slotIds
  simpa [State.pins, State.countSlots, slotIds] using this

/-- The bytes before the records, in a bank within its budgets (10.5). -/
theorem waveReadback_head {s : State} {b : BankId} (h : (s.bank b).inBudget) :
    (s.waveReadback b).length = 17 + 4 * (s.bank b).records.length ∧
    u8 (s.waveReadback b) 0 = b.code ∧ u8 (s.waveReadback b) 1 = (s.bank b).state.code ∧
    u8 (s.waveReadback b) 2 = (if (s.bank b).state = .active then 1 else 0) ∧ u8 (s.waveReadback b) 3 = s.pins b ∧
    u8 (s.waveReadback b) 4 = (s.bank b).bounds.length ∧
    (∀ j, j < 8 → s8 (s.waveReadback b) (5 + j) = (s.bank b).bounds.getD j 0) ∧
    s8 (s.waveReadback b) 13 = (s.bank b).ceiling ∧ u8 (s.waveReadback b) 14 = (s.bank b).records.length ∧
    u16 (s.waveReadback b) 15 = (s.bank b).frames := by
  have hbounds := boundBytes_bound h
  have hpins := pins_le s b
  obtain ⟨hcount, hframes, hrecords, -, -, -, hlow, hceiling⟩ := h
  have hlen := boundBytes_length hcount
  have hfront : (s.waveFront b).length = 5 := rfl
  have hbehind : ∀ k, u8 (s.waveReadback b) (13 + k) =
      u8 ((s.bank b).totals ++ (s.bank b).records.flatMap recordBytes) k := fun k => by
    rw [waveReadback_eq, ← List.append_assoc, u8_behind (n := 13)]
    rw [List.length_append, hlen, hfront]
  refine ⟨?_, ?_, ?_, ?_, ?_, ?_, fun j hj => ?_, ?_, ?_, ?_⟩
  · rw [waveReadback_eq]
    simp only [List.length_append, hlen, hfront, length_flatMap_of recordBytes_length]
    show 5 + (8 + (4 + _)) = _
    omega
  · cases b <;> rfl
  · show (BitVec.ofNat 8 (s.bank b).state.code).toNat = _
    cases (s.bank b).state <;> rfl
  · show (BitVec.ofNat 8 (if (s.bank b).state = .active then 1 else 0)).toNat = _
    split <;> rfl
  · exact byte_toNat (by omega)
  · exact byte_toNat (by omega)
  · rw [← hbounds j]
    unfold s8 u8
    rw [waveReadback_eq, getD_behind hfront, List.getD_eq_getElem?_getD, List.getElem?_append_left (by omega),
      ← List.getD_eq_getElem?_getD]
  · unfold s8
    rw [hbehind 0]
    exact signed_unsigned (by omega) (by omega)
  · rw [hbehind 1]
    exact byte_toNat (by omega)
  · unfold u16
    rw [hbehind 2, hbehind 3]
    exact u16_be16 (by omega)

/-- No record has more frames than the bank in all. -/
theorem record_frames_le {v : Bank} {e : Nat × WaveRec} (h : e ∈ v.records) : e.2.frames ≤ v.frames :=
  List.single_le_sum (by simp) _ (List.mem_map_of_mem h)

/-- The four bytes of a record (10.5). -/
theorem waveReadback_record {s : State} {b : BankId} (h : (s.bank b).inBudget) {j band : Nat} {m : Mode} {w : WaveRec}
    (hw : (s.bank b).records[j]? = some (waveKey m band, w)) (hband : band < 8) :
    u8 (s.waveReadback b) (17 + 4 * j) = m.code ∧ u8 (s.waveReadback b) (18 + 4 * j) = band ∧
      u16 (s.waveReadback b) (19 + 4 * j) = w.frames := by
  obtain ⟨hcount, hframes, -⟩ := h
  have hmode : m.code ≤ 4 := by cases m <;> decide
  have hkey : waveKey m band / 8 = m.code ∧ waveKey m band % 8 = band := by unfold waveKey; omega
  have hle := record_frames_le (List.mem_of_getElem? hw)
  have hbyte : ∀ k x, k < 4 → (recordBytes (waveKey m band, w))[k]? = some x →
      u8 (s.waveReadback b) (17 + 4 * j + k) = x.toNat := fun k x hk hx => by
    rw [waveReadback_eq, ← List.append_assoc, ← List.append_assoc, Nat.add_assoc, u8_behind (n := 17)]
    · exact u8_of_getElem? ((getElem?_flatMap_of recordBytes_length hw hk).trans hx)
    · rw [List.length_append, List.length_append, boundBytes_length hcount]; rfl
  refine ⟨?_, ?_, ?_⟩
  · rw [show 17 + 4 * j = 17 + 4 * j + 0 from rfl, hbyte 0 _ (by decide) rfl]
    dsimp only
    rw [hkey.1, byte_toNat (by omega)]
  · rw [show 18 + 4 * j = 17 + 4 * j + 1 by omega, hbyte 1 _ (by decide) rfl]
    dsimp only
    rw [hkey.2, byte_toNat (by omega)]
  · unfold u16
    rw [show 19 + 4 * j = 17 + 4 * j + 2 by omega, hbyte 2 _ (by decide) rfl, Nat.add_assoc,
      hbyte 3 _ (by decide) rfl]
    exact u16_be16 (n := w.frames) (by dsimp only at hle; omega)

/-! ### The readback of the residue counts (R108) -/

theorem residueReadback_fields {s : State} (h : PanelLegal s.store.panel) {start : Nat} (hstart : start < 65536)
    (n : Nat) :
    let count := min n (s.store.panel.tiles - start)
    (s.residueReadback start n).length = 6 + count ∧ u8 (s.residueReadback start n) 0 = s.store.panel.tileCols ∧
    u8 (s.residueReadback start n) 1 = s.store.panel.tileRows ∧ u16 (s.residueReadback start n) 2 = start ∧
    u16 (s.residueReadback start n) 4 = count ∧
    ∀ j, j < count → (s.residueReadback start n)[6 + j]? = some (BitVec.ofNat 8 (s.residueOf (start + j))) := by
  intro count
  obtain ⟨-, hwidth, -⟩ := h.width
  obtain ⟨-, hheight⟩ := h.height
  have hcols : s.store.panel.tileCols ≤ 32 := by unfold Panel.tileCols; omega
  have hrows : s.store.panel.tileRows ≤ 26 := by unfold Panel.tileRows; omega
  have htiles : s.store.panel.tiles ≤ 32 * 26 := Nat.mul_le_mul hcols hrows
  have hcount : count ≤ 832 := by simp only [count]; omega
  refine ⟨?_, byte_toNat (by omega), byte_toNat (by omega), u16_be16 hstart, u16_be16 (n := count) (by omega),
    fun j hj => ?_⟩
  · simp [State.residueReadback, be8, be16, count]
    omega
  · refine (getElem?_behind (n := 6) rfl _ _).trans ?_
    have hitem : (List.range count)[j]? = some j := List.getElem?_range hj
    have := getElem?_flatMap_of (f := fun j => be8 (s.residueOf (start + j))) (n := 1) (fun _ => rfl) hitem
      (k := 0) (by decide)
    rw [Nat.one_mul, Nat.add_zero] at this
    exact this

/-! ### The READs of the tables -/

/-- The rows of READ that an area has. -/
theorem read_row_checks {s : State} {body : Bytes} {rest : List Record} (hd : Dispatches s .read body rest) (area : Area)
    {row : Instr} {f : Bytes → State} (he : exec row s = .next (s.withRead area f)) :
    (body = [] → exec row s = .next (refusedAt s .read .length rest)) ∧
    (body ≠ [] → 5 < u8 body 0 → exec row s = .next (refusedAt s .read .field rest)) ∧
    (body ≠ [] → u8 body 0 = area.code → body.length ≠ area.bodyLength →
      exec row s = .next (refusedAt s .read .length rest)) := by
  obtain ⟨hempty, harea, hlength⟩ := withRead_checks hd area f
  exact ⟨fun h => by rw [he, hempty h], fun h hb => by rw [he, harea h hb], fun h ha hl => by rw [he, hlength h ha hl]⟩

/-- READ of KERN: the owner's checks, and the readback (R33). -/
theorem readKern_eq {s : State} {body : Bytes} {rest : List Record} (hd : Dispatches s .read body rest)
    (ha : u8 body 0 = 1) (hl : body.length = 4) (hw : s.tableBusy = false) :
    (7 < u8 body 1 → exec .readKern s = .next (refusedAt s .read .field rest)) ∧
    (u8 body 1 ≤ 7 → 16 ≤ s.ev.replies.length → exec .readKern s = .next (refusedAt s .read .replyFull rest)) ∧
    (u8 body 1 ≤ 7 → s.ev.replies.length < 16 → exec .readKern s =
      .next (answered s rest 1 (s.tables.kernReadback (u8 body 1) (u16 body 2)))) :=
  have hfree : ¬ s.tableBusy = true := by rw [hw]; decide
  ⟨fun h => read_refuses (area := .kern) hd ha hl (by rw [if_neg hfree, if_pos h]),
    fun h => (read_answers (area := .kern) hd ha hl (by rw [if_neg hfree, if_neg (Nat.not_lt.mpr h)])).1,
    fun h => (read_answers (area := .kern) hd ha hl (by rw [if_neg hfree, if_neg (Nat.not_lt.mpr h)])).2⟩

/-- READ of STYLE (R34). -/
theorem readStyle_eq {s : State} {body : Bytes} {rest : List Record} (hd : Dispatches s .read body rest)
    (ha : u8 body 0 = 2) (hl : body.length = 1) (hw : s.tableBusy = false) :
    (16 ≤ s.ev.replies.length → exec .readStyle s = .next (refusedAt s .read .replyFull rest)) ∧
    (s.ev.replies.length < 16 → exec .readStyle s = .next (answered s rest 2 s.tables.styleReadback)) :=
  read_answers (area := .style) hd ha hl (by rw [if_neg (by rw [hw]; decide)])

/-- READ of WAVE (R89). -/
theorem readWave_eq {s : State} {body : Bytes} {rest : List Record} (hd : Dispatches s .read body rest)
    (ha : u8 body 0 = 3) (hl : body.length = 2) :
    (1 < u8 body 1 → exec .readWave s = .next (refusedAt s .read .field rest)) ∧
    (u8 body 1 ≤ 1 → 16 ≤ s.ev.replies.length → exec .readWave s = .next (refusedAt s .read .replyFull rest)) ∧
    (u8 body 1 ≤ 1 → s.ev.replies.length < 16 → exec .readWave s =
      .next (answered s rest 3 (s.waveReadback (if u8 body 1 = 0 then .bankA else .bankB)))) :=
  ⟨fun h => read_refuses (area := .wave) hd ha hl (by rw [if_pos h]),
    fun h => (read_answers (area := .wave) hd ha hl (by rw [if_neg (Nat.not_lt.mpr h)])).1,
    fun h => (read_answers (area := .wave) hd ha hl (by rw [if_neg (Nat.not_lt.mpr h)])).2⟩

/-- READ of RESIDUE (R108). -/
theorem readResidue_eq {s : State} {body : Bytes} {rest : List Record} (hd : Dispatches s .read body rest)
    (ha : u8 body 0 = 4) (hl : body.length = 5) :
    (16 ≤ s.ev.replies.length → exec .readResidue s = .next (refusedAt s .read .replyFull rest)) ∧
    (s.ev.replies.length < 16 → exec .readResidue s =
      .next (answered s rest 4 (s.residueReadback (u16 body 1) (u16 body 3)))) :=
  read_answers (area := .residue) hd ha hl rfl

/-- Settles O44: `read_row_checks` for the checks of R164, and for each area its answer and its readback's bytes. -/
theorem tableReadsQueueReadback : Obligations.TableReadsQueueReadback := by
  intro s body rest hd queued full list carried
  have hlist : list = ((s.tables.font (u8 body 1)).map Font.kern).getD [] := by
    simp only [list]
    cases s.tables.font (u8 body 1) <;> rfl
  have hcarried : carried = s.tables.kernCarried (u8 body 1) (u16 body 2) := by
    simp only [carried, hlist, Tables.kernCarried]
  refine ⟨fun row hrow => ?rows, fun ha hl hw => ?kern, fun ha hl hw => ?style, fun ha hl => ?wave,
    fun ha hl => ?residue⟩
  case rows =>
    simp only [List.mem_cons, List.not_mem_nil, or_false] at hrow
    rcases hrow with rfl | rfl | rfl | rfl | rfl | rfl
    · exact read_row_checks hd .glyph rfl
    · exact read_row_checks hd .kern rfl
    · exact read_row_checks hd .style rfl
    · exact read_row_checks hd .wave rfl
    · exact read_row_checks hd .residue rfl
    · exact read_row_checks hd .pixels rfl
  case kern =>
    obtain ⟨hfield, hfull, hanswer⟩ := readKern_eq hd ha hl hw
    refine ⟨hfield, hfull, fun hslot hroom => ⟨_, hanswer hslot hroom, ?_, ?_, byte_toNat (by omega), ?_,
      fun hlen => ?_, u16_be16 (u16_lt body 2), ?_, fun j p hj hp => ?_⟩⟩
    · rw [hlist, hcarried]; rfl
    · rw [readback_length, kernReadback_length, kernCarried_length, ← hlist]; omega
    · show (BitVec.ofNat 8 (if (s.tables.font (u8 body 1)).isSome then 1 else 0)).toNat = _
      cases s.tables.font (u8 body 1) <;> rfl
    · rw [hlist] at hlen ⊢
      exact u16_be16 (by omega)
    · have hsmall : (s.tables.kernCarried (u8 body 1) (u16 body 2)).length < 256 := by rw [kernCarried_length]; omega
      rw [hlist, ← kernCarried_length]
      exact byte_toNat hsmall
    · have hpair : (s.tables.kernCarried (u8 body 1) (u16 body 2))[j]? = some p := by
        rw [← hcarried, List.getElem?_take_of_lt hj, List.getElem?_drop, hp]
      have hbyte := fun k hk => kernReadback_pair hpair (k := k) hk
      exact ⟨hbyte 0 (by decide), hbyte 1 (by decide), hbyte 2 (by decide), hbyte 3 (by decide), hbyte 4 (by decide),
        hbyte 5 (by decide), (hbyte 6 (by decide)).trans (congrArg some (ofNat_unsigned p.adj)),
        kernReadback_values hpair⟩
  case style =>
    obtain ⟨hfull, hanswer⟩ := readStyle_eq hd ha hl hw
    refine ⟨hfull, fun hroom => ⟨_, hanswer hroom, rfl, ?_, fun n st hst => ⟨?_, ?_, ?_, ?_, fun hthick => ?_⟩⟩⟩
    · rw [readback_length, styleReadback_length]
    · exact styleReadback_byte (k := 0) hst (by decide) rfl (by omega)
    · refine (styleReadback_byte (k := 1) (x := st.edgeKind.code) hst (by decide) rfl ?_).trans ?_ <;>
        cases st.edgeKind <;> decide
    · refine (styleReadback_byte (k := 2) (x := st.pattern.code) hst (by decide) rfl ?_).trans ?_ <;>
        cases st.pattern <;> decide
    · exact styleReadback_byte (k := 3) hst (by decide) rfl (by omega)
    · exact styleReadback_byte (k := 4) hst (by decide) rfl (by omega)
  case wave =>
    obtain ⟨hfield, hfull, hanswer⟩ := readWave_eq hd ha hl
    refine ⟨hfield, hfull, fun b hb hroom hbudget => ?_⟩
    intro v
    have hbank : u8 body 1 ≤ 1 ∧ (if u8 body 1 = 0 then BankId.bankA else .bankB) = b ∧ b.code = u8 body 1 := by
      cases b <;> dsimp only at hb <;> rw [← hb] <;> decide
    obtain ⟨hle, hwhich, hcode⟩ := hbank
    have hexec := hanswer hle hroom
    rw [hwhich] at hexec
    obtain ⟨hlen, h0, h1, h2, h3, h4, hbounds, h13, h14, h15⟩ := waveReadback_head hbudget
    refine ⟨_, hexec, ?_, h0.trans hcode, h1.trans ?_, h2, h3, h4, hbounds, h13, h14, h15,
      fun j m band w hw hband => waveReadback_record hbudget hw hband⟩
    · rw [readback_length, hlen]
      show 4 + _ = 21 + 4 * (s.bank b).records.length
      omega
    · show v.state.code = _
      cases v.state <;> rfl
  case residue =>
    obtain ⟨hfull, hanswer⟩ := readResidue_eq hd ha hl
    refine ⟨hfull, fun hroom hpanel => ?_⟩
    intro cols rows count
    obtain ⟨hlen, h0, h1, h2, h4, hcounts⟩ := residueReadback_fields hpanel (u16_lt body 1) (u16 body 3)
    refine ⟨_, hanswer hroom, ?_, h0, h1, h2, h4, hcounts⟩
    rw [readback_length, hlen, ← Nat.add_assoc]
    rfl

end Sys2Proof.Machine
end

section
/-! SUPPORT. READ of GLYPH (R32, R172, R174): the bytes of its readback, and the Dispatcher that it holds. -/

namespace Sys2Proof.Machine

open Host (Outcome)

/-! ### The readback of a glyph (10.5) -/

/-- The ten bytes that every GLYPH readback has. -/
def Tables.glyphHeader (t : Tables) (slot code : Nat) : Bytes :=
  be8 slot ++ be24 code ++ be8 (if (t.font slot).isSome then 1 else 0) ++
    be8 (if (t.entry slot code).isSome then 1 else 0) ++ be16 t.directory.length ++ be16 t.freeBlocks

/-- The eight bytes of an entry's fields. -/
def Entry.fieldBytes (e : Entry) : Bytes :=
  be8 e.width ++ be8 e.height ++ be8 (unsigned 256 e.bearingX) ++ be8 (unsigned 256 e.bearingY) ++ be32 e.advance

section Readback

variable {t : Tables} {slot code : Nat}

theorem glyphReadback_absent (h : t.entry slot code = none) : t.glyphReadback slot code = t.glyphHeader slot code := by
  unfold Tables.glyphReadback Tables.glyphHeader
  rw [h]
  exact List.append_nil _

theorem glyphReadback_present {e : Entry} (h : t.entry slot code = some e) : t.glyphReadback slot code =
    t.glyphHeader slot code ++ (e.fieldBytes ++ clearPadding (e.width * e.height) (t.bitmap e)) := by
  unfold Tables.glyphReadback Tables.glyphHeader
  rw [h]
  rfl

theorem glyphReadback_header (h : PoolLegal t) (hs : slot ≤ 7) (hc : code ≤ 0x10FFFF) :
    u8 (t.glyphReadback slot code) 0 = slot ∧ u24 (t.glyphReadback slot code) 1 = code ∧
    u8 (t.glyphReadback slot code) 4 = (if (t.font slot).isSome then 1 else 0) ∧
    u8 (t.glyphReadback slot code) 5 = (if (t.entry slot code).isSome then 1 else 0) ∧
    u16 (t.glyphReadback slot code) 6 = t.directory.length ∧ u16 (t.glyphReadback slot code) 8 = t.freeBlocks := by
  have hroom := h.room
  have hfree := h.free_add_held
  refine ⟨byte_toNat (by omega), u24_be24 (n := code) (by omega), byte_toNat ?_, byte_toNat ?_,
    u16_be16 (n := t.directory.length) (by omega), u16_be16 (n := t.freeBlocks) (by omega)⟩ <;>
    split <;> decide

theorem bitmap_length (t : Tables) (e : Entry) : (t.bitmap e).length = bitmapBytes (e.width * e.height) := by
  simp [Tables.bitmap]

/-- The coverage values of a glyph are those of its bitmap as it is read. -/
theorem bitmap_coverage (t : Tables) (e : Entry) {j : Nat} (hj : j < e.width * e.height) :
    coverageOf ((t.bitmap e).getD (j / 2) 0) j = t.coverage e j := by
  have hlt : j / 2 < bitmapBytes (e.width * e.height) := by unfold bitmapBytes; omega
  simp [Tables.bitmap, Tables.coverage, List.getD_eq_getElem?_getD, hlt]

theorem glyphReadback_entry {e : Entry} (h : t.entry slot code = some e) (hr : e.inRange) :
    (t.glyphReadback slot code).length = 18 + bitmapBytes (e.width * e.height) ∧
    u8 (t.glyphReadback slot code) 10 = e.width ∧ u8 (t.glyphReadback slot code) 11 = e.height ∧
    s8 (t.glyphReadback slot code) 12 = e.bearingX ∧ s8 (t.glyphReadback slot code) 13 = e.bearingY ∧
    u32 (t.glyphReadback slot code) 14 = e.advance := by
  obtain ⟨hwidth, hheight, hleft, hright, hbottom, htop, hadvance⟩ := hr
  rw [glyphReadback_present h]
  refine ⟨?_, byte_toNat (by omega), byte_toNat (by omega), signed_unsigned (by omega) (by omega),
    signed_unsigned (by omega) (by omega), u32_be32 (n := e.advance) (by omega)⟩
  rw [List.length_append, List.length_append, clearPadding_length, bitmap_length]
  show 10 + (8 + _) = _
  omega

/-- The bitmap of the readback: the glyph's coverage values, and a padding half-byte of 0 (R172). -/
theorem glyphReadback_bitmap {e : Entry} (h : t.entry slot code = some e) :
    (∀ j, j < e.width * e.height →
      coverageOf ((t.glyphReadback slot code).getD (18 + j / 2) 0) j = t.coverage e j) ∧
    (e.width * e.height % 2 = 1 →
      u8 (t.glyphReadback slot code) (17 + bitmapBytes (e.width * e.height)) % 16 = 0) := by
  have hlen := bitmap_length t e
  have hbehind : ∀ k, (t.glyphReadback slot code).getD (18 + k) 0 =
      (clearPadding (e.width * e.height) (t.bitmap e)).getD k 0 := fun k => by
    rw [glyphReadback_present h, ← List.append_assoc]
    exact getD_behind rfl _ k
  refine ⟨fun j hj => ?_, fun hodd => ?_⟩
  · rw [hbehind, coverageOf_clearPadding hlen hj, bitmap_coverage t e hj]
  · have hpos : 0 < bitmapBytes (e.width * e.height) := by unfold bitmapBytes; omega
    have hne : t.bitmap e ≠ [] := List.ne_nil_of_length_pos (by rw [hlen]; exact hpos)
    rw [show 17 + bitmapBytes (e.width * e.height) = 18 + (bitmapBytes (e.width * e.height) - 1) by omega, u8, hbehind,
      ← hlen]
    exact clearPadding_padding _ hne hodd

end Readback

/-! ### The hold (R32) -/

section Held

variable {s : State} {body : Bytes} {rest : List Record}

/-- A READ of GLYPH at the intake head, of its length and with no table operation to wait for (R16). -/
structure ReadsGlyph (s : State) (body : Bytes) (rest : List Record) : Prop where
  dispatches : Dispatches s .read body rest
  area : u8 body 0 = 0
  length : body.length = 5
  idle : s.tableBusy = false

theorem readGlyph_key (h : ReadsGlyph s body rest) (hb : 7 < u8 body 1 ∨ 0x10FFFF < u24 body 2) :
    exec .readGlyph s = .next (refusedAt s .read .field rest) :=
  read_refuses (area := .glyph) h.dispatches h.area h.length
    (by dsimp only; rw [if_neg (by rw [h.idle]; decide)]; exact if_pos hb)

/-- With a legal key a READ of GLYPH is refused for want of a reply place, answered at once where there is no bitmap,
and held otherwise. -/
theorem readGlyph_eq (h : ReadsGlyph s body rest) (hs : u8 body 1 ≤ 7) (hc : u24 body 2 ≤ 0x10FFFF) :
    exec .readGlyph s = .next (if 16 ≤ s.ev.replies.length then refusedAt s .read .replyFull rest
      else if ((s.tables.entry (u8 body 1) (u24 body 2)).map fun e => e.width * e.height).getD 0 = 0 then
        answered s rest 0 (s.tables.glyphReadback (u8 body 1) (u24 body 2))
      else { s with intake := ⟨rest, .readGlyph (s.tables.glyphReadback (u8 body 1) (u24 body 2))⟩ }) := by
  have hkey : ¬ (7 < u8 body 1 ∨ Config.maxCode < u24 body 2) := by simp only [Config.maxCode]; omega
  show Outcome.next _ = _
  rw [withRead_of_dispatches (area := .glyph) h.dispatches h.area h.length]
  dsimp only
  rw [if_neg (by rw [h.idle]; decide), if_neg hkey, ifRoom_eq h.dispatches, answer_eq h.dispatches,
    pop_eq_taken h.dispatches]
  rfl

theorem readGlyphEnd_eq {payload : Bytes} (h : s.intake.hold = .readGlyph payload) : exec .readGlyphEnd s = .next { s with
    intake := { s.intake with hold := .free }
    ev := { s.ev with replies := s.ev.replies ++ [.readback 0 payload] } } := by
  show Outcome.next _ = _
  rw [h]
  rfl

end Held

/-- Settles O45: `readGlyph_eq` for the READ, `readGlyphEnd_eq` for its end, and the bytes of the readback. -/
theorem glyphReadHoldsDispatcher : Obligations.GlyphReadHoldsDispatcher := by
  refine ⟨fun s payload => readGlyphEnd_eq, fun s body rest hd ha hl hw => ?_⟩
  have hread : ReadsGlyph s body rest := ⟨hd, ha, hl, hw⟩
  refine ⟨readGlyph_key hread, fun hs hc hfull => by rw [readGlyph_eq hread hs hc, if_pos hfull],
    fun hs hc hroom hpool => ⟨s.tables.glyphReadback (u8 body 1) (u24 body 2), ?_⟩⟩
  have hexec := readGlyph_eq hread hs hc
  rw [if_neg (Nat.not_le.mpr hroom)] at hexec
  obtain ⟨h0, h1, h4, h5, h6, h8⟩ := glyphReadback_header hpool hs hc
  intro queued length
  refine ⟨h0, h1, h4, h6, h8, fun he => ?_, fun e he => ?_⟩
  · rw [he] at h5 hexec
    refine ⟨h5, ?_, hexec⟩
    simp only [length]
    rw [readback_length, glyphReadback_absent he]
    rfl
  · rw [he] at h5 hexec
    rw [Option.map_some, Option.getD_some] at hexec
    obtain ⟨hlen, h10, h11, h12, h13, h14⟩ := glyphReadback_entry he (hpool.ranges _ (Store.mem_of_get? he))
    obtain ⟨hcoverage, hpadding⟩ := glyphReadback_bitmap he
    refine ⟨h5, ?_, h10, h11, h12, h13, h14, hcoverage, hpadding, fun hzero => ?_, fun hpos => ?_⟩
    · simp only [length]
      rw [readback_length, hlen, ← Nat.add_assoc]
      rfl
    · rw [hexec, if_pos hzero]; rfl
    · rw [if_neg (Nat.pos_iff_ne_zero.mp hpos)] at hexec
      exact ⟨_, hexec, rfl, rfl, by simp [State.tableBusy], readGlyphEnd_eq rfl⟩

end Sys2Proof.Machine
end

section
/-! SUPPORT. The guards that hand a command on, for any property of the state they answer: each leaves the state as it
is, refuses the head record, or acts. -/

namespace Sys2Proof.Machine

/-- `P` holds of `s` where nothing happens, and where the head record is refused. -/
structure Unmoved (s : State) (P : State → Prop) : Prop where
  stay : P s
  refused : ∀ k r, P (s.refuseHead k r)

theorem ite_holds {P : State → Prop} {c : Prop} [Decidable c] {s t : State} (hs : P s) (ht : P t) :
    P (if c then s else t) := by
  split
  · exact hs
  · exact ht

section Guards

variable {s : State} {P : State → Prop}

theorem withHead_holds (h : Unmoved s P) {k : RecordKind} {f : Bytes → State} (act : ∀ body, P (f body)) :
    P (s.withHead k f) := by
  rcases withHead_cases s k f with ⟨-, e⟩ | ⟨body, -, -, e⟩
  · rw [e]; exact h.stay
  · rw [e]; exact act body

theorem withDraw_holds (h : Unmoved s P) {k : RecordKind} {f : Bytes → State} (act : ∀ body, P (f body)) :
    P (s.withDraw k f) :=
  withHead_holds h fun body => ite_holds h.stay (act body)

theorem withTable_holds (h : Unmoved s P) {k : RecordKind} {f : Bytes → State} (act : ∀ body, P (f body)) :
    P (s.withTable k f) :=
  withHead_holds h fun body => ite_holds h.stay (act body)

theorem withRead_holds (h : Unmoved s P) {area : Area} {f : Bytes → State} (act : ∀ body, P (f body)) :
    P (s.withRead area f) :=
  withHead_holds h fun body => ite_holds (h.refused _ _)
    (ite_holds (h.refused _ _) (ite_holds h.stay (ite_holds (h.refused _ _) (act body))))

theorem ifRoom_holds (h : Unmoved s P) {t : State} (act : P t) : P (s.ifRoom t) := ite_holds (h.refused _ _) act

theorem withRailctl_holds (h : Unmoved s P) {action : Nat} {t : State} (act : P t) : P (s.withRailctl action t) :=
  withHead_holds h fun _ => ite_holds (h.refused _ _) (ite_holds (h.refused _ _) (ite_holds h.stay act))

theorem withTempset_holds (h : Unmoved s P) {source : Source} {f : Int → State} (act : ∀ z, P (f z)) :
    P (s.withTempset source f) :=
  withHead_holds h fun _ => ite_holds (h.refused _ _) (ite_holds (h.refused _ _) (ite_holds h.stay (act _)))

theorem withSleep_holds (h : Unmoved s P) {option : Nat} {t : State} (act : P t) : P (s.withSleep option t) :=
  withHead_holds h fun _ => ite_holds h.stay (ite_holds (h.refused _ _) (ite_holds (h.refused _ _)
    (ite_holds h.stay (ite_holds (h.refused _ _) act))))

end Guards

end Sys2Proof.Machine
end

section
/-! SUPPORT. The two-wire line, the temperature, the band and the pen (R37, R39, R91 to R98): what each operation of the
Temperature Unit and of setting text leaves legal. -/

namespace Sys2Proof.Machine

/-! ### The two-wire line (R92 to R94) -/

/-- The last read on the line has ended, or none was ever begun. -/
def WireEnded (wire : List WireEvent) : Prop :=
  wire = [] ∨ ∃ lead e, wire = lead ++ [e] ∧ (e = .stop ∨ e = .release)

theorem wireEnded_append (wire lead : List WireEvent) {e : WireEvent} (h : e = .stop ∨ e = .release) :
    WireEnded (wire ++ (lead ++ [e])) :=
  .inr ⟨wire ++ lead, e, (List.append_assoc ..).symm, h⟩

theorem wireEnded_cutEvents (s : State) (wire : List WireEvent) : WireEnded (wire ++ s.cutEvents) :=
  wireEnded_append wire _ (.inr rfl)

/-- A line that is cut off shows an ended read, whether one was in flight or not. -/
theorem CutOff.wireEnded {s : State} {events wire : List WireEvent} (h : CutOff s events)
    (hw : s.temp.readInFlight = none → WireEnded wire) : WireEnded (wire ++ events) := by
  obtain ⟨hidle, hcut⟩ := h
  cases hr : s.temp.readInFlight with
  | none => rw [hidle hr, List.append_nil]; exact hw hr
  | some a =>
    obtain ⟨n, rfl⟩ := hcut (by rw [hr]; rfl)
    exact wireEnded_append wire _ (.inr rfl)

/-! ### The Temperature Unit (R91 to R98) -/

theorem clampTemp_bounds (z : Int) : -640 ≤ clampTemp z ∧ clampTemp z ≤ 1360 := by
  rw [clampTemp, clampInt_eq (by decide)]; omega

/-- A header of at most 8 bounds gives a band below 8 (R78, R96). -/
theorem bandOf_lt {bounds : List Int} (h : bounds.length ≤ 8) (ceiling d : Int) :
    (bandOf bounds ceiling d).1 < 8 := by
  have hle := List.length_filter_le (fun b => decide (b ≤ d)) bounds
  unfold bandOf
  split
  · decide
  · split
    · dsimp only; omega
    · dsimp only; omega

theorem TemperatureLegal.of_eq {s t : State} (h : TemperatureLegal s) (e : t.temp = s.temp) : TemperatureLegal t :=
  ⟨e ▸ h.current, e ▸ h.failures, e ▸ h.band, e ▸ h.reading, e ▸ h.ended⟩

/-- A Temperature Unit with no read in flight. -/
theorem TemperatureLegal.idle {s : State} (current : -640 ≤ s.temp.current ∧ s.temp.current ≤ 1360)
    (failures : s.temp.failures ≤ 255) (band : ∀ b, s.temp.band = some b → b < 8)
    (noRead : s.temp.readInFlight = none) (ended : WireEnded s.temp.wire) : TemperatureLegal s :=
  ⟨current, failures, band, by simp [noRead], fun _ => ended⟩

section Thermal

variable {s : State}

theorem TemperatureLegal.startRead (h : TemperatureLegal s) (ha : s.store.panel.sensorAddress < 128)
    (lead : List WireEvent) : TemperatureLegal (s.startRead lead) :=
  ⟨h.current, h.failures, h.band, fun a e => by cases e; exact ⟨ha, lead, rfl⟩, fun e => by cases e⟩

theorem TemperatureLegal.startReadIfSensor (h : TemperatureLegal s) (ha : s.store.panel.sensorAddress < 128)
    (lead : List WireEvent) : TemperatureLegal (s.startReadIfSensor lead) :=
  ite_holds (P := TemperatureLegal) (h.startRead ha lead) h

theorem TemperatureLegal.failRead (h : TemperatureLegal s) {events : List WireEvent}
    (he : WireEnded (s.temp.wire ++ events)) : TemperatureLegal (s.failRead events) := by
  rw [failRead_frame]
  exact .idle h.current (Nat.min_le_left _ _) h.band rfl he

theorem TemperatureLegal.recomputeBand (h : TemperatureLegal s) (hb : ∀ b, (s.bank b).bounds.length ≤ 8) :
    TemperatureLegal s.recomputeBand := by
  unfold State.recomputeBand
  split
  · exact h
  · rename_i b _
    refine TemperatureLegal.of_eq ?_ (State.setFlagIf_temp ..)
    exact ⟨h.current, h.failures, fun _ e => by cases e; exact bandOf_lt (hb b) _ _, h.reading, h.ended⟩

/-- An abandoned read leaves the line ended (R94). -/
theorem TemperatureLegal.abandoned (h : TemperatureLegal s) : WireEnded (s.temp.wire ++ s.abandonEvents) :=
  (abandonEvents_cutOff s).wireEnded h.ended

theorem TemperatureLegal.fallAsleep (h : TemperatureLegal s) (p : Power) : TemperatureLegal (s.fallAsleep p) := by
  rw [fallAsleep_eq]
  exact .idle h.current h.failures h.band rfl h.abandoned

theorem TemperatureLegal.tempset (h : TemperatureLegal s) (source : Source) : TemperatureLegal (s.tempset source) := by
  unfold State.tempset
  rw [abandonRead_eq]
  exact .idle h.current (Nat.zero_le _) h.band rfl h.abandoned

theorem TemperatureLegal.withCurrent (h : TemperatureLegal s) (z : Int) :
    TemperatureLegal { s with temp := { s.temp with current := clampTemp z } } :=
  ⟨clampTemp_bounds z, h.failures, h.band, h.reading, h.ended⟩

theorem TemperatureLegal.softReset (h : TemperatureLegal s) (ha : s.store.panel.sensorAddress < 128) (keep : Bool) :
    TemperatureLegal (s.softReset keep) := by
  obtain ⟨cut, n, hcut, e⟩ := softReset_blocks s keep
  have hband : ∀ b, (if keep then s.temp.band else none) = some b → b < 8 := by
    cases keep
    · intro b hb; cases hb
    · exact h.band
  rw [e]
  by_cases hs : s.temp.source = .sensor
  · simp only [if_pos hs]
    exact ⟨h.current, Nat.zero_le _, hband, fun a ea => by cases ea; exact ⟨ha, cut, rfl⟩, fun en => by cases en⟩
  · simp only [if_neg hs]
    exact .idle h.current (Nat.zero_le _) hband rfl (hcut.wireEnded h.ended)

end Thermal

/-! ### The pen (R37, R39) -/

theorem penAdd_range (pen z : Int) : penRange (penAdd pen z) := by
  unfold penRange penAdd
  rw [clampInt_eq (by decide)]; omega

theorem penRange_zero : penRange 0 := by unfold penRange; omega

/-- Whatever pen a code begins with, it ends in range: its advance saturates (R39, R46). -/
theorem Run.code_penRange (tb : Tables) (clip : Rect) (f : Font) (t : TextRec) (r : Run) (code : Nat) :
    penRange (Run.code tb clip f t r code).pen := by
  unfold Run.code
  split
  · exact penAdd_range ..
  · exact penAdd_range ..

theorem Run.codes_penRange (tb : Tables) (clip : Rect) (f : Font) (t : TextRec) (codes : List Nat) {r : Run}
    (h : penRange r.pen) : penRange (codes.foldl (Run.code tb clip f t) r).pen := by
  induction codes generalizing r with
  | nil => exact h
  | cons c codes ih => exact ih (Run.code_penRange ..)

/-- A TEXT that does not continue the last one begins with a pen in range (R37). -/
def TextRec.startsInRange (t : TextRec) : Prop := t.continued = false → penRange t.penX

theorem textRun_penRange {t : TextRec} (ht : t.startsInRange) {pen : Int} (h : penRange pen) (tb : Tables) (clip : Rect)
    (pixels : List (Nat × PixelRec)) (f : Font) : penRange (textRun tb clip pixels f t pen).pen := by
  refine Run.codes_penRange tb clip f t t.codes ?_
  cases hc : t.continued with
  | true => simpa using h
  | false => simpa using ht hc

/-- A TEXT that passes its checks begins with a pen in range (checks of R35). -/
theorem parseText_startsInRange {b : Bytes} {t : TextRec} (h : parseText b = .ok t) : t.startsInRange := by
  by_cases hw : TextWhole b
  · by_cases hf : TextFields b
    · rw [parseText_ok hw hf] at h
      cases h
      intro hc
      obtain ⟨-, hcont, -, -, -, hpen, -⟩ := hf
      have hzero : u8 b 1 = 0 := by
        have : ¬ u8 b 1 = 1 := of_decide_eq_false hc
        omega
      have := hpen hzero
      show penRange (s32 b 2)
      unfold penRange
      omega
    · rw [parseText_field hw hf] at h; cases h
  · rw [parseText_length hw] at h; cases h

section Pen

variable {s t : State}

theorem PenLegal.of_eq (h : PenLegal s) (hp : t.comp.pen = s.comp.pen) (hd : t.comp.draw = s.comp.draw) : PenLegal t :=
  ⟨hp ▸ h.register, hd ▸ h.ending, hd ▸ h.starting⟩

/-- With no draw record in progress there is only the pen register. -/
theorem penLegal_of_none (hp : penRange s.comp.pen) (hd : s.comp.draw = none) : PenLegal s :=
  ⟨hp, by simp [hd], by simp [hd]⟩

theorem penLegal_of_text {ending : Int} {made : Nat} {misses : List Nat} {todo : List (Nat × Tone)}
    (hd : s.comp.draw = some (.writing (.text ending made misses) todo)) (hp : penRange s.comp.pen)
    (he : penRange ending) : PenLegal s := by
  refine ⟨hp, fun pen made' misses' todo' e => ?_, fun x e => ?_⟩
  · rw [hd] at e; cases e; exact he
  · rw [hd] at e; cases e

/-- A draw record that is no TEXT leaves the pen register as it is. -/
theorem PenLegal.draws (h : PenLegal s) {kind : DrawKind} {todo : List (Nat × Tone)}
    (hk : ∀ pen made misses, kind ≠ .text pen made misses) : PenLegal (s.setDraw (some (.writing kind todo))) := by
  refine ⟨h.register, fun pen made misses _ e => ?_, fun x e => by cases e⟩
  cases e
  exact absurd rfl (hk pen made misses)

theorem PenLegal.holdText (h : PenLegal s) {x : TextRec} (hx : x.startsInRange) :
    PenLegal (s.setDraw (some (.textHeld x))) :=
  ⟨h.register, (by intro _ _ _ _ e; cases e), fun y e => by cases e; exact hx⟩

theorem PenLegal.holdHilite (h : PenLegal s) (x : HiliteRec) : PenLegal (s.setDraw (some (.hiliteHeld x))) :=
  ⟨h.register, (by intro _ _ _ _ e; cases e), fun y e => by cases e⟩

theorem PenLegal.freeMisses (h : PenLegal s) : PenLegal s.freeMisses := by
  by_cases hm : s.missesLeft = []
  · rw [freeMisses_of_none hm]; exact h
  · unfold State.missesLeft at hm
    split at hm
    · rename_i pen made misses todo hd
      obtain ⟨found, -, e⟩ := freeMisses_text hd
      rw [e]
      exact penLegal_of_text rfl h.register (h.ending _ _ _ _ hd)
    · exact absurd rfl hm

theorem PenLegal.startText (h : PenLegal s) {x : TextRec} (hx : x.startsInRange) : PenLegal (s.startText x) := by
  cases hf : s.tables.font x.slot with
  | none =>
    unfold State.startText
    rw [hf]
    exact penLegal_of_none h.register rfl
  | some f =>
    obtain ⟨found, -, e⟩ := startText_eq hf
    rw [e]
    exact penLegal_of_text rfl h.register (textRun_penRange hx h.register ..)

theorem PenLegal.rebuild (s : State) : PenLegal s.rebuildAfterDeep := penLegal_of_none penRange_zero rfl

theorem PenLegal.freeRebuild (h : PenLegal s) : PenLegal s.freeRebuild := by
  unfold State.freeRebuild
  split
  · exact ite_holds (P := PenLegal) (h.of_eq rfl rfl) (.rebuild s.useFree)
  · exact h

end Pen

theorem startText_temp (s : State) (t : TextRec) : (s.startText t).temp = s.temp := by
  cases hf : s.tables.font t.slot with
  | none => unfold State.startText; rw [hf]; rfl
  | some f => obtain ⟨found, -, e⟩ := startText_eq hf; rw [e]

end Sys2Proof.Machine
end

section
/-! SUPPORT. Every step keeps the temperature, the two-wire line and the pen legal: the commands of the
Temperature Unit, those that draw, and the resets change what the invariants read (`State.settings`); every other command
leaves it. -/

namespace Sys2Proof.Machine

open Host (Outcome)

/-! ### What a command keeps -/

/-- The parts of a state that the two invariants read. -/
def State.settings (s : State) : Thermal × Int × Option Draw := (s.temp, s.comp.pen, s.comp.draw)

/-- The two invariants, with what they rest on: the sensor address (R6) and the number of bands of a header (R78). -/
structure Grounds (s : State) : Prop where
  temperature : TemperatureLegal s
  pen : PenLegal s
  address : s.store.panel.sensorAddress < 128
  bands : ∀ b, (s.bank b).bounds.length ≤ 8

/-- `t` meets both invariants where `s` does on legal grounds. -/
def Settles (s t : State) : Prop := Grounds s → TemperatureLegal t ∧ PenLegal t

section Settling

variable {s t : State}

theorem Settles.same (h : t.settings = s.settings) : Settles s t := fun g => by
  simp only [State.settings, Prod.mk.injEq] at h
  obtain ⟨ht, hp, hd⟩ := h
  exact ⟨g.temperature.of_eq ht, g.pen.of_eq hp hd⟩

/-- One change after another: the second finds the grounds of the first. -/
theorem Settles.trans {u : State} (h : Settles s t) (hl : t.store.panel = s.store.panel) (hw : t.wave = s.wave)
    (h' : Settles t u) : Settles s u := fun g => by
  obtain ⟨ht, hp⟩ := h g
  refine h' ⟨ht, hp, hl ▸ g.address, fun b => ?_⟩
  have hb : t.bank b = s.bank b := by cases b <;> simp only [State.bank, hw]
  exact hb ▸ g.bands b

/-- A change that leaves the settings and their grounds may come first. -/
theorem Settles.after {s' : State} (h : Settles s' t) (e : s'.settings = s.settings)
    (hl : s'.store.panel = s.store.panel) (hw : s'.wave = s.wave) : Settles s t :=
  (Settles.same e).trans hl hw h

/-- A change that leaves the settings may come last. -/
theorem Settles.andThen {t' : State} (h : Settles s t) (e : t'.settings = t.settings) : Settles s t' := fun g => by
  simp only [State.settings, Prod.mk.injEq] at e
  obtain ⟨ht, hp, hd⟩ := e
  exact ⟨(h g).1.of_eq ht, (h g).2.of_eq hp hd⟩

/-- A command of the Temperature Unit leaves the Composition Engine. -/
theorem Settles.heat (hc : t.comp = s.comp) (ht : Grounds s → TemperatureLegal t) : Settles s t :=
  fun g => ⟨ht g, g.pen.of_eq (by rw [hc]) (by rw [hc])⟩

/-- A command of the Composition Engine leaves the Temperature Unit. -/
theorem Settles.draw (ht : t.temp = s.temp) (hp : PenLegal s → PenLegal t) : Settles s t :=
  fun g => ⟨g.temperature.of_eq ht, hp g.pen⟩

theorem settles_unmoved (s : State) : Unmoved s (Settles s) := ⟨.same rfl, fun _ _ => .same rfl⟩

theorem endUntaken_settings (s : State) (rx : Rx) : (s.endUntaken rx).settings = s.settings := by
  unfold State.endUntaken
  split <;> rfl

theorem setFlagIf_settings (s : State) (c : Bool) (f : Flag) : (s.setFlagIf c f).settings = s.settings := by
  cases c <;> rfl

theorem settles_csRise {isKind : Byte → Bool} {body : Bytes} {f : Rx → State → State}
    (act : ∀ rx, Settles s (f rx (s.setRx none))) : Settles s (s.csRise isKind body f) := by
  rcases csRise_cases s isKind body f with e | ⟨rx, -, -, ⟨-, e⟩ | ⟨-, e⟩⟩
  · rw [e]; exact .same rfl
  · rw [e]; exact .same (setFlagIf_settings ..)
  · rw [e]; exact act rx

theorem settles_express {k : RecordKind} {body : Bytes} {f : State → State} (act : Settles s (f (s.setRx none))) :
    Settles s (s.express k body f) :=
  settles_csRise fun rx => by
    split
    · exact act
    · exact .same (endUntaken_settings (s.setRx none) rx)

end Settling

/-! ### Shared operations that leave the settings -/

section Operations

variable (s : State)

theorem notify_settings (w : Bool) (n : Notice) : (s.notify w n).settings = s.settings := by rw [notify_frame]; rfl

theorem advancePass_settings (n : Nat) : (s.advancePass n).settings = s.settings := by rw [advancePass_frame]; rfl

theorem readMany_settings (n : Nat) : (State.readMany n s).settings = s.settings := by rw [readMany_frame]; rfl

theorem freeAdvanceRead_settings : s.freeAdvanceRead.settings = s.settings := by rw [freeAdvanceRead_frame]; rfl

theorem advanceWalks_settings : s.advanceWalks.settings = s.settings := by rw [advanceWalks_frame]; rfl

theorem endPass_settings : s.endPass.settings = s.settings := by rw [endPass_frame]; rfl

theorem continuePass_settings : s.continuePass.settings = s.settings := by rw [continuePass_frame]; rfl

theorem reachOn_settings : s.reachOn.settings = s.settings := by rw [reachOn_frame]; rfl

theorem enterRising_settings : s.enterRising.settings = s.settings := by rw [enterRising_frame]; rfl

theorem enterFault_settings : s.enterFault.settings = s.settings := by rw [enterFault_frame]; rfl

theorem setBank_settings (b : BankId) (v : Bank) : (s.setBank b v).settings = s.settings := by cases b <;> rfl

theorem haltAll_settings : s.haltAll.settings = s.settings := by rw [haltAll_eq]; rfl

theorem endLatch_settings (i : Fin 16) : (s.endLatch i).settings = s.settings := by
  cases h : s.slot i with
  | none => simp [State.endLatch, h]
  | some sl => rw [endLatch_frame h]; rfl

theorem cancelTag_settings (tag : Byte) : (s.cancelTag tag).settings = s.settings := by
  have acted : (s.cancelled tag).settings = s.settings := by
    rw [cancelled_frame]
    dsimp only [State.settings, State.cancelActed]
    rw [(cancelFrom_walkedOn s tag).frame]
  rw [cancelTag_eq]
  exact ite_holds (P := fun t => t.settings = s.settings) ((continuePass_settings _).trans acted) acted

theorem frameEnd_settings : (slotIds.foldl State.frameSlot s).trigger.nextFrame.settings = s.settings := by
  rw [frameEnd_frame]
  dsimp only [State.settings]

theorem resolveAndAdmit_settings (r : Request) (unknownSeen : Bool) :
    (s.resolveAndAdmit r unknownSeen).settings = s.settings := by
  unfold State.resolveAndAdmit
  split
  · rfl
  · rw [continuePass_settings, notify_settings]; rfl
  · exact endPass_settings s

end Operations

/-! ### Operations that change the settings -/

section Changes

variable (s : State)

theorem setWriting_settles {kind : DrawKind} (hk : ∀ pen made misses, kind ≠ .text pen made misses)
    (todo : List (Nat × Tone)) : Settles s (s.setDraw (some (.writing kind todo))) :=
  .draw rfl fun h => h.draws hk

theorem startHilite_settles (x : HiliteRec) : Settles s (s.startHilite x) := setWriting_settles s (by simp) _

theorem startText_settles {x : TextRec} (hx : x.startsInRange) : Settles s (s.startText x) :=
  .draw (startText_temp s x) fun h => h.startText hx

theorem freeMisses_settles : Settles s s.freeMisses := .draw (by rw [freeMisses_frame]) PenLegal.freeMisses

theorem advanceShown_settles : Settles s s.advanceShown :=
  .draw (by rw [advanceShown_frame]) fun h => h.freeMisses.freeRebuild

theorem recomputeBand_comp : s.recomputeBand.comp = s.comp := by rw [recomputeBand_frame]

theorem recomputeBand_settles : Settles s s.recomputeBand :=
  .heat (recomputeBand_comp s) fun g => g.temperature.recomputeBand g.bands

theorem withState_bounds (b b' : BankId) (st : BankState) :
    ((s.setBank b ((s.bank b).withState st)).bank b').bounds = (s.bank b').bounds := by
  cases b <;> cases b' <;> rfl

/-- The commit of a bank changes the states of the banks and the band alone (R84). -/
theorem commitBank_settles (b : BankId) : Settles s (s.commitBank b) := by
  unfold State.commitBank
  refine .heat ?_ fun g => ?_
  · rw [recomputeBand_comp, State.setBank_comp]
    split
    · rfl
    · exact State.setBank_comp ..
  · refine TemperatureLegal.recomputeBand ?_ fun b' => ?_
    · refine g.temperature.of_eq ((State.setBank_temp ..).trans ?_)
      split
      · rfl
      · exact State.setBank_temp ..
    · rw [withState_bounds]
      split
      · exact g.bands b'
      · rw [withState_bounds]; exact g.bands b'

theorem failRead_settles {events : List WireEvent} (h : WireEnded (s.temp.wire ++ events)) :
    Settles s (s.failRead events) :=
  .heat (by rw [failRead_frame]) fun g => g.temperature.failRead h

theorem startRead_settles (lead : List WireEvent) : Settles s (s.startRead lead) :=
  .heat rfl fun g => g.temperature.startRead g.address lead

theorem startReadIfSensor_settles (lead : List WireEvent) : Settles s (s.startReadIfSensor lead) :=
  ite_holds (startRead_settles s lead) (.same rfl)

theorem tempset_settles (source : Source) : Settles s (s.tempset source) :=
  .heat (State.abandonRead_comp s) fun g => g.temperature.tempset source

theorem tempset_panel (source : Source) : (s.tempset source).store.panel = s.store.panel := by
  rw [State.tempset, State.abandonRead_store]

theorem tempset_wave (source : Source) : (s.tempset source).wave = s.wave := State.abandonRead_wave s

theorem fallAsleep_settles (p : Power) : Settles s (s.fallAsleep p) :=
  .heat (by rw [fallAsleep_eq]) fun g => g.temperature.fallAsleep p

theorem rebuildAfterDeep_settles : Settles s s.rebuildAfterDeep := .draw rfl fun _ => .rebuild s

theorem softReset_settles (keep : Bool) : Settles s (s.softReset keep) := fun g => by
  refine ⟨g.temperature.softReset g.address keep, ?_⟩
  obtain ⟨cut, n, -, e⟩ := softReset_blocks s keep
  rw [e]
  exact penLegal_of_none penRange_zero rfl

end Changes

/-! ### The commands -/

/-- Whatever state a command answers, it settles what `Settles` names. -/
def AnswersSettled (s : State) (o : Outcome State Fault Refusal) : Prop := ∀ t, o = .next t → Settles s t

theorem AnswersSettled.next {s t : State} (h : Settles s t) : AnswersSettled s (.next t) := fun u e => by
  injection e with e; exact e ▸ h

section Commands

variable (s : State)

/-! #### The Link Port (09) -/

theorem execHeaderDecode_settles (counted : Bool) (target kind : Byte) (length : BitVec 16) :
    AnswersSettled s (execHeaderDecode counted target kind length s) := by
  refine .next (ite_holds (.same rfl) ?_)
  unfold State.decodeHeader
  dsimp only
  refine ite_holds (.same rfl) (ite_holds (.same (setFlagIf_settings ..)) ?_)
  have shown : Settles s (if kind = RecordKind.fetchlive.code then (s.setMiso []).advanceShown else s.setMiso []) :=
    ite_holds ((advanceShown_settles (s.setMiso [])).after rfl rfl rfl) (.same rfl)
  split
  · exact shown.andThen rfl
  · exact shown.andThen rfl

theorem execRecordReceived_settles (body : Bytes) : AnswersSettled s (execRecordReceived body s) :=
  .next (settles_csRise fun rx => by
    split
    · exact .same rfl
    · exact .same (endUntaken_settings (s.setRx none) rx))

theorem execFramingError_settles (cut : FramingCut) : AnswersSettled s (execFramingError cut s) := by
  refine .next ?_
  split
  · exact ite_holds (.same rfl) (ite_holds (.same (setFlagIf_settings ..)) (.same rfl))
  · split
    · exact .same rfl
    · exact .same (setFlagIf_settings ..)

theorem execUnknownKind_settles : AnswersSettled s (execUnknownKind s) := by
  refine .next (ite_holds ?_ (.same rfl))
  split
  · exact .same rfl
  · exact ite_holds (.same rfl) (.same rfl)

theorem execFetchlive_settles : AnswersSettled s (execFetchlive s) := by
  refine .next ?_
  split
  · exact .same rfl
  · split <;> exact .same rfl

theorem execFetchqueue_settles : AnswersSettled s (execFetchqueue s) := by
  refine .next ?_
  split
  · exact .same rfl
  · split
    · exact .same rfl
    · exact ite_holds (.same rfl) (.same rfl)
    · exact ite_holds (.same (endUntaken_settings (s.setRx none) _)) (.same rfl)

/-! #### Drawing (03, 04) -/

theorem execFill_settles : AnswersSettled s (execFill s) :=
  .next (withDraw_holds (settles_unmoved s) fun _ => by
    split
    · exact .same rfl
    · exact (setWriting_settles s.pop (by simp) _).after rfl rfl rfl)

theorem execCopy_settles : AnswersSettled s (execCopy s) :=
  .next (withDraw_holds (settles_unmoved s) fun _ => by
    split
    · exact .same rfl
    · exact (setWriting_settles s.pop (by simp) _).after rfl rfl rfl)

theorem execHilite_settles : AnswersSettled s (execHilite s) :=
  .next (withDraw_holds (settles_unmoved s) fun _ => by
    split
    · exact .same rfl
    · exact ite_holds (.draw rfl fun h => PenLegal.holdHilite (s := s.pop) (h.of_eq rfl rfl) _)
        ((startHilite_settles s.pop _).after rfl rfl rfl))

theorem execText_settles : AnswersSettled s (execText s) :=
  .next (withDraw_holds (settles_unmoved s) fun _ => by
    split
    · exact .same rfl
    · rename_i x hx
      have start := parseText_startsInRange hx
      exact ite_holds (.draw rfl fun h => PenLegal.holdText (s := s.pop) (h.of_eq rfl rfl) start)
        ((startText_settles s.pop start).after rfl rfl rfl))

theorem execClippush_settles : AnswersSettled s (execClippush s) :=
  .next (withDraw_holds (settles_unmoved s) fun _ => by
    split
    · exact .same rfl
    · refine .same ((setFlagIf_settings ..).trans ?_)
      unfold Compose.push State.settings
      split
      · rfl
      · split <;> rfl)

theorem execClippop_settles : AnswersSettled s (execClippop s) :=
  .next (withDraw_holds (settles_unmoved s) fun _ => by
    split
    · exact .same rfl
    · refine .same ((setFlagIf_settings ..).trans ?_)
      unfold Compose.popClip State.settings
      split
      · rfl
      · split
        · rfl
        · split <;> rfl)

theorem execClipreset_settles : AnswersSettled s (execClipreset s) :=
  .next (withDraw_holds (settles_unmoved s) fun _ => by split <;> exact .same rfl)

theorem execDrawEnd_settles : AnswersSettled s (execDrawEnd s) := by
  cases hd : s.comp.draw with
  | none => unfold execDrawEnd; rw [hd]; exact .next (.same rfl)
  | some d =>
    cases d with
    | textHeld x => unfold execDrawEnd; rw [hd]; exact .next (.same rfl)
    | hiliteHeld x => unfold execDrawEnd; rw [hd]; exact .next (.same rfl)
    | writing kind todo =>
      have hexec : execDrawEnd s = .next _ := drawEnd_eq hd
      rw [hexec]
      refine .next (.draw rfl fun h => penLegal_of_none ?_ rfl)
      show penRange (kind.penAfter s.comp.pen)
      cases kind with
      | fill => exact h.register
      | copy => exact h.register
      | hilite => exact h.register
      | text pen made misses => exact h.ending _ _ _ _ hd

/-! #### The Table Store (02) -/

theorem execFontdef_settles : AnswersSettled s (execFontdef s) :=
  .next (withTable_holds (settles_unmoved s) fun _ => by split <;> exact .same rfl)

theorem execFontdrop_settles : AnswersSettled s (execFontdrop s) :=
  .next (withTable_holds (settles_unmoved s) fun _ => by split <;> exact .same rfl)

theorem execGlyphput_settles : AnswersSettled s (execGlyphput s) :=
  .next (withTable_holds (settles_unmoved s) fun _ => by split <;> exact .same rfl)

theorem execGlyphWriteEnd_settles : AnswersSettled s (execGlyphWriteEnd s) := by
  refine .next ?_
  split
  · exact .same rfl
  · dsimp only
    split
    · rename_i x hx
      exact fun g => startText_settles _ (g.pen.starting x hx)
        ⟨g.temperature.of_eq rfl, g.pen.of_eq rfl rfl, g.address, g.bands⟩
    · exact (startHilite_settles _ _).after rfl rfl rfl
    · exact .same rfl

theorem execGlyphdrop_settles : AnswersSettled s (execGlyphdrop s) :=
  .next (withTable_holds (settles_unmoved s) fun _ => by split <;> exact .same rfl)

theorem execKernload_settles : AnswersSettled s (execKernload s) :=
  .next (withTable_holds (settles_unmoved s) fun _ => by split <;> exact .same rfl)

theorem execStyleset_settles : AnswersSettled s (execStyleset s) :=
  .next (withTable_holds (settles_unmoved s) fun _ => by split <;> exact .same rfl)

/-! #### Waveforms and temperature (05, 06) -/

theorem execWavebegin_settles : AnswersSettled s (execWavebegin s) :=
  .next (withHead_holds (settles_unmoved s) fun _ => by
    split
    · exact .same rfl
    · exact ite_holds (.same rfl) (.same (setBank_settings ..)))

theorem execWaveput_settles : AnswersSettled s (execWaveput s) :=
  .next (withHead_holds (settles_unmoved s) fun _ => by
    split
    · exact .same rfl
    · split
      · exact .same rfl
      · exact .same (setBank_settings ..))

theorem execWavecommit_settles : AnswersSettled s (execWavecommit s) :=
  .next (withHead_holds (settles_unmoved s) fun _ => by
    split
    · exact .same rfl
    · split
      · exact .same rfl
      · exact ite_holds (.same rfl) ((commitBank_settles s.pop _).after rfl rfl rfl))

theorem setCurrent_settles (z : Int) : Settles s { s with temp := { s.temp with current := clampTemp z } } :=
  .heat rfl fun g => g.temperature.withCurrent z

/-- A fixed temperature: the read is abandoned, the value taken and the band recomputed (R95). -/
theorem fixTemperature_settles (z : Int) : Settles s (State.recomputeBand { s.tempset .fixed with
    temp := { (s.tempset .fixed).temp with current := clampTemp z } }) :=
  ((tempset_settles s .fixed).trans (tempset_panel ..) (tempset_wave ..) (setCurrent_settles _ z)).trans
    (tempset_panel s .fixed) (tempset_wave s .fixed) (recomputeBand_settles _)

theorem execTempsetFixed_settles : AnswersSettled s (execTempsetFixed s) :=
  .next (withTempset_holds (settles_unmoved s) fun z => (fixTemperature_settles s.pop z).after rfl rfl rfl)

theorem execTempsetSensor_settles : AnswersSettled s (execTempsetSensor s) :=
  .next (withTempset_holds (settles_unmoved s) fun _ => ((tempset_settles s.pop .sensor).trans (tempset_panel ..)
    (tempset_wave ..) (startRead_settles _ s.abandonEvents)).after rfl rfl rfl)

theorem execSampleIntervalExpiry_settles : AnswersSettled s (execSampleIntervalExpiry s) :=
  .next (ite_holds (startRead_settles s []) (.same rfl))

theorem execSensorReadEnd_settles (raw : Byte × Byte) : AnswersSettled s (execSensorReadEnd raw s) :=
  .next (ite_holds (.heat (recomputeBand_comp _) fun g =>
    TemperatureLegal.recomputeBand (.idle (clampTemp_bounds _) (Nat.zero_le _) g.temperature.band rfl
      (wireEnded_append _ [.ack, .nack] (.inl rfl))) g.bands) (.same rfl))

theorem execSensorNoAck_settles : AnswersSettled s (execSensorNoAck s) :=
  .next (ite_holds (failRead_settles s (wireEnded_append _ [] (.inl rfl))) (.same rfl))

theorem execSensorReadTimeout_settles : AnswersSettled s (execSensorReadTimeout s) :=
  .next (ite_holds ((failRead_settles s.useFree (wireEnded_cutEvents s _)).after rfl rfl rfl) (.same rfl))

/-! #### Updates (07) -/

theorem execUpdate_settles : AnswersSettled s (execUpdate s) :=
  .next (withHead_holds (settles_unmoved s) fun _ => by
    split
    · exact .same rfl
    · exact ite_holds (.same (notify_settings ..)) (ite_holds (.same rfl) (.same rfl)))

theorem execAdmissionPass_settles : AnswersSettled s (execAdmissionPass s) := by
  refine .next (ite_holds (.same ?_) (.same rfl))
  rw [continuePass_settings, beginPass_eq]; rfl

theorem execResolutionPixelReadsEnd_settles : AnswersSettled s (execResolutionPixelReadsEnd s) := by
  refine .next ?_
  split
  · exact ite_holds (.same (continuePass_settings _)) (.same rfl)
  · exact .same (resolveAndAdmit_settings s _ _)
  · exact .same rfl

theorem execLatchEnd_settles : AnswersSettled s (execLatchEnd s) := by
  refine .next ?_
  split
  · refine ite_holds (.same rfl) (.same ?_)
    dsimp only
    split
    · rw [continuePass_settings, endLatch_settings, advancePass_settings, freeAdvanceRead_settings]
    · exact freeAdvanceRead_settings s
  · exact .same rfl

theorem execFrameEnd_settles : AnswersSettled s (execFrameEnd s) :=
  .next (ite_holds (.same ((frameEnd_settings _).trans (advanceWalks_settings s))) (.same rfl))

theorem execCancel_settles (body : Bytes) : AnswersSettled s (execCancel body s) :=
  .next (settles_express (ite_holds (.same rfl) (.same (cancelTag_settings (s.setRx none) _))))

theorem execHalt_settles (body : Bytes) : AnswersSettled s (execHalt body s) :=
  .next (settles_express (ite_holds (.same rfl) (.same (haltAll_settings (s.setRx none)))))

/-! #### The panel and the rails (01, 08) -/

theorem execPanelset_settles : AnswersSettled s (execPanelset s) :=
  .next (withHead_holds (settles_unmoved s) fun _ => by
    split
    · exact .same rfl
    · exact ite_holds (.same rfl) (ite_holds (.same rfl)
        (.draw rfl fun h => ⟨penRange_zero, h.ending, h.starting⟩)))

theorem execRailctlOff_settles : AnswersSettled s (execRailctlOff s) :=
  .next (withRailctl_holds (settles_unmoved s) (ite_holds (.same rfl) (by split <;> exact .same rfl)))

theorem execRailctlClear_settles : AnswersSettled s (execRailctlClear s) :=
  .next (withRailctl_holds (settles_unmoved s) (ite_holds (.same rfl) (.same rfl)))

theorem execFallTimerExpiry_settles : AnswersSettled s (execFallTimerExpiry s) :=
  .next (ite_holds (ite_holds (.same (enterRising_settings _)) (.same rfl)) (.same rfl))

/-! #### The Event and Reply Unit (09) -/

theorem execEvmask_settles : AnswersSettled s (execEvmask s) :=
  .next (withHead_holds (settles_unmoved s) fun _ => by split <;> exact .same rfl)

theorem execEvclear_settles : AnswersSettled s (execEvclear s) :=
  .next (withHead_holds (settles_unmoved s) fun _ => by
    split
    · exact .same rfl
    · exact (freeMisses_settles s).andThen rfl)

theorem execReadGlyph_settles : AnswersSettled s (execReadGlyph s) :=
  .next (withRead_holds (settles_unmoved s) fun _ => ite_holds (.same rfl) (ite_holds (.same rfl)
    (ifRoom_holds (settles_unmoved s) (ite_holds (.same rfl) (.same rfl)))))

theorem execReadGlyphEnd_settles : AnswersSettled s (execReadGlyphEnd s) :=
  .next (by split <;> exact .same rfl)

theorem execReadKern_settles : AnswersSettled s (execReadKern s) :=
  .next (withRead_holds (settles_unmoved s) fun _ => ite_holds (.same rfl) (ite_holds (.same rfl)
    (ifRoom_holds (settles_unmoved s) (.same rfl))))

theorem execReadStyle_settles : AnswersSettled s (execReadStyle s) :=
  .next (withRead_holds (settles_unmoved s) fun _ => ite_holds (.same rfl)
    (ifRoom_holds (settles_unmoved s) (.same rfl)))

theorem execReadWave_settles : AnswersSettled s (execReadWave s) :=
  .next (withRead_holds (settles_unmoved s) fun _ => ite_holds (.same rfl)
    (ifRoom_holds (settles_unmoved s) (.same rfl)))

theorem execReadResidue_settles : AnswersSettled s (execReadResidue s) :=
  .next (withRead_holds (settles_unmoved s) fun _ => ifRoom_holds (settles_unmoved s) (.same rfl))

theorem execReadPixels_settles : AnswersSettled s (execReadPixels s) :=
  .next (withRead_holds (settles_unmoved s) fun _ => ite_holds (.same rfl) (by
    split
    · exact .same rfl
    · exact ifRoom_holds (settles_unmoved s) (.same rfl)))

theorem execReadPixelsEnd_settles : AnswersSettled s (execReadPixelsEnd s) := by
  refine .next (.same ?_)
  split
  · rename_i r _
    dsimp only
    split <;> exact readMany_settings s r.todo.length
  · rfl

/-! #### Power states and resets (09) -/

theorem execSleep_settles : AnswersSettled s (execSleep s) :=
  .next (withSleep_holds (settles_unmoved s) (fallAsleep_settles s .sleep))

theorem execSleepDeep_settles : AnswersSettled s (execSleepDeep s) :=
  .next (withSleep_holds (settles_unmoved s) ((fallAsleep_settles s .deep).andThen rfl))

theorem execWake_settles (body : Bytes) : AnswersSettled s (execWake body s) :=
  .next (settles_csRise fun rx => by
    split
    · refine ite_holds ?_ (.same rfl)
      split <;> exact .same rfl
    · exact .same (endUntaken_settings (s.setRx none) rx))

theorem execPinReset_settles : AnswersSettled s (execPinReset s) := by
  obtain ⟨safe, -, -⟩ := resetIsSafe
  obtain ⟨current, failures, band, -, -⟩ := safe.temperature
  exact .next fun _ => ⟨.idle current failures band rfl
    ((abandonEvents_cutOff s).wireEnded (wire := []) fun _ => .inl rfl), safe.pen.of_eq rfl rfl⟩

theorem execStartingEnd_settles : AnswersSettled s (execStartingEnd s) :=
  .next (ite_holds ((startReadIfSensor_settles _ []).after rfl rfl rfl) (.same rfl))

theorem execWakingEnd_settles : AnswersSettled s (execWakingEnd s) := by
  refine .next ?_
  split
  · rename_i fromDeep _
    cases fromDeep with
    | true => exact (rebuildAfterDeep_settles s).trans rfl rfl ((startReadIfSensor_settles _ []).after rfl rfl rfl)
    | false => exact (startReadIfSensor_settles _ []).after rfl rfl rfl
  · exact .same rfl

theorem resetRecord_settles (option : Nat) (keep : Bool) (body : Bytes) :
    AnswersSettled s (.next (s.resetRecord option keep body)) :=
  .next (ite_holds (.same rfl) (settles_express (ite_holds (.same rfl) (ite_holds (.same rfl)
    ((softReset_settles (s.setRx none) keep).after rfl rfl rfl)))))

end Commands

/-- Every command settles the temperature, the two-wire line and the pen. -/
theorem exec_settles (c : Instr) (s : State) : AnswersSettled s (exec c s) := by
  cases c with
  | pinReset => exact execPinReset_settles s
  | resetNRelease a0 a1 => exact .next (ite_holds (.same rfl) (.same rfl))
  | startingEnd => exact execStartingEnd_settles s
  | headerDecode counted target kind length => exact execHeaderDecode_settles s counted target kind length
  | recordReceived body => exact execRecordReceived_settles s body
  | framingError cut => exact execFramingError_settles s cut
  | unknownKind => exact execUnknownKind_settles s
  | fill => exact execFill_settles s
  | text => exact execText_settles s
  | hilite => exact execHilite_settles s
  | copy => exact execCopy_settles s
  | clippush => exact execClippush_settles s
  | clippop => exact execClippop_settles s
  | clipreset => exact execClipreset_settles s
  | drawEnd => exact execDrawEnd_settles s
  | fontdef => exact execFontdef_settles s
  | fontdrop => exact execFontdrop_settles s
  | glyphput => exact execGlyphput_settles s
  | glyphWriteEnd => exact execGlyphWriteEnd_settles s
  | glyphdrop => exact execGlyphdrop_settles s
  | kernload => exact execKernload_settles s
  | styleset => exact execStyleset_settles s
  | wavebegin => exact execWavebegin_settles s
  | waveput => exact execWaveput_settles s
  | wavecommit => exact execWavecommit_settles s
  | update => exact execUpdate_settles s
  | admissionPass => exact execAdmissionPass_settles s
  | latchEnd => exact execLatchEnd_settles s
  | frameEnd => exact execFrameEnd_settles s
  | cancel body => exact execCancel_settles s body
  | halt body => exact execHalt_settles s body
  | panelset => exact execPanelset_settles s
  | reinitEnd => exact .next (ite_holds (.same rfl) (.same rfl))
  | railctlOff => exact execRailctlOff_settles s
  | railctlClear => exact execRailctlClear_settles s
  | pgoodAsserted => exact .next (ite_holds (.same (reachOn_settings _)) (.same rfl))
  | pgoodLost => exact .next (ite_holds (.same (enterFault_settings _)) (.same rfl))
  | riseTimerExpiry => exact .next (ite_holds (.same (enterFault_settings s)) (.same rfl))
  | holdTimerExpiry => exact .next (ite_holds (.same rfl) (.same rfl))
  | fallTimerExpiry => exact execFallTimerExpiry_settles s
  | tempsetFixed => exact execTempsetFixed_settles s
  | tempsetSensor => exact execTempsetSensor_settles s
  | sampleIntervalExpiry => exact execSampleIntervalExpiry_settles s
  | sensorReadEnd raw => exact execSensorReadEnd_settles s raw
  | sensorNoAck => exact execSensorNoAck_settles s
  | sensorReadTimeout => exact execSensorReadTimeout_settles s
  | evmask => exact execEvmask_settles s
  | evclear => exact execEvclear_settles s
  | readGlyph => exact execReadGlyph_settles s
  | readGlyphEnd => exact execReadGlyphEnd_settles s
  | readKern => exact execReadKern_settles s
  | readStyle => exact execReadStyle_settles s
  | readWave => exact execReadWave_settles s
  | readResidue => exact execReadResidue_settles s
  | readPixels => exact execReadPixels_settles s
  | readPixelsEnd => exact execReadPixelsEnd_settles s
  | sleep => exact execSleep_settles s
  | sleepDeep => exact execSleepDeep_settles s
  | wake body => exact execWake_settles s body
  | wakingEnd => exact execWakingEnd_settles s
  | reset body => exact resetRecord_settles s 0 false body
  | resetKeepTables body => exact resetRecord_settles s 1 true body
  | fetchlive => exact execFetchlive_settles s
  | fetchqueue => exact execFetchqueue_settles s
  | resolutionPixelReadsEnd => exact execResolutionPixelReadsEnd_settles s

theorem grounds_of_legal {s : State} (ht : TemperatureLegal s) (hp : PenLegal s) (hl : PanelLegal s.store.panel)
    (hb : BanksLegal s) : Grounds s := by
  obtain ⟨boundsA, -⟩ := hb.budgets.1
  obtain ⟨boundsB, -⟩ := hb.budgets.2
  refine ⟨ht, hp, hl.sensorAddress, fun b => ?_⟩
  cases b with
  | bankA => exact boundsA
  | bankB => exact boundsB

/-- Settles O59: on legal grounds every command settles the temperature, the line and the pen. -/
theorem stepKeepsTemperatureAndPen : Obligations.StepKeepsTemperatureAndPen := by
  intro s t ht hp hl hb h
  have grounds := grounds_of_legal ht hp hl hb
  unfold step at h
  split at h
  · injection h with h; exact h ▸ ⟨ht, hp⟩
  · rename_i i rest _
    exact exec_settles i { s with pending := rest } t h
      ⟨ht.of_eq rfl, hp.of_eq rfl rfl, grounds.address, grounds.bands⟩

end Sys2Proof.Machine
end

section
/-! SUPPORT. EVMASK, EVCLEAR and the line ATTN (R166, R167). -/

namespace Sys2Proof.Machine

open Host (Outcome)

/-! ### ATTN -/

theorem Flag.bit_lt (f : Flag) : f.bit < 12 := by cases f <;> decide

/-- Every position of a flag field names a flag. -/
theorem Flag.exists_bit {i : Nat} (h : i < 12) : ∃ f : Flag, f.bit = i := by
  have : ∀ i : Fin 12, ∃ f ∈ [Flag.done, .refused, .framing, .overrun, .collide, .glyphmiss, .clipfault, .temprange,
      .tempfail, .railfault, .noticelost, .wake], f.bit = i := by decide
  obtain ⟨f, -, hf⟩ := this ⟨i, h⟩
  exact ⟨f, hf⟩

theorem and_ne_zero_iff_flag (x y : BitVec 12) :
    x &&& y ≠ 0 ↔ ∃ f : Flag, x.getLsbD f.bit = true ∧ y.getLsbD f.bit = true := by
  constructor
  · intro h
    by_contra hn
    refine h (BitVec.eq_of_getLsbD_eq fun i hi => ?_)
    obtain ⟨f, rfl⟩ := Flag.exists_bit hi
    simpa using not_exists.mp hn f
  · rintro ⟨f, hx, hy⟩ h
    have hf := congrArg (·.getLsbD f.bit) h
    simp [hx, hy] at hf

theorem attnLine_iff (s : State) : s.attnLine = true ↔
    s.link.resetAsserted = false ∧ ∃ f : Flag, s.flag f = true ∧ s.ev.mask.getLsbD f.bit = true := by
  rw [State.attnLine, Bool.and_eq_true, decide_eq_true_eq, and_ne_zero_iff_flag, Bool.not_eq_true']
  rfl

/-! ### Flag fields (R166, R167) -/

theorem parseFlags_length {b : Bytes} (h : b.length ≠ 2) : parseFlags b = .refuse .length := if_pos h

theorem parseFlags_field {b : Bytes} (h : b.length = 2) (hf : 0xFFF < u16 b 0) : parseFlags b = .refuse .field := by
  unfold parseFlags
  rw [if_neg (not_not.mpr h), if_pos hf]

theorem parseFlags_ok {b : Bytes} (h : b.length = 2) (hf : u16 b 0 ≤ 0xFFF) :
    parseFlags b = .ok (BitVec.ofNat 12 (u16 b 0)) := by
  unfold parseFlags
  rw [if_neg (not_not.mpr h), if_neg (Nat.not_lt.mpr hf)]

theorem getLsbD_flags (n : Nat) (f : Flag) : (BitVec.ofNat 12 n).getLsbD f.bit = n.testBit f.bit := by
  rw [BitVec.getLsbD_ofNat, decide_eq_true f.bit_lt, Bool.true_and]

/-! ### The misses a TEXT may have found by then (R47; log 18) -/

/-- Some misses of the TEXT in progress are found; they set GLYPHMISS and count the writes before the last of them as
made. -/
theorem freeMisses_found (s : State) : ∃ found, s.missesLeft = found ++ s.freeMisses.missesLeft ∧
    s.freeMisses.ev = (if found = [] then s.ev else (s.setFlag .glyphmiss).ev) ∧
    ∀ pen made misses todo, s.comp.draw = some (.writing (.text pen made misses) todo) →
      s.freeMisses.comp = { s.comp with
        draw := some (.writing (.text pen (found.getLastD made) s.freeMisses.missesLeft) todo) } := by
  by_cases hm : s.missesLeft = []
  · refine ⟨[], rfl.trans (congrArg _ (freeMisses_of_none hm).symm), ?_, fun pen made misses todo hd => ?_⟩
    · rw [freeMisses_of_none hm, if_pos rfl]
    · have hleft : s.missesLeft = misses := by simp [State.missesLeft, hd]
      rw [freeMisses_of_none hm, hleft, List.getLastD_nil, ← hd]
  · unfold State.missesLeft at hm
    split at hm
    · rename_i pen made misses todo hd
      obtain ⟨found, hsplit, e⟩ := freeMisses_text hd
      refine ⟨found, ?_, ?_, fun pen' made' misses' todo' hd' => ?_⟩
      · rw [← hsplit]; simp [State.missesLeft, hd]
      · exact congrArg State.ev e
      · rw [hd] at hd'; cases hd'
        exact congrArg State.comp e
    · exact absurd rfl hm

/-! ### EVMASK and EVCLEAR -/

theorem evmask_eq {s : State} {body : Bytes} {rest : List Record} (hd : Dispatches s .evmask body rest)
    (hl : body.length = 2) (hf : u16 body 0 ≤ 0xFFF) : exec .evmask s = .next { taken s rest with
      ev := { s.ev with mask := BitVec.ofNat 12 (u16 body 0) } } := by
  show Outcome.next _ = _
  rw [withHead_of_dispatches hd, parseFlags_ok hl hf]
  dsimp only
  rw [pop_eq_taken hd]

theorem evclear_eq {s : State} {body : Bytes} {rest : List Record} (hd : Dispatches s .evclear body rest)
    (hl : body.length = 2) (hf : u16 body 0 ≤ 0xFFF) : exec .evclear s = .next { taken s rest with
      ev := { s.freeMisses.ev with flags := s.freeMisses.ev.flags &&& ~~~BitVec.ofNat 12 (u16 body 0) }
      comp := s.freeMisses.comp, freeCount := s.freeMisses.freeCount } := by
  have hframe := freeMisses_frame s
  have hpop : s.freeMisses.pop = { taken s rest with
      ev := s.freeMisses.ev, comp := s.freeMisses.comp, freeCount := s.freeMisses.freeCount } := by
    rw [← pop_eq_taken hd]
    generalize s.freeMisses = u at hframe ⊢
    rw [hframe]; rfl
  show Outcome.next _ = _
  rw [withHead_of_dispatches hd, parseFlags_ok hl hf]
  dsimp only
  rw [hpop]

/-- Settles O43: the checks of a flag field, then `evmask_eq` and `evclear_eq`. -/
theorem maskAndClearFollowBody : Obligations.MaskAndClearFollowBody := by
  refine ⟨attnLine_iff, fun s body rest => ⟨fun hd => ?mask, fun hd => ?clear⟩⟩
  case mask =>
    refine ⟨fun hl => withHead_refuses hd (by rw [parseFlags_length hl]),
      fun hl hf => withHead_refuses hd (by rw [parseFlags_field hl hf]), fun hl hf => ⟨_, evmask_eq hd hl hf, ?_, rfl,
      fun hr => ?_⟩⟩
    · exact BitVec.toNat_ofNat .. |>.trans (Nat.mod_eq_of_lt (by omega))
    · rw [attnLine_iff]
      simp only [getLsbD_flags]
      exact and_iff_right hr
  case clear =>
    refine ⟨fun hl => withHead_refuses hd (by rw [parseFlags_length hl]),
      fun hl hf => withHead_refuses hd (by rw [parseFlags_field hl hf]), fun hl hf => ⟨_, evclear_eq hd hl hf, ?_⟩⟩
    obtain ⟨found, hsplit, hev, hcomp⟩ := freeMisses_found s
    have hflag : ∀ f, s.freeMisses.flag f = (s.flag f || (!found.isEmpty && decide (Flag.glyphmiss = f))) := fun f => by
      have h : s.freeMisses.flag f = s.freeMisses.ev.flags.getLsbD f.bit := rfl
      rw [h, hev]
      cases found with
      | nil => simp [State.flag]
      | cons m ms => exact setFlag_flag s .glyphmiss f
    refine ⟨fun f => ?_, fun f hf => ?_, freeMisses_of_none, ⟨found, hsplit, ?_, hcomp⟩, ?_⟩
    · show (_ &&& ~~~ _ : BitVec 12).getLsbD f.bit = _
      rw [BitVec.getLsbD_and, BitVec.getLsbD_not, decide_eq_true f.bit_lt, Bool.true_and, getLsbD_flags]
      rfl
    · rw [hflag f, decide_eq_false hf.symm, Bool.and_false, Bool.or_false]
    · rw [hflag, decide_eq_true rfl, Bool.and_true]
    · rw [hev]
      cases found <;> rfl

end Sys2Proof.Machine
end

section
/-! SUPPORT. Setting text: one code of a run (R39 to R47, R54), and the blend of a placed glyph (R43 to R45, R49). -/

namespace Sys2Proof.Machine

/-! ### Lookup and kerning (R40, R42) -/

section Lookup

variable {tb : Tables} {f : Font} {slot code : Nat}

theorem lookup_found {e : Entry} (h : tb.entry slot code = some e) :
    tb.lookup f slot code = some (code, e, false) := by
  unfold Tables.lookup
  rw [h]

theorem lookup_substituted {fb : Nat} {e : Entry} (h : tb.entry slot code = none) (hf : f.fallback = some fb)
    (he : tb.entry slot fb = some e) : tb.lookup f slot code = some (fb, e, true) := by
  unfold Tables.lookup
  rw [h, hf]
  dsimp only
  rw [he]
  rfl

theorem lookup_missing (h : tb.entry slot code = none)
    (hf : ∀ fb, f.fallback = some fb → tb.entry slot fb = none) : tb.lookup f slot code = none := by
  unfold Tables.lookup
  rw [h]
  cases hb : f.fallback with
  | none => rfl
  | some fb => dsimp only; rw [hf fb hb]; rfl

end Lookup

theorem penAdd_eq (pen z : Int) : penAdd pen z = max (-262144) (min 262143 (pen + z)) := clampInt_eq (by decide) _

theorem Run.kern_eq (r : Run) (tb : Tables) (x : TextRec) (drawn : Nat) : r.kern tb x drawn =
    match x.kern, r.prev with
    | true, some p =>
      match tb.kernOf x.slot p drawn with
      | some adj => max (-262144) (min 262143 (r.pen + adj))
      | none => r.pen
    | _, _ => r.pen := by
  unfold Run.kern
  cases x.kern with
  | false => cases r.prev <;> rfl
  | true =>
    cases r.prev with
    | none => rfl
    | some p =>
      dsimp only
      cases tb.kernOf x.slot p drawn with
      | none => rfl
      | some adj => exact penAdd_eq r.pen adj

/-- A code that finds an entry is drawn from the kerned pen (R42, R43, R46). -/
theorem Run.code_drawn {tb : Tables} {f : Font} {x : TextRec} {code drawn : Nat} {e : Entry} {substituted : Bool}
    (clip : Rect) (r : Run) (h : tb.lookup f x.slot code = some (drawn, e, substituted)) :
    Run.code tb clip f x r code =
      { r.blendGlyph tb clip x.ink e (leftColumn (r.kern tb x drawn) e.bearingX) (x.baseline - e.bearingY) with
        pen := penAdd (penAdd (r.kern tb x drawn) e.advance) x.track
        prev := some drawn
        misses := if substituted then r.misses ++ [r.writes.length] else r.misses } := by
  unfold Run.code
  rw [h]

theorem Run.code_missing {tb : Tables} {f : Font} {x : TextRec} {code : Nat} (clip : Rect) (r : Run)
    (h : tb.lookup f x.slot code = none) : Run.code tb clip f x r code = { r with
      pen := penAdd (penAdd r.pen f.missingAdvance) x.track
      prev := none
      misses := r.misses ++ [r.writes.length] } := by
  unfold Run.code
  rw [h]

/-- Settles O13: the three ways a lookup can end, each as `Run.code` acts on it. -/
theorem textCodeFollowsTable : Obligations.TextCodeFollowsTable := by
  intro tb clip f x r code sat t kerned drawnAs
  have hkern : ∀ drawn, kerned drawn = r.kern tb x drawn := fun drawn => (r.kern_eq tb x drawn).symm
  have hsat : ∀ pen z : Int, sat (pen + z) = penAdd pen z := fun pen z => (penAdd_eq pen z).symm
  have drawn_of : ∀ drawn e substituted, tb.lookup f x.slot code = some (drawn, e, substituted) →
      drawnAs drawn e ∧ t.misses = if substituted then r.misses ++ [r.writes.length] else r.misses := by
    intro drawn e substituted h
    have ht : t = _ := Run.code_drawn clip r h
    refine ⟨?_, congrArg Run.misses ht⟩
    simp only [drawnAs, hkern, hsat]
    exact ⟨by rw [ht]; rfl, by rw [ht]; rfl, congrArg Run.pen ht, congrArg Run.prev ht⟩
  refine ⟨fun e he => drawn_of code e false (lookup_found he),
    fun fb e hn hf he => drawn_of fb e true (lookup_substituted hn hf he), fun hn hf => ?_⟩
  have ht : t = _ := Run.code_missing clip r (lookup_missing hn hf)
  simp only [hsat]
  exact ⟨congrArg Run.pen ht, congrArg Run.prev ht, congrArg Run.misses ht, by rw [ht], by rw [ht]⟩

end Sys2Proof.Machine
end

section
/-! SUPPORT. A placed glyph (R43 to R45, R49): the target writes of its bitmap values, and the blend of one. -/

namespace Sys2Proof.Machine

/-! ### The blend (R44) -/

/-- The rounded part of a difference lies between none of it and all of it. -/
theorem round15_bounds {d n : Int} (h : 0 ≤ d ∧ 0 ≤ n ∧ n ≤ 15 * d ∨ d ≤ 0 ∧ n ≤ 0 ∧ 15 * d ≤ n) :
    (0 ≤ round15 n ∧ round15 n ≤ d ∨ round15 n ≤ 0 ∧ d ≤ round15 n) ∧ 2 * (15 * round15 n - n).natAbs < 15 := by
  unfold round15
  split <;> omega

/-- The part `c` of 15 of a difference lies between none of it and all of it. -/
theorem part_bounds (d : Int) {c : Nat} (hc : c ≤ 15) :
    0 ≤ d ∧ 0 ≤ d * c ∧ d * c ≤ 15 * d ∨ d ≤ 0 ∧ d * c ≤ 0 ∧ 15 * d ≤ d * c := by
  rcases le_total 0 d with h | h
  · exact .inl ⟨h, by positivity, by nlinarith⟩
  · exact .inr ⟨h, by nlinarith, by nlinarith⟩

theorem blend_val {b t : Tone} {c : Nat} (hc : c ≤ 15) :
    ((blend b t c).val : Int) = b.val + round15 (((t.val : Int) - b.val) * c) := by
  have hround := (round15_bounds (part_bounds ((t.val : Int) - b.val) hc)).1
  have hb := b.isLt
  have ht := t.isLt
  unfold blend Tone.clamp
  dsimp only
  omega

theorem blend_nearest (b t : Tone) {c : Nat} (hc : c ≤ 15) :
    2 * ((15 : Int) * ((blend b t c).val - b.val) - ((t.val : Int) - b.val) * c).natAbs < 15 := by
  have hround := (round15_bounds (part_bounds ((t.val : Int) - b.val) hc)).2
  rw [blend_val hc]
  omega

theorem leftColumn_nearest (pen bearing : Int) : 8 * (leftColumn pen bearing - bearing) ≤ pen + 4 ∧
    pen + 4 < 8 * (leftColumn pen bearing - bearing) + 8 := by
  unfold leftColumn
  omega

theorem Run.blendAt_idle (r : Run) {clip : Rect} (ink : Tone) {c : Nat} {x y : Int}
    (h : 0 < c → ¬ clip.has x y = true) : r.blendAt clip ink c x y = r := by
  refine if_pos ?_
  rw [Bool.or_eq_true, decide_eq_true_eq, Bool.not_eq_true']
  rcases Nat.eq_zero_or_pos c with hc | hc
  · exact .inl hc
  · exact .inr (Bool.eq_false_iff.mpr (h hc))

theorem Run.blendAt_acts (r : Run) {clip : Rect} (ink : Tone) {c : Nat} {x y : Int} (hc : 0 < c)
    (h : clip.has x y = true) : r.blendAt clip ink c x y =
      let k := pixelKey x.toNat y.toNat
      let v := blend (pixelAt r.pixels k).target ink c
      { r with pixels := writeTarget r.pixels k v, writes := r.writes ++ [(k, v)] } := by
  refine if_neg ?_
  simp [h, hc.ne']

/-! ### Bitmap values and pixels (R43) -/

theorem pixelKey_inj {x y x' y' : Nat} (h : x < 8192) (h' : x' < 8192) :
    pixelKey x y = pixelKey x' y' ↔ x = x' ∧ y = y' := by
  unfold pixelKey; omega

section Placed

variable (tb : Tables) (clip : Rect) (ink : Tone) (e : Entry) (left top : Int)

/-- The column of bitmap value `n`. -/
def Entry.columnOf (n : Nat) : Int := left + (n % e.width : Nat)

/-- The row of bitmap value `n`. -/
def Entry.rowOf (n : Nat) : Int := top + (n / e.width : Nat)

/-- The key of the pixel of bitmap value `n`. -/
def Entry.keyOf (n : Nat) : Nat := pixelKey (e.columnOf left n).toNat (e.rowOf top n).toNat

/-- Bitmap value `n` is blended: it has coverage, and its pixel lies in the clip (R44, R45). -/
def Entry.blends (n : Nat) : Bool := decide (0 < tb.coverage e n) && clip.has (e.columnOf left n) (e.rowOf top n)

/-- The bitmap value of the pixel (x, y). -/
def Entry.indexOf (x y : Nat) : Nat := ((y : Int) - top).toNat * e.width + ((x : Int) - left).toNat

/-- The pixel (x, y) lies under the bitmap. -/
def Entry.under (x y : Nat) : Prop := left ≤ x ∧ (x : Int) < left + e.width ∧ top ≤ y ∧ (y : Int) < top + e.height

variable {e left top}

/-- A pixel under the bitmap is that of one bitmap value, its index. -/
theorem under_iff {x y n : Nat} : e.under left top x y ∧ e.indexOf left top x y = n ↔
    n < e.width * e.height ∧ (x : Int) = e.columnOf left n ∧ (y : Int) = e.rowOf top n := by
  unfold Entry.under Entry.indexOf Entry.columnOf Entry.rowOf
  constructor
  · rintro ⟨⟨hl, hr, ht, hb⟩, rfl⟩
    obtain ⟨i, hi⟩ := Int.eq_ofNat_of_zero_le (Int.sub_nonneg_of_le hl)
    obtain ⟨j, hj⟩ := Int.eq_ofNat_of_zero_le (Int.sub_nonneg_of_le ht)
    have hiw : i < e.width := by omega
    have hjh : j < e.height := by omega
    have hdiv : (j * e.width + i) / e.width = j := by
      rw [Nat.mul_comm, Nat.mul_add_div (by omega), Nat.div_eq_of_lt hiw, Nat.add_zero]
    have hmod : (j * e.width + i) % e.width = i := by
      rw [Nat.mul_comm, Nat.mul_add_mod, Nat.mod_eq_of_lt hiw]
    rw [hi, hj, Int.toNat_natCast, Int.toNat_natCast, hdiv, hmod]
    refine ⟨?_, by omega, by omega⟩
    calc j * e.width + i < (j + 1) * e.width := by rw [Nat.succ_mul]; omega
      _ ≤ e.height * e.width := Nat.mul_le_mul_right _ hjh
      _ = e.width * e.height := Nat.mul_comm ..
  · rintro ⟨hn, hx, hy⟩
    have hpos : 0 < e.width := Nat.pos_of_ne_zero fun h => by simp [h] at hn
    have hcol := Nat.mod_lt n hpos
    have hrow : n / e.width < e.height := Nat.div_lt_of_lt_mul hn
    have hdown : 0 ≤ ((n / e.width : Nat) : Int) := Int.natCast_nonneg _
    refine ⟨⟨by omega, by omega, by omega, by omega⟩, ?_⟩
    rw [show ((y : Int) - top).toNat = n / e.width by omega, show ((x : Int) - left).toNat = n % e.width by omega,
      Nat.mul_comm]
    exact Nat.div_add_mod n e.width

/-- Rows first, then columns: a later bitmap value stands further down, or in the same row further right. -/
theorem rowOf_columnOf_lt {m n : Nat} (h : m < n) : e.rowOf top m < e.rowOf top n ∨
    e.rowOf top m = e.rowOf top n ∧ e.columnOf left m < e.columnOf left n := by
  unfold Entry.columnOf Entry.rowOf
  rcases Nat.lt_or_eq_of_le (Nat.div_le_div_right (c := e.width) h.le) with hrow | hrow
  · exact .inl (by omega)
  · have hm := Nat.div_add_mod m e.width
    have hn := Nat.div_add_mod n e.width
    rw [hrow] at hm ⊢
    exact .inr ⟨rfl, by omega⟩

variable {tb clip}

theorem blends_iff {n : Nat} : e.blends tb clip left top n = true ↔
    0 < tb.coverage e n ∧ clip.has (e.columnOf left n) (e.rowOf top n) = true := by
  rw [Entry.blends, Bool.and_eq_true, decide_eq_true_eq]

/-- The key of a bitmap value in the clip is that of its pixel alone. -/
theorem keyOf_eq_pixelKey (hpage : clip.onPage) {n x y : Nat} (hb : e.blends tb clip left top n = true)
    (hx : x < 8192) :
    e.keyOf left top n = pixelKey x y ↔ (x : Int) = e.columnOf left n ∧ (y : Int) = e.rowOf top n := by
  obtain ⟨-, hclip⟩ := blends_iff.mp hb
  obtain ⟨hleft, hright, htop⟩ := hpage _ _ hclip
  rw [Entry.keyOf, pixelKey_inj (by omega) hx]
  omega

theorem keyOf_lt (hpage : clip.onPage) {m n : Nat} (h : m < n) (hm : e.blends tb clip left top m = true)
    (hn : e.blends tb clip left top n = true) : e.keyOf left top m < e.keyOf left top n := by
  have horder := rowOf_columnOf_lt (e := e) (left := left) (top := top) h
  have hpm := hpage _ _ (blends_iff.mp hm).2
  have hpn := hpage _ _ (blends_iff.mp hn).2
  unfold Entry.keyOf pixelKey
  omega

/-! ### The writes of a placed glyph (R49) -/

variable (tb clip e left top)

/-- The target writes of the first `n` bitmap values, on the pixels as they stand before the glyph. -/
def glyphWrites (m : List (Nat × PixelRec)) (n : Nat) : List (Nat × Tone) :=
  ((List.range n).filter (e.blends tb clip left top)).map fun j =>
    (e.keyOf left top j, blend (pixelAt m (e.keyOf left top j)).target ink (tb.coverage e j))

variable {tb clip ink e left top}

theorem mem_glyphWrites {m : List (Nat × PixelRec)} {n : Nat} {w : Nat × Tone} :
    w ∈ glyphWrites tb clip ink e left top m n ↔ ∃ j, j < n ∧ e.blends tb clip left top j = true ∧
      w = (e.keyOf left top j, blend (pixelAt m (e.keyOf left top j)).target ink (tb.coverage e j)) := by
  simp only [glyphWrites, List.mem_map, List.mem_filter, List.mem_range, and_assoc, eq_comm]

theorem glyphWrites_rowOrder (hpage : clip.onPage) (m : List (Nat × PixelRec)) (n : Nat) :
    RowOrder (glyphWrites tb clip ink e left top m n) := by
  refine List.pairwise_map.mpr (List.pairwise_filter.mpr ?_)
  exact List.pairwise_lt_range.imp fun h ha hb => keyOf_lt hpage h ha hb

/-- The writes made before bitmap value `n` leave its pixel. -/
theorem pixelAt_before (hpage : clip.onPage) (m : List (Nat × PixelRec)) {n : Nat}
    (hn : e.blends tb clip left top n = true) :
    pixelAt (writeTargets m (glyphWrites tb clip ink e left top m n)) (e.keyOf left top n) =
      pixelAt m (e.keyOf left top n) := by
  refine pixelAt_writeTargets_other _ _ _ fun w hw => ?_
  obtain ⟨j, hj, hb, rfl⟩ := mem_glyphWrites.mp hw
  exact (keyOf_lt hpage hj hb hn).ne

/-- A placed glyph makes its writes behind those of the run so far, and nothing else (R43, R44, R49). -/
theorem Run.blendGlyph_eq (hpage : clip.onPage) (r : Run) : r.blendGlyph tb clip ink e left top = { r with
    pixels := writeTargets r.pixels (glyphWrites tb clip ink e left top r.pixels (e.width * e.height))
    writes := r.writes ++ glyphWrites tb clip ink e left top r.pixels (e.width * e.height) } := by
  unfold Run.blendGlyph
  generalize e.width * e.height = size
  induction size with
  | zero => simp [glyphWrites, writeTargets]
  | succ n ih =>
    rw [List.range_succ, List.foldl_append, ih, List.foldl_cons, List.foldl_nil]
    by_cases hb : e.blends tb clip left top n = true
    · have hlast : glyphWrites tb clip ink e left top r.pixels (n + 1) =
          glyphWrites tb clip ink e left top r.pixels n ++
            [(e.keyOf left top n, blend (pixelAt r.pixels (e.keyOf left top n)).target ink (tb.coverage e n))] := by
        simp [glyphWrites, List.range_succ, hb]
      obtain ⟨hcov, hclip⟩ := blends_iff.mp hb
      show Run.blendAt _ clip ink (tb.coverage e n) (e.columnOf left n) (e.rowOf top n) = _
      rw [Run.blendAt_acts _ ink hcov hclip]
      dsimp only
      rw [← Entry.keyOf, hlast, writeTargets_append, pixelAt_before hpage r.pixels hb, List.append_assoc]
      rfl
    · have hlast : glyphWrites tb clip ink e left top r.pixels (n + 1) =
          glyphWrites tb clip ink e left top r.pixels n := by
        simp [glyphWrites, List.range_succ, hb]
      show Run.blendAt _ clip ink (tb.coverage e n) (e.columnOf left n) (e.rowOf top n) = _
      rw [Run.blendAt_idle _ ink fun hcov hclip => hb (blends_iff.mpr ⟨hcov, hclip⟩), hlast]

theorem glyphWrites_on (hpage : clip.onPage) (m : List (Nat × PixelRec)) :
    WritesOn (glyphWrites tb clip ink e left top m (e.width * e.height)) fun x y =>
      e.under left top x y ∧ clip.has x y = true ∧ 0 < tb.coverage e (e.indexOf left top x y) := by
  intro k
  constructor
  · rintro ⟨tone, hw⟩
    obtain ⟨n, hn, hb, he⟩ := mem_glyphWrites.mp hw
    obtain ⟨hcov, hclip⟩ := blends_iff.mp hb
    obtain ⟨hleft, hright, htop⟩ := hpage _ _ hclip
    have hx := Int.toNat_of_nonneg hleft
    have hy := Int.toNat_of_nonneg htop
    obtain ⟨hunder, hindex⟩ := under_iff.mpr ⟨hn, hx, hy⟩
    refine ⟨_, _, by omega, (Prod.mk.inj he).1, hunder, ?_, ?_⟩
    · rw [hx, hy]; exact hclip
    · rw [hindex]; exact hcov
  · rintro ⟨x, y, hx, rfl, hunder, hclip, hcov⟩
    obtain ⟨hn, hcol, hrow⟩ := under_iff.mp ⟨hunder, rfl⟩
    have hb : e.blends tb clip left top (e.indexOf left top x y) = true :=
      blends_iff.mpr ⟨hcov, by rw [← hcol, ← hrow]; exact hclip⟩
    have hkey := (keyOf_eq_pixelKey hpage hb hx).mpr ⟨hcol, hrow⟩
    exact ⟨_, by rw [← hkey]; exact mem_glyphWrites.mpr ⟨_, hn, hb, rfl⟩⟩

/-- What a placed glyph leaves at one pixel. -/
theorem pixelAt_glyphWrites (hpage : clip.onPage) (m : List (Nat × PixelRec)) {x y : Nat} (hx : x < 8192)
    (hc : e.under left top x y ∧ clip.has x y = true ∧ 0 < tb.coverage e (e.indexOf left top x y)) :
    pixelAt (writeTargets m (glyphWrites tb clip ink e left top m (e.width * e.height))) (pixelKey x y) =
      { pixelAt m (pixelKey x y) with
        target := blend (pixelAt m (pixelKey x y)).target ink (tb.coverage e (e.indexOf left top x y)) } := by
  obtain ⟨tone, hw⟩ := (glyphWrites_on (ink := ink) hpage m (pixelKey x y)).mpr ⟨x, y, hx, rfl, hc⟩
  refine pixelAt_writeTargets_same _ _ _ _ ⟨_, hw, rfl⟩ fun w hmem hkey => ?_
  obtain ⟨n, hn, hb, rfl⟩ := mem_glyphWrites.mp hmem
  obtain ⟨hcol, hrow⟩ := (keyOf_eq_pixelKey hpage hb hx).mp hkey
  obtain ⟨-, hindex⟩ := under_iff.mpr ⟨hn, hcol, hrow⟩
  dsimp only at hkey ⊢
  rw [hkey, hindex]

theorem pixelAt_glyphWrites_other (hpage : clip.onPage) (m : List (Nat × PixelRec)) {x y : Nat} (hx : x < 8192)
    (hc : ¬ (e.under left top x y ∧ clip.has x y = true ∧ 0 < tb.coverage e (e.indexOf left top x y))) :
    pixelAt (writeTargets m (glyphWrites tb clip ink e left top m (e.width * e.height))) (pixelKey x y) =
      pixelAt m (pixelKey x y) := by
  refine pixelAt_writeTargets_other _ _ _ fun w hmem hkey => hc ?_
  obtain ⟨x', y', hx', hsame, hc'⟩ :=
    (glyphWrites_on (ink := ink) hpage m (pixelKey x y)).mp ⟨w.2, by rw [← hkey]; exact hmem⟩
  obtain ⟨rfl, rfl⟩ := (pixelKey_inj hx hx').mp hsame
  exact hc'

end Placed

/-- Settles O14: `Run.blendGlyph_eq` gives the writes, of which each pixel has at most one. -/
theorem glyphBlendsCoverage : Obligations.GlyphBlendsCoverage := by
  refine ⟨fun tb clip ink e left top r x y hpage hx => ?_, fun tb clip ink e left top r hpage => ?_,
    leftColumn_nearest, fun b t c hc => blend_nearest b t hc⟩
  · intro old c
    rw [Run.blendGlyph_eq hpage]
    split
    · rename_i hc
      obtain ⟨hl, hr, ht, hb, hclip, hcov⟩ := hc
      exact pixelAt_glyphWrites hpage r.pixels hx ⟨⟨hl, hr, ht, hb⟩, hclip, hcov⟩
    · rename_i hc
      refine pixelAt_glyphWrites_other hpage r.pixels hx ?_
      rintro ⟨⟨hl, hr, ht, hb⟩, hclip, hcov⟩
      exact hc ⟨hl, hr, ht, hb, hclip, hcov⟩
  · have hblend := Run.blendGlyph_eq (tb := tb) (ink := ink) (e := e) (left := left) (top := top) hpage r
    refine ⟨_, congrArg Run.writes hblend, congrArg Run.pixels hblend, glyphWrites_rowOrder hpage _ _, fun k => ?_⟩
    rw [glyphWrites_on hpage r.pixels k]
    simp only [Entry.under, Entry.indexOf, and_assoc]

end Sys2Proof.Machine
end

section
/-! SUPPORT. The record bodies of 10.4 and R29, read back from the bytes that write them (R171). -/

namespace Sys2Proof.Machine

/-! ### Fields read back (R171) -/

theorem unsigned_lt {m : Nat} (h : 0 < m) (z : Int) : unsigned m z < m := by
  have := Int.emod_lt_of_pos z (Int.natCast_pos.mpr h)
  have := Int.emod_nonneg z (Int.natCast_pos.mpr h).ne'
  unfold unsigned; omega

theorem s16_be16 {z : Int} (h : -32768 ≤ z) (h' : z ≤ 32767) : s16 (be16 (unsigned 65536 z)) 0 = z := by
  rw [s16, u16_be16 (unsigned_lt (by decide) z)]
  unfold signed unsigned
  split <;> omega

theorem s32_be32 {z : Int} (h : -2147483648 ≤ z) (h' : z ≤ 2147483647) :
    s32 (be32 (unsigned 4294967296 z)) 0 = z := by
  rw [s32, u32_be32 (unsigned_lt (by decide) z)]
  unfold signed unsigned
  split <;> omega

theorem toneClamp_val (t : Tone) : Tone.clamp t.val = t := by
  refine Fin.ext ?_
  have := t.isLt
  show min t.val 15 = t.val
  omega

theorem clampNat_of_mem {lo hi n : Nat} (h : lo ≤ n) (h' : n ≤ hi) : clampNat lo hi n = n := by
  rw [clampNat_eq (by omega)]; omega

/-- A bit as one byte: it is read back as 1 where it is set. -/
theorem bit_eq_one (c : Bool) : decide ((if c then 1 else 0 : Nat) = 1) = c := by cases c <;> rfl

theorem bit_le_one (c : Bool) : (if c then 1 else 0 : Nat) ≤ 1 := by cases c <;> decide

/-! ### Items of a list behind a header -/

/-- The first `n` bytes of `c` stand in `b` from byte `i` on. -/
def StandsAt (b : Bytes) (i : Nat) (c : Bytes) (n : Nat) : Prop := ∀ k, k < n → u8 b (i + k) = u8 c k

theorem StandsAt.u24 {b c : Bytes} {i n : Nat} (h : StandsAt b i c n) (hn : 3 ≤ n) : u24 b i = u24 c 0 := by
  unfold Machine.u24 u16
  rw [h 1 (by omega), h 2 (by omega), ← h 0 (by omega)]; rfl

theorem StandsAt.u16 {b c : Bytes} {i n : Nat} (h : StandsAt b i c n) {k : Nat} (hk : k + 1 < n) :
    u16 b (i + k) = u16 c k := by
  unfold Machine.u16
  rw [Nat.add_assoc, h k (by omega), h (k + 1) hk]

theorem StandsAt.rectAt {b c : Bytes} {i n : Nat} (h : StandsAt b i c n) (hn : 8 ≤ n) : rectAt b i = rectAt c 0 := by
  have h0 : Machine.u16 b i = Machine.u16 c 0 := h.u16 (k := 0) (by omega)
  unfold Machine.rectAt s16
  rw [h0, h.u16 (by omega), h.u16 (by omega), h.u16 (by omega)]

/-- Item `j` of a list that stands behind a header. -/
theorem standsAt_item {α : Type} {front : Bytes} {i : Nat} (hi : front.length = i) {f : α → Bytes} {n : Nat}
    (hf : ∀ x, (f x).length = n) {l : List α} {j : Nat} {x : α} (hx : l[j]? = some x) :
    StandsAt (front ++ l.flatMap f) (i + n * j) (f x) n := fun k hk => by
  have hget := getElem?_flatMap_of hf hx hk
  rw [Nat.add_assoc, u8_behind hi, u8, u8, List.getD_eq_getElem?_getD, List.getD_eq_getElem?_getD, hget]

/-- The items of a list that stands behind a header, each read back as it was. -/
theorem items_eq {α : Type} {l : List α} {read : Nat → α} (h : ∀ j x, l[j]? = some x → read j = x) :
    (List.range l.length).map read = l := by
  refine List.ext_getElem (by simp) fun j hj hl => ?_
  rw [List.getElem_map, List.getElem_range]
  exact h j _ (List.getElem?_eq_getElem hl)

/-! ### TEXT and HILITE (R35, R62) -/

theorem rectAt_encodeRect {r : Rect} (h : r.onWire) : rectAt (encodeRect r) 0 = r := by
  obtain ⟨hxl, hxr, hyl, hyr, hw, hh⟩ := h
  have hx : s16 (encodeRect r) 0 = r.x := s16_be16 hxl hxr
  have hy : s16 (encodeRect r) 2 = r.y := s16_be16 hyl hyr
  have hw : u16 (encodeRect r) 4 = r.w := u16_be16 (by omega)
  have hh : u16 (encodeRect r) 6 = r.h := u16_be16 (by omega)
  unfold rectAt
  rw [hx, hy, hw, hh]

/-- The fifteen bytes of a TEXT before its codes. -/
def textHeader (x : TextRec) : Bytes :=
  be8 x.slot ++ be8 (if x.continued then 1 else 0) ++ be32 (unsigned 4294967296 x.penX) ++
    be16 (unsigned 65536 x.baseline) ++ be8 x.ink.val ++ be8 (if x.kern then 1 else 0) ++
    be32 (unsigned 4294967296 x.track) ++ be8 x.codes.length

theorem encodeText_eq (x : TextRec) : encodeText x = textHeader x ++ x.codes.flatMap be24 := rfl

theorem codesAt_encodeText {x : TextRec} (h : ∀ c ∈ x.codes, c ≤ 0x10FFFF) :
    codesAt (encodeText x) 15 x.codes.length = x.codes := by
  refine items_eq fun j c hc => ?_
  have hle := h c (List.mem_of_getElem? hc)
  have hstands : StandsAt (encodeText x) (15 + 3 * j) (be24 c) 3 :=
    standsAt_item (front := textHeader x) rfl (f := be24) (n := 3) (fun _ => rfl) hc
  rw [hstands.u24 le_rfl]
  exact u24_be24 (by omega)

theorem parseText_encodeText {x : TextRec} (hslot : x.slot ≤ 7) (hpl : -2147483648 ≤ x.penX)
    (hpr : x.penX ≤ 2147483647) (hstart : x.continued = false → -8192 ≤ x.penX ∧ x.penX ≤ 65535)
    (hbl : -256 ≤ x.baseline) (hbr : x.baseline ≤ 2047) (htl : -64 ≤ x.track) (htr : x.track ≤ 63)
    (hone : 1 ≤ x.codes.length) (hmany : x.codes.length ≤ 250) (hcodes : ∀ c ∈ x.codes, c ≤ 0x10FFFF) :
    parseText (encodeText x) = .ok x := by
  have hcont := bit_le_one x.continued
  have hkern := bit_le_one x.kern
  have h0 : u8 (encodeText x) 0 = x.slot := byte_toNat (by omega)
  have h1 : u8 (encodeText x) 1 = if x.continued then 1 else 0 := byte_toNat (by omega)
  have h2 : s32 (encodeText x) 2 = x.penX := s32_be32 hpl hpr
  have h6 : s16 (encodeText x) 6 = x.baseline := s16_be16 (by omega) (by omega)
  have h8 : u8 (encodeText x) 8 = x.ink.val := byte_toNat (by omega)
  have h9 : u8 (encodeText x) 9 = if x.kern then 1 else 0 := byte_toNat (by omega)
  have h10 : s32 (encodeText x) 10 = x.track := s32_be32 (by omega) (by omega)
  have h14 : u8 (encodeText x) 14 = x.codes.length := byte_toNat (by omega)
  have hcodesAt := codesAt_encodeText hcodes
  have hlength : (encodeText x).length = 15 + 3 * x.codes.length := by
    rw [encodeText_eq, List.length_append, length_flatMap_of (n := 3) fun _ => rfl]; rfl
  have whole : TextWhole (encodeText x) := by
    unfold TextWhole
    rw [h14, hlength]
    omega
  have fields : TextFields (encodeText x) := by
    unfold TextFields
    rw [h0, h1, h2, h6, h9, h14, hcodesAt]
    refine ⟨hslot, hcont, hkern, hbl, hbr, fun hzero => hstart ?_, hcodes⟩
    cases hc : x.continued with
    | false => rfl
    | true => rw [hc] at hzero; cases hzero
  rw [parseText_ok whole fields]
  unfold textOf
  rw [h0, h1, h2, h6, h8, h9, h10, h14, hcodesAt, toneClamp_val, bit_eq_one, bit_eq_one,
    show max (-64) (min 63 x.track) = x.track by omega]

theorem parseHilite_encodeHilite {h : HiliteRec} (hstyle : h.style ≤ 15) (hone : 1 ≤ h.rects.length)
    (hmany : h.rects.length ≤ 32) (hwire : ∀ r ∈ h.rects, Rect.onWire r) :
    parseHilite (encodeHilite h) = .ok h := by
  have h0 : u8 (encodeHilite h) 0 = h.style := byte_toNat (by omega)
  have h1 : u8 (encodeHilite h) 1 = h.rects.length := byte_toNat (by omega)
  have hlength : (encodeHilite h).length = 2 + 8 * h.rects.length := by
    rw [encodeHilite, List.length_append, length_flatMap_of (n := 8) fun _ => rfl]; rfl
  have hrects : (List.range h.rects.length).map (fun j => rectAt (encodeHilite h) (2 + 8 * j)) = h.rects := by
    refine items_eq fun j r hr => ?_
    have hstands : StandsAt (encodeHilite h) (2 + 8 * j) (encodeRect r) 8 :=
      standsAt_item (front := be8 h.style ++ be8 h.rects.length) rfl (f := encodeRect) (n := 8) (fun _ => rfl) hr
    rw [hstands.rectAt le_rfl]
    exact rectAt_encodeRect (hwire r (List.mem_of_getElem? hr))
  unfold parseHilite
  dsimp only
  rw [h0, h1, hlength, hrects, if_neg (by omega), if_neg (by omega)]

/-! ### UPDATE (R109) -/

/-- 1 for a mode of the list, 0 for any other. -/
def modeBit (ms : List Mode) (m : Mode) : Nat := if m ∈ ms then 1 else 0

theorem modeBit_le (ms : List Mode) (m : Mode) : modeBit ms m ≤ 1 := by unfold modeBit; split <;> decide

theorem modeBit_eq_one {ms : List Mode} {m : Mode} : modeBit ms m = 1 ↔ m ∈ ms := by simp [modeBit]

theorem modeSetByte_eq (ms : List Mode) : modeSetByte ms = modeBit ms .clean + 2 * modeBit ms .tone16 +
    4 * modeBit ms .tone4 + 8 * modeBit ms .bilevel + 16 * modeBit ms .stroke := by
  have hbit : ∀ m : Mode, (if m ∈ ms then 2 ^ m.code else 0) = 2 ^ m.code * modeBit ms m := by simp [modeBit]
  simp only [modeSetByte, Mode.all, List.map_cons, List.map_nil, List.sum_cons, List.sum_nil, hbit]
  dsimp only [Mode.code]
  omega

/-- The allowed-set byte has bit k for mode code k (R171). -/
theorem modeSetByte_bits (ms : List Mode) : modeSetByte ms < 32 ∧
    ∀ m, modeSetByte ms / 2 ^ m.code % 2 = 1 ↔ m ∈ ms := by
  have h0 := modeBit_le ms .clean
  have h1 := modeBit_le ms .tone16
  have h2 := modeBit_le ms .tone4
  have h3 := modeBit_le ms .bilevel
  have h4 := modeBit_le ms .stroke
  rw [modeSetByte_eq]
  refine ⟨by omega, fun m => ?_⟩
  rw [← modeBit_eq_one]
  cases m <;> dsimp only [Mode.code] <;> omega

theorem modesOf_modeSetByte (ms : List Mode) : modesOf (modeSetByte ms) = Mode.all.filter fun m => m ∈ ms := by
  unfold modesOf
  exact List.filter_congr fun m _ => decide_eq_decide.mpr ((modeSetByte_bits ms).2 m)

theorem parseUpdate_encodeUpdate {u : UpdateRec} (hwire : Rect.onWire u.rect) (hne : u.allowed ≠ [])
    (hall : u.allowed = Mode.all.filter fun m => m ∈ u.allowed) : parseUpdate (encodeUpdate u) = .ok u := by
  obtain ⟨hlt, hbits⟩ := modeSetByte_bits u.allowed
  have hskip := bit_le_one u.skip
  have hflags : (if u.promote then 1 else 0) + (if u.notify then 2 else 0) ≤ 3 ∧
      decide (((if u.promote then 1 else 0) + (if u.notify then 2 else 0)) % 2 = 1) = u.promote ∧
      decide (((if u.promote then 1 else 0) + (if u.notify then 2 else 0)) / 2 % 2 = 1) = u.notify := by
    cases u.promote <;> cases u.notify <;> decide
  obtain ⟨hthree, hpromote, hnotify⟩ := hflags
  have h9 : u8 (encodeUpdate u) 9 = modeSetByte u.allowed := byte_toNat (by omega)
  have h10 : u8 (encodeUpdate u) 10 = if u.skip then 1 else 0 := byte_toNat (by omega)
  have h11 : u8 (encodeUpdate u) 11 = (if u.promote then 1 else 0) + (if u.notify then 2 else 0) :=
    byte_toNat (by omega)
  have hrect : rectAt (encodeUpdate u) 1 = u.rect := rectAt_encodeRect hwire
  have htag : (encodeUpdate u).getD 0 0 = u.tag := rfl
  have hlength : (encodeUpdate u).length = 12 := rfl
  have hpos : modeSetByte u.allowed ≠ 0 := fun h => hne (List.eq_nil_iff_forall_not_mem.mpr fun m hm => by
    have := (hbits m).mpr hm
    simp [h] at this)
  unfold parseUpdate
  rw [h9, h10, h11, hrect, htag, modesOf_modeSetByte, ← hall, bit_eq_one, hpromote, hnotify,
    if_neg (not_not.mpr hlength), if_neg (by omega), if_neg (by omega), if_neg (by omega)]

/-! ### PANELSET and STYLESET (R6, R29) -/

theorem parsePanelset_encodePanelset {p : Panel} (h : PanelLegal p) : parsePanelset (encodePanelset p) = .ok p := by
  obtain ⟨⟨hx, hx8⟩, ⟨hwl, hwr, hw8⟩, ⟨hhl, hhr⟩, ⟨hfl, hfr⟩, ⟨hrl, hrr⟩, hhold, ⟨hdl, hdr⟩, haddr, ⟨hsl, hsr⟩,
    ⟨htl, htr⟩⟩ := h
  have hlength : (encodePanelset p).length = 16 := rfl
  have h0 : u16 (encodePanelset p) 0 = p.x0 := u16_be16 (by omega)
  have h2 : u16 (encodePanelset p) 2 = p.w := u16_be16 (by omega)
  have h4 : u16 (encodePanelset p) 4 = p.h := u16_be16 (by omega)
  have h6 : u16 (encodePanelset p) 6 = p.framePeriod := u16_be16 (by omega)
  have h8 : u8 (encodePanelset p) 8 = p.riseLimit := byte_toNat (by omega)
  have h9 : u16 (encodePanelset p) 9 = p.holdTime := u16_be16 (by omega)
  have h11 : u8 (encodePanelset p) 11 = p.fallTime := byte_toNat (by omega)
  have h12 : u8 (encodePanelset p) 12 = p.sensorAddress := byte_toNat (by omega)
  have h13 : u16 (encodePanelset p) 13 = p.sampleInterval := u16_be16 (by omega)
  have h15 : u8 (encodePanelset p) 15 = p.residueThreshold := byte_toNat (by omega)
  unfold parsePanelset
  rw [h0, h2, h4, h6, h8, h9, h11, h12, h13, h15, if_neg (not_not.mpr hlength), if_neg (by omega),
    clampNat_of_mem hfl hfr, clampNat_of_mem hrl hrr, clampNat_of_mem (Nat.zero_le _) hhold, clampNat_of_mem hdl hdr,
    Nat.mod_eq_of_lt haddr, clampNat_of_mem hsl hsr, clampNat_of_mem htl htr]

theorem parseStyleset_encodeStyle {n : Nat} {st : Style} (hn : n ≤ 15) (hl : 1 ≤ st.thickness) (hr : st.thickness ≤ 4) :
    parseStyleset (be8 n ++ encodeStyle st) = .ok (n, st) := by
  have hkind : st.edgeKind.code ≤ 2 ∧ (if st.edgeKind.code = 0 then EdgeKind.none
      else if st.edgeKind.code = 1 then .underline else .box) = st.edgeKind := by
    cases st.edgeKind <;> decide
  have hpattern : st.pattern.code ≤ 1 ∧ (if st.pattern.code = 0 then EdgePattern.solid else .dotted) = st.pattern := by
    cases st.pattern <;> decide
  have hlength : (be8 n ++ encodeStyle st).length = 6 := rfl
  have h0 : u8 (be8 n ++ encodeStyle st) 0 = n := byte_toNat (by omega)
  have h1 : u8 (be8 n ++ encodeStyle st) 1 = st.fill.val := byte_toNat (by omega)
  have h2 : u8 (be8 n ++ encodeStyle st) 2 = st.edgeKind.code := byte_toNat (by omega)
  have h3 : u8 (be8 n ++ encodeStyle st) 3 = st.pattern.code := byte_toNat (by omega)
  have h4 : u8 (be8 n ++ encodeStyle st) 4 = st.edgeTone.val := byte_toNat (by omega)
  have h5 : u8 (be8 n ++ encodeStyle st) 5 = st.thickness := byte_toNat (by omega)
  unfold parseStyleset
  rw [h0, h1, h2, h3, h4, h5, if_neg (not_not.mpr hlength), if_neg (by omega), hkind.2, hpattern.2, toneClamp_val,
    toneClamp_val, clampNat_of_mem hl hr]

/-- Settles O52: each body's fields are read back one by one. -/
theorem recordBodiesRoundTrip : Obligations.RecordBodiesRoundTrip :=
  ⟨fun _ => parseText_encodeText, fun _ => parseHilite_encodeHilite, fun _ => parseUpdate_encodeUpdate,
    fun _ => parsePanelset_encodePanelset, fun _ _ => parseStyleset_encodeStyle⟩

end Sys2Proof.Machine
end

section
/-! SUPPORT. The pixels of a rectangle on the page as keys in row order (R39), and target writes made of a list of keys
(R3, R58). -/

namespace Sys2Proof.Machine

/-! ### Keys of a rectangle -/

theorem Rect.has_iff (r : Rect) (x y : Int) :
    r.has x y = true ↔ r.x ≤ x ∧ x < r.x + r.w ∧ r.y ≤ y ∧ y < r.y + r.h := by
  simp only [Rect.has, Bool.and_eq_true, decide_eq_true_eq, and_assoc]

theorem keyX_lt (k : Nat) : keyX k < 8192 := Nat.mod_lt k (by decide)

theorem pixelKey_keyX_keyY (k : Nat) : pixelKey (keyX k) (keyY k) = k := by
  unfold pixelKey keyX keyY; omega

theorem Rect.inter_onPage {clip : Rect} (h : clip.onPage) (r : Rect) : (Rect.inter r clip).onPage := by
  intro x y hxy
  rw [Rect.has_inter, Bool.and_eq_true] at hxy
  exact h x y hxy.2

/-- Key order is row order: the keys of a rectangle on the page rise, so none stands twice. -/
theorem Rect.keys_ascending {r : Rect} (h : r.onPage) : r.keys.Pairwise (· < ·) := by
  refine List.pairwise_flatMap.mpr ⟨fun j _ => ?sameRow, List.pairwise_lt_range.imp_of_mem ?laterRow⟩
  case sameRow =>
    refine List.pairwise_map.mpr (List.pairwise_lt_range.imp fun hlt => ?_)
    unfold pixelKey; omega
  case laterRow =>
    intro j j' hj _ hlt a ha b hb
    obtain ⟨i, hi, rfl⟩ := List.mem_map.mp ha
    obtain ⟨i', hi', rfl⟩ := List.mem_map.mp hb
    rw [List.mem_range] at hj hi hi'
    have hcorner := h r.x r.y ((r.has_iff _ _).mpr (by omega))
    have hpixel := h (r.x + i) r.y ((r.has_iff _ _).mpr (by omega))
    unfold pixelKey; omega

/-- The pixels of a rectangle in a clip on the page. -/
theorem mem_inter_keys {clip : Rect} (h : clip.onPage) (r : Rect) {x y : Nat} (hx : x < 8192) :
    pixelKey x y ∈ (Rect.inter r clip).keys ↔ r.has x y = true ∧ clip.has x y = true := by
  rw [Rect.mem_keys (Rect.inter_onPage h r), Rect.hasKey, keyX_pixelKey x y hx, keyY_pixelKey x y hx, Rect.has_inter,
    Bool.and_eq_true]

/-! ### One write for each key of a list -/

theorem rowOrder_map {ks : List Nat} (h : ks.Pairwise (· < ·)) (tone : Nat → Tone) :
    RowOrder (ks.map fun k => (k, tone k)) := List.pairwise_map.mpr h

theorem writesOn_map {ks : List Nat} {p : Nat → Nat → Prop}
    (h : ∀ x y, x < 8192 → (pixelKey x y ∈ ks ↔ p x y)) (tone : Nat → Tone) :
    WritesOn (ks.map fun k => (k, tone k)) p := by
  intro k
  have hmem : (∃ t, (k, t) ∈ ks.map fun k => (k, tone k)) ↔ k ∈ ks := by simp
  rw [hmem]
  constructor
  · intro hk
    have hpixel := h (keyX k) (keyY k) (keyX_lt k)
    rw [pixelKey_keyX_keyY] at hpixel
    exact ⟨_, _, keyX_lt k, (pixelKey_keyX_keyY k).symm, hpixel.mp hk⟩
  · rintro ⟨x, y, hx, rfl, hp⟩
    exact (h x y hx).mpr hp

/-- A pixel named in the list, once or more, ends at its tone; every other pixel stays. -/
theorem pixelAt_writeTargets_map (ks : List Nat) (tone : Nat → Tone) (m : List (Nat × PixelRec)) (k : Nat) :
    pixelAt (writeTargets m (ks.map fun k => (k, tone k))) k =
      if k ∈ ks then { pixelAt m k with target := tone k } else pixelAt m k := by
  split
  · rename_i hk
    refine pixelAt_writeTargets_same _ _ _ _ ⟨_, List.mem_map_of_mem hk, rfl⟩ fun w hw he => ?_
    obtain ⟨j, -, rfl⟩ := List.mem_map.mp hw
    exact congrArg tone he
  · rename_i hk
    refine pixelAt_writeTargets_other _ _ _ fun w hw he => hk ?_
    obtain ⟨j, hj, rfl⟩ := List.mem_map.mp hw
    exact he ▸ hj

/-- Reading from the list as the writes leave it so far is reading from the list they began with, where no write
changes what a later one reads. -/
theorem foldl_inPlace (tone : List (Nat × PixelRec) → Nat → Tone) {ks : List Nat}
    (h : ks.Pairwise fun j k => ∀ m t, tone (writeTarget m j t) k = tone m k) (m : List (Nat × PixelRec)) :
    ks.foldl (fun m k => writeTarget m k (tone m k)) m = writeTargets m (ks.map fun k => (k, tone m k)) := by
  induction ks generalizing m with
  | nil => rfl
  | cons k ks ih =>
    obtain ⟨hhead, htail⟩ := List.pairwise_cons.mp h
    have hsame : (ks.map fun j => (j, tone (writeTarget m k (tone m k)) j)) = ks.map fun j => (j, tone m j) :=
      List.map_congr_left fun j hj => by rw [hhead j hj]
    rw [List.foldl_cons, ih htail, hsame]
    rfl

/-! ### A draw record that writes, taken from the intake head -/

/-- `s` once the head record has left the queue and its target writes are to come (R55). -/
def drawn (s : State) (rest : List Record) (kind : DrawKind) (writes : List (Nat × Tone)) : State :=
  { taken s rest with comp := { s.comp with draw := some (.writing kind writes) } }

/-- `s` once the head record has left the queue and its target writes are made. -/
def painted (s : State) (rest : List Record) (writes : List (Nat × Tone)) : State :=
  { taken s rest with store := { s.store with pixels := writeTargets s.store.pixels writes } }

/-- DRAW_END of a record that is no TEXT changes nothing but the targets (R3, R55). -/
theorem drawn_drawEnd {s : State} (hw : s.drawWaits = false) (rest : List Record) {kind : DrawKind}
    (hkind : kind = .fill ∨ kind = .copy ∨ kind = .hilite) (writes : List (Nat × Tone)) :
    exec .drawEnd (drawn s rest kind writes) = .next (painted s rest writes) := by
  obtain ⟨hdraw, -⟩ := drawWaits_eq_false.mp hw
  have hcomp : s.comp = { s.comp with draw := none } := by rw [← hdraw]
  rw [drawEnd_eq (s := drawn s rest kind writes) rfl, painted, taken, hcomp]
  rcases hkind with rfl | rfl | rfl <;> rfl

end Sys2Proof.Machine
end

section
/-! SUPPORT. FILL (R57, R58), and COPY with its walk (R59, R60). -/

namespace Sys2Proof.Machine

open Host (Outcome)

/-! ### FILL -/

theorem fill_exec {s : State} {body : Bytes} {rest : List Record} (hd : Dispatches s .fill body rest)
    (hw : s.drawWaits = false) (hl : body.length = 9) : exec .fill s = .next (drawn s rest .fill
      (fillWrites s.comp.clip (rectAt body 0) (Tone.clamp (u8 body 8)))) := by
  have hparse : parseFill body = .ok (rectAt body 0, Tone.clamp (u8 body 8)) := if_neg (not_not.mpr hl)
  show Outcome.next _ = _
  rw [withDraw_of_dispatches hd hw, hparse, pop_eq_taken hd]
  rfl

/-- Settles O8: a FILL writes the keys of its rectangle in the clip. -/
theorem fillPaintsRectangle : Obligations.FillPaintsRectangle := by
  intro s body rest hd hw
  refine ⟨fun hl => withDraw_refuses hd hw (by rw [parseFill, if_pos hl]), fun hl hpage => ?_⟩
  have hmem := fun x y (hx : x < 8192) => mem_inter_keys hpage (rectAt body 0) (y := y) hx
  refine ⟨rowOrder_map (Rect.keys_ascending (Rect.inter_onPage hpage _)) _, writesOn_map hmem _, _, _,
    fill_exec hd hw hl, rfl, drawn_drawEnd hw rest (.inl rfl) _, fun x y hx => ?_, rfl⟩
  refine (pixelAt_writeTargets_map _ _ _ _).trans ?_
  simp only [hmem x y hx]
  rfl

/-! ### The walk of a COPY (R60) -/

/-- The destination rectangle (R59). -/
def CopyRec.dest (c : CopyRec) : Rect := ⟨c.dx, c.dy, c.src.w, c.src.h⟩

/-- The column of the source pixel that the pixel of a key copies. -/
def CopyRec.sourceX (c : CopyRec) (k : Nat) : Int := c.src.x + (keyX k - c.dx)

/-- The row of the source pixel that the pixel of a key copies. -/
def CopyRec.sourceY (c : CopyRec) (k : Nat) : Int := c.src.y + (keyY k - c.dy)

theorem CopyRec.toneAt_eq (c : CopyRec) (window : Rect) (m : List (Nat × PixelRec)) (k : Nat) :
    c.toneAt window m k = if window.has (c.sourceX k) (c.sourceY k) = true then
      (pixelAt m (pixelKey (c.sourceX k).toNat (c.sourceY k).toNat)).target else 15 := rfl

theorem CopyRec.rowOrder_iff (c : CopyRec) :
    c.rowOrder = true ↔ c.dy < c.src.y ∨ c.dy = c.src.y ∧ c.dx ≤ c.src.x := by
  simp only [CopyRec.rowOrder, Bool.or_eq_true, Bool.and_eq_true, decide_eq_true_eq]

variable {c : CopyRec} {clip window : Rect}

theorem CopyRec.walk_forward (h : c.rowOrder = true) : c.walk clip = (Rect.inter c.dest clip).keys := if_pos h

theorem CopyRec.walk_backward (h : ¬ c.rowOrder = true) : c.walk clip = (Rect.inter c.dest clip).keys.reverse :=
  if_neg h

theorem CopyRec.mem_walk {k : Nat} : k ∈ c.walk clip ↔ k ∈ (Rect.inter c.dest clip).keys := by
  by_cases h : c.rowOrder = true
  · rw [CopyRec.walk_forward h]
  · rw [CopyRec.walk_backward h, List.mem_reverse]

/-- Walking in row order, the source pixel is not behind the pixel it is copied to. -/
theorem CopyRec.le_sourceKey (hpage : window.onPage) (h : c.rowOrder = true) {k : Nat}
    (hin : window.has (c.sourceX k) (c.sourceY k) = true) :
    k ≤ pixelKey (c.sourceX k).toNat (c.sourceY k).toNat := by
  have hsource := hpage _ _ hin
  have hkey := pixelKey_keyX_keyY k
  have hcol := keyX_lt k
  rw [CopyRec.rowOrder_iff] at h
  unfold CopyRec.sourceX CopyRec.sourceY pixelKey at *
  omega

/-- Walking in reverse row order, the source pixel is still to be walked. -/
theorem CopyRec.sourceKey_lt (hpage : window.onPage) (h : ¬ c.rowOrder = true) {k : Nat}
    (hin : window.has (c.sourceX k) (c.sourceY k) = true) :
    pixelKey (c.sourceX k).toNat (c.sourceY k).toNat < k := by
  have hsource := hpage _ _ hin
  have hkey := pixelKey_keyX_keyY k
  have hcol := keyX_lt k
  rw [CopyRec.rowOrder_iff] at h
  unfold CopyRec.sourceX CopyRec.sourceY pixelKey at *
  omega

/-- A write beside the source pixel leaves the tone a COPY reads. -/
theorem CopyRec.toneAt_writeTarget {j k : Nat} (h : window.has (c.sourceX k) (c.sourceY k) = true →
    j ≠ pixelKey (c.sourceX k).toNat (c.sourceY k).toNat) (m : List (Nat × PixelRec)) (t : Tone) :
    c.toneAt window (writeTarget m j t) k = c.toneAt window m k := by
  rw [CopyRec.toneAt_eq, CopyRec.toneAt_eq]
  split
  · rename_i hin
    rw [pixelAt_writeTarget, if_neg (h hin)]
  · rfl

/-- The walk of R60 writes no pixel before it has been read. -/
theorem CopyRec.walk_readsFirst (hclip : clip.onPage) (hpage : window.onPage) :
    (c.walk clip).Pairwise fun j k => ∀ m t, c.toneAt window (writeTarget m j t) k = c.toneAt window m k := by
  have hasc := Rect.keys_ascending (Rect.inter_onPage hclip c.dest)
  by_cases h : c.rowOrder = true
  · rw [CopyRec.walk_forward h]
    exact hasc.imp fun hlt => CopyRec.toneAt_writeTarget fun hin =>
      (hlt.trans_le (CopyRec.le_sourceKey hpage h hin)).ne
  · rw [CopyRec.walk_backward h, List.pairwise_reverse]
    exact hasc.imp fun hlt => CopyRec.toneAt_writeTarget fun hin =>
      ((CopyRec.sourceKey_lt hpage h hin).trans hlt).ne'

/-- Settles O10: every source pixel is read before the walk writes it. -/
theorem copyInPlaceWalkAgrees : Obligations.CopyInPlaceWalkAgrees := fun c _ window pixels hclip hpage =>
  foldl_inPlace (c.toneAt window) (CopyRec.walk_readsFirst hclip hpage) pixels

/-! ### COPY (R59) -/

theorem copy_exec {s : State} {body : Bytes} {rest : List Record} (hd : Dispatches s .copy body rest)
    (hw : s.drawWaits = false) (hl : body.length = 12) : exec .copy s = .next (drawn s rest .copy
      (copyWrites ⟨rectAt body 0, s16 body 8, s16 body 10⟩ s.comp.clip s.window s.store.pixels)) := by
  have hparse : parseCopy body = .ok ⟨rectAt body 0, s16 body 8, s16 body 10⟩ := if_neg (not_not.mpr hl)
  show Outcome.next _ = _
  rw [withDraw_of_dispatches hd hw, hparse, pop_eq_taken hd]
  rfl

theorem CopyRec.mem_walk_iff (hclip : clip.onPage) {x y : Nat} (hx : x < 8192) : pixelKey x y ∈ c.walk clip ↔
    c.dx ≤ x ∧ (x : Int) < c.dx + c.src.w ∧ c.dy ≤ y ∧ (y : Int) < c.dy + c.src.h ∧ clip.has x y = true := by
  rw [CopyRec.mem_walk, mem_inter_keys hclip c.dest hx, Rect.has_iff]
  simp only [CopyRec.dest, and_assoc]

/-- The order in which a COPY holds its writes (R60). -/
theorem copyWrites_order (hclip : clip.onPage) (m : List (Nat × PixelRec)) :
    (c.rowOrder = true → RowOrder (copyWrites c clip window m)) ∧
      (¬ c.rowOrder = true → RowOrder (copyWrites c clip window m).reverse) := by
  have hasc := Rect.keys_ascending (Rect.inter_onPage hclip c.dest)
  refine ⟨fun h => rowOrder_map ?_ _, fun h => ?_⟩
  · rw [CopyRec.walk_forward h]; exact hasc
  · rw [copyWrites, ← List.map_reverse, CopyRec.walk_backward h, List.reverse_reverse]
    exact rowOrder_map hasc _

/-- What the writes of a COPY leave at one pixel (R59). -/
theorem copyWrites_pixel (hclip : clip.onPage) (m : List (Nat × PixelRec)) {x y : Nat} (hx : x < 8192) :
    pixelAt (writeTargets m (copyWrites c clip window m)) (pixelKey x y) =
      if c.dx ≤ x ∧ (x : Int) < c.dx + c.src.w ∧ c.dy ≤ y ∧ (y : Int) < c.dy + c.src.h ∧ clip.has x y = true then
        { pixelAt m (pixelKey x y) with
          target := sourceTone window m (c.src.x + ((x : Int) - c.dx)) (c.src.y + ((y : Int) - c.dy)) }
      else pixelAt m (pixelKey x y) := by
  refine (pixelAt_writeTargets_map _ _ _ _).trans ?_
  rw [CopyRec.toneAt, keyX_pixelKey x y hx, keyY_pixelKey x y hx]
  exact if_congr (CopyRec.mem_walk_iff hclip hx) rfl rfl

/-- Settles O9: a COPY writes the keys of its destination in the clip, each with the tone read as it began. -/
theorem copyTakesOldTargets : Obligations.CopyTakesOldTargets := by
  intro s body rest hd hw
  refine ⟨fun hl => withDraw_refuses hd hw (by rw [parseCopy, if_pos hl]), fun hl hclip => ?_⟩
  intro src dx dy writes first
  have horder := CopyRec.rowOrder_iff ⟨src, dx, dy⟩
  obtain ⟨hforward, hbackward⟩ :=
    copyWrites_order (c := ⟨src, dx, dy⟩) (window := s.window) hclip s.store.pixels
  exact ⟨fun h => hforward (horder.mpr h), fun h => hbackward (mt horder.mp h),
    writesOn_map (fun x y hx => CopyRec.mem_walk_iff hclip hx) _, _, _, copy_exec hd hw hl, rfl,
    drawn_drawEnd hw rest (.inr (.inl rfl)) _, fun x y hx => copyWrites_pixel hclip s.store.pixels hx, rfl⟩

end Sys2Proof.Machine
end

section
/-! SUPPORT. HILITE: the union its body darkens, the edges of its rectangles, and its checks (R62 to R67). -/

namespace Sys2Proof.Machine

open Host (Outcome)

/-! ### The union of a HILITE's rectangles (R63) -/

theorem mem_insertKey {ks : List Nat} {k j : Nat} : j ∈ insertKey ks k ↔ j = k ∨ j ∈ ks := by
  induction ks with
  | nil => simp [insertKey]
  | cons k' rest ih =>
    unfold insertKey
    split
    · exact List.mem_cons
    · split
      · rename_i heq; simp [heq]
      · rw [List.mem_cons, ih, List.mem_cons]; exact or_left_comm

theorem insertKey_ascending {ks : List Nat} (h : ks.Pairwise (· < ·)) (k : Nat) :
    (insertKey ks k).Pairwise (· < ·) := by
  induction ks with
  | nil => simp [insertKey]
  | cons k' rest ih =>
    obtain ⟨hhead, htail⟩ := List.pairwise_cons.mp h
    unfold insertKey
    split
    · rename_i hlt
      refine List.pairwise_cons.mpr ⟨fun j hj => ?_, h⟩
      rcases List.mem_cons.mp hj with rfl | hj
      · exact hlt
      · exact hlt.trans (hhead j hj)
    · split
      · exact h
      · refine List.pairwise_cons.mpr ⟨fun j hj => ?_, ih htail⟩
        rcases mem_insertKey.mp hj with rfl | hj
        · omega
        · exact hhead j hj

theorem mem_foldl_insertKey {ks acc : List Nat} {j : Nat} : j ∈ ks.foldl insertKey acc ↔ j ∈ ks ∨ j ∈ acc := by
  induction ks generalizing acc with
  | nil => simp
  | cons k ks ih => rw [List.foldl_cons, ih, mem_insertKey, List.mem_cons, or_assoc, or_left_comm]

theorem foldl_insertKey_ascending (ks : List Nat) {acc : List Nat} (h : acc.Pairwise (· < ·)) :
    (ks.foldl insertKey acc).Pairwise (· < ·) :=
  List.foldlRecOn ks insertKey h fun _ hacc k _ => insertKey_ascending hacc k

/-- The keys of the union are those of all its rectangles, inserted one after another. -/
theorem unionKeys_eq (clip : Rect) (rects : List Rect) :
    unionKeys clip rects = (rects.flatMap fun r => (Rect.inter r clip).keys).foldl insertKey [] :=
  List.foldl_flatMap.symm

theorem unionKeys_ascending (clip : Rect) (rects : List Rect) : (unionKeys clip rects).Pairwise (· < ·) := by
  rw [unionKeys_eq]
  exact foldl_insertKey_ascending _ .nil

section Walks

variable {clip : Rect} (hclip : clip.onPage) (rects : List Rect) {x y : Nat} (hx : x < 8192)
include hclip hx

theorem mem_unionKeys : pixelKey x y ∈ unionKeys clip rects ↔
    (∃ r ∈ rects, r.has x y = true) ∧ clip.has x y = true := by
  rw [unionKeys_eq, mem_foldl_insertKey]
  simp only [List.mem_flatMap, mem_inter_keys hclip _ hx, List.not_mem_nil, or_false]
  exact ⟨fun ⟨r, hr, hin, hc⟩ => ⟨⟨r, hr, hin⟩, hc⟩, fun ⟨⟨r, hr, hin⟩, hc⟩ => ⟨r, hr, hin, hc⟩⟩

/-- What the body of a HILITE leaves at one pixel (R63). -/
theorem bodyWrites_pixel (fill : Tone) (m : List (Nat × PixelRec)) :
    pixelAt (writeTargets m (bodyWrites clip rects fill m)) (pixelKey x y) =
      if (∃ r ∈ rects, r.has x y = true) ∧ clip.has x y = true then
        { pixelAt m (pixelKey x y) with target := darken (pixelAt m (pixelKey x y)).target fill }
      else pixelAt m (pixelKey x y) :=
  (pixelAt_writeTargets_map _ _ _ _).trans (if_congr (mem_unionKeys hclip rects hx) rfl rfl)

end Walks

/-! ### The edges (R64 to R66) -/

/-- The pixel (x, y) is one that the edge of rectangle `r` writes (R65, R66). -/
abbrev Style.edge (st : Style) (r : Rect) (x y : Nat) : Prop :=
  r.has x y = true ∧
    ((st.edgeKind = .underline ∧ r.y + r.h - st.thickness ≤ y) ∨
      (st.edgeKind = .box ∧ (x < r.x + st.thickness ∨ r.x + r.w - st.thickness ≤ x ∨ y < r.y + st.thickness ∨
        r.y + r.h - st.thickness ≤ y))) ∧
    (st.pattern = .solid ∨ x / 2 % 2 = 0)

theorem onEdge_iff (kind : EdgeKind) (t : Nat) (r : Rect) (x y : Int) : onEdge kind t r x y = true ↔
    (kind = .underline ∧ r.y + r.h - t ≤ y) ∨
      (kind = .box ∧ (x < r.x + t ∨ r.x + r.w - t ≤ x ∨ y < r.y + t ∨ r.y + r.h - t ≤ y)) := by
  cases kind <;> simp [onEdge, or_assoc]

theorem inPattern_iff (p : EdgePattern) (x : Nat) : inPattern p x = true ↔ p = .solid ∨ x / 2 % 2 = 0 := by
  cases p <;> simp [inPattern]

/-- The keys of a rectangle's edge in the clip, in row order (R67). -/
def edgeKeys (clip : Rect) (st : Style) (r : Rect) : List Nat :=
  (Rect.inter r clip).keys.filter fun k =>
    onEdge st.edgeKind st.thickness r (keyX k) (keyY k) && inPattern st.pattern (keyX k)

theorem edgeWrites_eq (clip : Rect) (rects : List Rect) (st : Style) :
    edgeWrites clip rects st = (rects.flatMap (edgeKeys clip st)).map fun k => (k, st.edgeTone) :=
  List.map_flatMap.symm

theorem edgeWrites_singleton (clip r : Rect) (st : Style) :
    edgeWrites clip [r] st = (edgeKeys clip st r).map fun k => (k, st.edgeTone) := List.append_nil _

/-- The edges are walked rectangle after rectangle (R67). -/
theorem edgeWrites_flatMap (clip : Rect) (rects : List Rect) (st : Style) :
    edgeWrites clip rects st = rects.flatMap fun r => edgeWrites clip [r] st := by
  simp only [edgeWrites_singleton]
  rw [edgeWrites_eq, List.map_flatMap]

section Edges

variable {clip : Rect} (hclip : clip.onPage) (st : Style)
include hclip

theorem mem_edgeKeys (r : Rect) {x y : Nat} (hx : x < 8192) :
    pixelKey x y ∈ edgeKeys clip st r ↔ st.edge r x y ∧ clip.has x y = true := by
  rw [edgeKeys, List.mem_filter, mem_inter_keys hclip r hx, keyX_pixelKey x y hx, keyY_pixelKey x y hx,
    Bool.and_eq_true, onEdge_iff, inPattern_iff, Style.edge]
  exact ⟨fun ⟨⟨hr, hc⟩, he⟩ => ⟨⟨hr, he⟩, hc⟩, fun ⟨⟨hr, he⟩, hc⟩ => ⟨⟨hr, hc⟩, he⟩⟩

theorem edgeWrites_rowOrder (r : Rect) : RowOrder (edgeWrites clip [r] st) := by
  rw [edgeWrites_singleton]
  exact rowOrder_map (List.Pairwise.filter _ (Rect.keys_ascending (Rect.inter_onPage hclip r))) _

theorem edgeWrites_on (r : Rect) :
    WritesOn (edgeWrites clip [r] st) fun x y => st.edge r x y ∧ clip.has x y = true := by
  rw [edgeWrites_singleton]
  exact writesOn_map (fun x y hx => mem_edgeKeys hclip st r hx) _

/-- What the edges of a HILITE leave at one pixel, in one edge or in several (R64). -/
theorem edgeWrites_pixel (rects : List Rect) (m : List (Nat × PixelRec)) {x y : Nat} (hx : x < 8192) :
    pixelAt (writeTargets m (edgeWrites clip rects st)) (pixelKey x y) =
      if (∃ r ∈ rects, st.edge r x y) ∧ clip.has x y = true then
        { pixelAt m (pixelKey x y) with target := st.edgeTone }
      else pixelAt m (pixelKey x y) := by
  rw [edgeWrites_eq]
  refine (pixelAt_writeTargets_map _ _ _ _).trans (if_congr ?_ rfl rfl)
  simp only [List.mem_flatMap, mem_edgeKeys hclip st _ hx]
  exact ⟨fun ⟨r, hr, he, hc⟩ => ⟨⟨r, hr, he⟩, hc⟩, fun ⟨⟨r, hr, he⟩, hc⟩ => ⟨r, hr, he, hc⟩⟩

/-- What a HILITE leaves at one pixel: its edge tone over the ground that the body leaves (R63, R64). -/
theorem hiliteWrites_pixel (rects : List Rect) (m : List (Nat × PixelRec)) {x y : Nat} (hx : x < 8192) :
    pixelAt (writeTargets m (bodyWrites clip rects st.fill m ++ edgeWrites clip rects st)) (pixelKey x y) =
      let p := pixelAt m (pixelKey x y)
      if clip.has x y = false then p
      else if ∃ r ∈ rects, st.edge r x y then { p with target := st.edgeTone }
      else { p with
        target := if rects.any (fun r => r.has x y) = true then darken p.target st.fill else p.target } := by
  rw [writeTargets_append, edgeWrites_pixel hclip st rects _ hx, bodyWrites_pixel hclip rects hx]
  simp only [List.any_eq_true]
  cases clip.has x y with
  | false => simp
  | true =>
    simp only [and_true, Bool.true_eq_false, if_false]
    by_cases hbody : ∃ r ∈ rects, r.has x y = true
    · simp only [if_pos hbody]
    · simp only [if_neg hbody]

end Edges

/-! ### The checks of a HILITE (R62) -/

/-- The body of a HILITE has its length (R62). -/
def HiliteWhole (b : Bytes) : Prop := 2 ≤ b.length ∧ 1 ≤ u8 b 1 ∧ u8 b 1 ≤ 32 ∧ b.length = 2 + 8 * u8 b 1

theorem not_hiliteWhole {b : Bytes}
    (h : b.length < 2 ∨ u8 b 1 = 0 ∨ 32 < u8 b 1 ∨ b.length ≠ 2 + 8 * u8 b 1) : ¬ HiliteWhole b := by
  unfold HiliteWhole; omega

theorem parseHilite_length {b : Bytes} (h : ¬ HiliteWhole b) : parseHilite b = .refuse .length := by
  unfold HiliteWhole at h
  unfold parseHilite
  rw [if_pos (by omega)]

theorem parseHilite_field {b : Bytes} (h : HiliteWhole b) (hs : 15 < u8 b 0) : parseHilite b = .refuse .field := by
  unfold HiliteWhole at h
  unfold parseHilite
  rw [if_neg (by omega), if_pos hs]

theorem parseHilite_ok {b : Bytes} (h : HiliteWhole b) (hs : u8 b 0 ≤ 15) :
    parseHilite b = .ok ⟨u8 b 0, (List.range (u8 b 1)).map fun j => rectAt b (2 + 8 * j)⟩ := by
  unfold HiliteWhole at h
  unfold parseHilite
  rw [if_neg (by omega), if_neg (Nat.not_lt.mpr hs)]

/-! ### HILITE -/

section Hilite

variable {s : State} {body : Bytes} {rest : List Record} {h : HiliteRec}

theorem hilite_exec (hd : Dispatches s .hilite body rest) (hw : s.drawWaits = false)
    (hparse : parseHilite body = .ok h) : exec .hilite s = .next
      (if s.tables.glyphWrite.isSome = true then (taken s rest).setDraw (some (.hiliteHeld h))
        else (taken s rest).startHilite h) := by
  show Outcome.next _ = _
  rw [withDraw_of_dispatches hd hw, hparse, pop_eq_taken hd]

theorem startHilite_taken (s : State) (rest : List Record) (h : HiliteRec) :
    (taken s rest).startHilite h = drawn s rest .hilite
      (bodyWrites s.comp.clip h.rects (s.tables.style h.style).fill s.store.pixels ++
        edgeWrites s.comp.clip h.rects (s.tables.style h.style)) := rfl

/-- A HILITE keeps the Table Store busy (R16). -/
theorem drawn_hilite_tableBusy (s : State) (rest : List Record) (writes : List (Nat × Tone)) :
    (drawn s rest .hilite writes).tableBusy = true := by
  simp [State.tableBusy, drawn, Draw.usesTables]

end Hilite

/-- Settles O11: the body writes the keys of the union, the edges behind it those of each rectangle's edge. -/
theorem hilitePaintsBodyThenEdges : Obligations.HilitePaintsBodyThenEdges := by
  intro s body rest hd hw n rects st
  refine ⟨fun hl => withDraw_refuses hd hw (by rw [parseHilite_length (not_hiliteWhole hl)]),
    fun hlen hone hmany hfits => ?_⟩
  have hok : HiliteWhole body := ⟨hlen, hone, hmany, hfits⟩
  refine ⟨fun hs => withDraw_refuses hd hw (by rw [parseHilite_field hok hs]), fun hs hg => ?held,
    fun hs hg hclip => ?starts⟩
  case held => exact ⟨_, by rw [hilite_exec hd hw (parseHilite_ok hok hs), if_pos hg]; rfl, rfl⟩
  case starts =>
    have hexec := hilite_exec hd hw (parseHilite_ok hok hs)
    rw [hg, startHilite_taken] at hexec
    intro k edge bodyPart edgePart
    exact ⟨rowOrder_map (unionKeys_ascending _ _) _, writesOn_map (fun x y hx => mem_unionKeys hclip rects hx) _,
      edgeWrites_flatMap _ rects st, fun r => ⟨edgeWrites_rowOrder hclip st r, edgeWrites_on hclip st r⟩, _, _,
      hexec, rfl, drawn_hilite_tableBusy _ _ _, drawn_drawEnd hw rest (.inr (.inr rfl)) _,
      fun x y hx => hiliteWrites_pixel hclip st rects s.store.pixels hx, rfl⟩

end Sys2Proof.Machine
end

section
/-! SUPPORT. CLIPPUSH, CLIPPOP and CLIPRESET (R69 to R71). -/

namespace Sys2Proof.Machine

open Host (Outcome)

/-! ### The clip state (R69, R70) -/

section Clips

variable {c : Compose}

theorem Compose.push_room (h : c.clipStack.length < 7) (rect : Rect) :
    c.push rect = { c with clipStack := c.clip :: c.clipStack, clip := Rect.inter c.clip rect } := if_pos h

/-- A push over a full stack empties the clip; the first one holds the clip that was current. -/
theorem Compose.push_full (h : c.clipStack.length = 7) (rect : Rect) : c.push rect = { c with
    clip := Rect.none
    excess := min 255 (c.excess + 1)
    heldClip := if c.excess = 0 then some c.clip else c.heldClip } := by
  unfold Compose.push
  rw [if_neg (by rw [h]; decide)]
  split
  · rename_i hzero; rw [hzero]; rfl
  · rfl

theorem Compose.popClip_excess (h : 2 ≤ c.excess) : c.popClip = { c with excess := c.excess - 1 } := if_pos h

theorem Compose.popClip_held (h : c.excess = 1) {held : Rect} (hh : c.heldClip = some held) :
    c.popClip = { c with excess := 0, clip := held, heldClip := none } := by
  unfold Compose.popClip
  rw [h, hh]; rfl

theorem Compose.popClip_saved (h : c.excess = 0) {top : Rect} {below : List Rect} (hs : c.clipStack = top :: below) :
    c.popClip = { c with clip := top, clipStack := below } := by
  unfold Compose.popClip
  rw [h, hs]; rfl

theorem Compose.popClip_empty (h : c.excess = 0) (hs : c.clipStack = []) : c.popClip = c := by
  unfold Compose.popClip
  rw [h, hs]; rfl

theorem Compose.push_pen_draw (c : Compose) (rect : Rect) :
    (c.push rect).pen = c.pen ∧ (c.push rect).draw = c.draw := by
  unfold Compose.push
  split
  · exact ⟨rfl, rfl⟩
  · split <;> exact ⟨rfl, rfl⟩

end Clips

/-! ### The clip records -/

section Records

variable {s : State} {body : Bytes} {rest : List Record}

theorem clippush_exec (hd : Dispatches s .clippush body rest) (hw : s.drawWaits = false) (hl : body.length = 8) :
    exec .clippush s = .next { taken s rest with
      comp := s.comp.push (rectAt body 0)
      ev := if 7 ≤ s.comp.clipStack.length then (s.setFlag .clipfault).ev else s.ev } := by
  have hparse : parseClippush body = .ok (rectAt body 0) := if_neg (not_not.mpr hl)
  show Outcome.next _ = _
  rw [withDraw_of_dispatches hd hw, hparse, pop_eq_taken hd]
  dsimp only
  rw [setFlagIf_frame, setFlagIf_ev]
  simp only [decide_eq_true_eq]
  rfl

theorem clippop_exec (hd : Dispatches s .clippop body rest) (hw : s.drawWaits = false) (hl : body.length = 0) :
    exec .clippop s = .next { taken s rest with
      comp := s.comp.popClip
      ev := if s.comp.excess = 0 ∧ s.comp.clipStack = [] then (s.setFlag .clipfault).ev else s.ev } := by
  have hparse : parseEmpty body = .ok () := if_neg (not_not.mpr hl)
  show Outcome.next _ = _
  rw [withDraw_of_dispatches hd hw, hparse, pop_eq_taken hd]
  dsimp only
  rw [setFlagIf_frame, setFlagIf_ev]
  simp only [Bool.and_eq_true, decide_eq_true_eq, List.isEmpty_iff]
  rfl

theorem clipreset_exec (hd : Dispatches s .clipreset body rest) (hw : s.drawWaits = false) (hl : body.length = 0) :
    exec .clipreset s = .next { taken s rest with comp := ⟨s.comp.pen, s.window, [], 0, none, none⟩ } := by
  have hparse : parseEmpty body = .ok () := if_neg (not_not.mpr hl)
  obtain ⟨hdraw, -⟩ := drawWaits_eq_false.mp hw
  show Outcome.next _ = _
  rw [withDraw_of_dispatches hd hw, hparse, pop_eq_taken hd, ← hdraw]

end Records

/-- Settles O15: the rows of R69 and R70 as `Compose.push` and `Compose.popClip` act, with the flag of each. -/
theorem clipRecordsFollowTables : Obligations.ClipRecordsFollowTables := by
  refine ⟨fun s body rest hd hw => ?push, fun s body rest hd hw => ?pop, fun s body rest hd hw =>
    ⟨fun hl => withDraw_refuses hd hw (by rw [parseEmpty, if_pos hl]), fun hl => clipreset_exec hd hw hl⟩⟩
  case push =>
    refine ⟨fun hl => withDraw_refuses hd hw (by rw [parseClippush, if_pos hl]),
      fun hl => ⟨_, clippush_exec hd hw hl, rfl, ?_, ?_, fun hroom hzero => ?room, fun hfull => ?full⟩⟩
    · exact (s.comp.push_pen_draw _).1
    · exact (s.comp.push_pen_draw _).2.trans (drawWaits_eq_false.mp hw).1
    case room =>
      dsimp only
      rw [Compose.push_room hroom, if_neg (by omega)]
      exact ⟨fun x y => Rect.has_inter _ _ x y, rfl, hzero, rfl, rfl⟩
    case full =>
      dsimp only
      rw [Compose.push_full hfull, if_pos hfull.ge]
      exact ⟨rfl, rfl, rfl, rfl, rfl⟩
  case pop =>
    refine ⟨fun hl => withDraw_refuses hd hw (by rw [parseEmpty, if_pos hl]),
      fun hl => ⟨_, clippop_exec hd hw hl, rfl, fun hmany => ?_, fun held hone hheld => ?_,
        fun top below hzero hsaved => ?_, fun hzero hempty => ?_⟩⟩
    · exact ⟨Compose.popClip_excess hmany, if_neg (by omega)⟩
    · exact ⟨Compose.popClip_held hone hheld, if_neg (by omega)⟩
    · exact ⟨Compose.popClip_saved hzero hsaved, if_neg (by simp [hsaved])⟩
    · exact ⟨Compose.popClip_empty hzero hempty, if_pos ⟨hzero, hempty⟩⟩

end Sys2Proof.Machine
end

section
/-! SUPPORT. The Waveform Bank Unit (05): which bank is in a state, what the pins of the slots rest on, and what the
checks of WAVEBEGIN and WAVEPUT leave. -/

namespace Sys2Proof.Machine

/-! ### The two banks (R77) -/

theorem BankId.eq_or_other (b b' : BankId) : b' = b ∨ b' = b.other := by
  cases b <;> cases b' <;> decide

@[simp] theorem BankId.other_other (b : BankId) : b.other.other = b := by cases b <;> rfl

section Banks

variable {s t : State} {b : BankId} {st : BankState}

theorem bank_of_wave (h : t.wave = s.wave) (b : BankId) : t.bank b = s.bank b := by
  cases b <;> simp only [State.bank, h]

theorem bankIn_state (h : s.bankIn st = some b) : (s.bank b).state = st := by
  unfold State.bankIn at h
  split at h
  · rename_i hst; injection h with h; exact h ▸ hst
  · split at h
    · rename_i hst; injection h with h; exact h ▸ hst
    · cases h

theorem bankIn_eq_none : s.bankIn st = none ↔ ∀ b, (s.bank b).state ≠ st := by
  constructor
  · intro h
    unfold State.bankIn at h
    split at h
    · cases h
    · split at h
      · cases h
      · rename_i ha hb
        intro b
        cases b
        · exact ha
        · exact hb
  · intro h
    cases e : s.bankIn st with
    | none => rfl
    | some b => exact absurd (bankIn_state e) (h b)

theorem bankIn_of_only (h : (s.bank b).state = st) (ho : (s.bank b.other).state ≠ st) : s.bankIn st = some b := by
  cases e : s.bankIn st with
  | none => exact absurd h (bankIn_eq_none.mp e b)
  | some b' =>
    rcases BankId.eq_or_other b b' with rfl | rfl
    · rfl
    · exact absurd (bankIn_state e) ho

/-! ### Legal banks (R77 to R79) -/

theorem BanksLegal.inBudget (h : BanksLegal s) (b : BankId) : (s.bank b).inBudget := by
  cases b
  · exact h.budgets.1
  · exact h.budgets.2

theorem BanksLegal.active_alone (h : BanksLegal s) (ha : (s.bank b).state = .active) :
    (s.bank b.other).state ≠ .active := by
  cases b
  · exact fun hb => h.active ⟨ha, hb⟩
  · exact fun hb => h.active ⟨hb, ha⟩

theorem BanksLegal.loading_alone (h : BanksLegal s) (hl : (s.bank b).state = .loading) :
    (s.bank b.other).state ≠ .loading := by
  cases b
  · exact fun hb => h.loading ⟨hl, hb⟩
  · exact fun hb => h.loading ⟨hb, hl⟩

theorem BanksLegal.activeBank_eq (h : BanksLegal s) (ha : (s.bank b).state = .active) : s.activeBank = some b :=
  bankIn_of_only ha (h.active_alone ha)

theorem BanksLegal.loadingBank_eq (h : BanksLegal s) (hl : (s.bank b).state = .loading) :
    s.bankIn .loading = some b :=
  bankIn_of_only hl (h.loading_alone hl)

/-- The pin count of a bank is above 0 where a slot that is not FREE was resolved against it (R86). -/
theorem pins_pos_iff : 0 < s.pins b ↔ ∃ i sl, s.slot i = some sl ∧ sl.bank = b := by
  simp only [State.pins, State.countSlots, List.length_pos_iff_exists_mem, List.mem_filter, mem_slotIds, true_and,
    Option.any_eq_true, decide_eq_true_eq]

/-- A bank may be replaced where it does not become a second ACTIVE or LOADING one, and keeps the records of the slots
that pin it (R85, R86). -/
theorem BanksLegal.setBank (h : BanksLegal s) {v : Bank} (budget : v.inBudget) (filled : v.state ≠ .empty)
    (active : v.state = .active → (s.bank b.other).state ≠ .active)
    (loading : v.state = .loading → (s.bank b.other).state ≠ .loading)
    (pinned : ∀ i sl, s.slot i = some sl → sl.bank = b →
      (v.state = .active ∨ v.state = .retired) ∧ v.records = (s.bank b).records) : BanksLegal (s.setBank b v) := by
  have slot : ∀ i, (s.setBank b v).slot i = s.slot i := fun i => State.slot_of_sched (State.setBank_sched ..) i
  refine ⟨?_, ?_, ?_, fun b' he => ?_, fun i sl hs => ?_, fun i sl hs => ?_, fun i sl k hs => h.index i sl k (slot i ▸ hs)⟩
  · cases b
    · exact fun ⟨ha, hb⟩ => active ha hb
    · exact fun ⟨ha, hb⟩ => active hb ha
  · cases b
    · exact fun ⟨ha, hb⟩ => loading ha hb
    · exact fun ⟨ha, hb⟩ => loading hb ha
  · cases b
    · exact ⟨budget, h.budgets.2⟩
    · exact ⟨h.budgets.1, budget⟩
  · rcases BankId.eq_or_other b b' with rfl | rfl
    · exact absurd (State.setBank_bank_same s b' v ▸ he) filled
    · rw [State.setBank_bank_other] at he ⊢; exact h.empty _ he
  · rw [slot] at hs
    rcases BankId.eq_or_other b sl.bank with e | e
    · rw [e, State.setBank_bank_same]; exact (pinned i sl hs e).1
    · rw [e, State.setBank_bank_other, ← e]; exact h.pins i sl hs
  · rw [slot] at hs
    rcases BankId.eq_or_other b sl.bank with e | e
    · have hv := (pinned i sl hs e).2
      have hold := h.pinned i sl hs
      rw [e] at hold ⊢
      rw [State.setBank_bank_same, Bank.record, hv]; exact hold
    · rw [e, State.setBank_bank_other, ← e]; exact h.pinned i sl hs

/-- A bank with no pin may be cleared and made LOADING (R81). -/
theorem BanksLegal.no_pin_of_waits (h : BanksLegal s) (hw : ¬ ((s.bank b).state = .retired ∧ 0 < s.pins b))
    (ha : (s.bank b).state ≠ .active) {i : Fin 16} {sl : Slot} (hs : s.slot i = some sl) : sl.bank ≠ b := by
  rintro rfl
  rcases h.pins i sl hs with h' | h'
  · exact ha h'
  · exact hw ⟨h', pins_pos_iff.mpr ⟨i, sl, hs, rfl⟩⟩

end Banks

/-! ### The header of a WAVEBEGIN (R78, R80) -/

theorem ascending_iff (l : List Int) : ascending l = true ↔ l.Pairwise (· < ·) := by
  rw [← List.isChain_iff_pairwise]
  induction l with
  | nil => simp [ascending]
  | cons a l ih =>
    cases l with
    | nil => simp [ascending]
    | cons b rest => rw [List.isChain_cons_cons, ← ih]; simp [ascending]

/-- The ceiling is not below the last of rising bounds exactly where it is below none. -/
theorem last_le_iff {l : List Int} (hne : l ≠ []) (hp : l.Pairwise (· < ·)) (c : Int) :
    l.getLastD 0 ≤ c ↔ ∀ z ∈ l, z ≤ c := by
  rw [List.getLastD_eq_getLast?, List.getLast?_eq_some_getLast hne, Option.getD_some]
  constructor
  · intro h z hz
    rw [← List.dropLast_append_getLast hne] at hp hz
    rw [List.pairwise_append] at hp
    rcases List.mem_append.mp hz with hz | hz
    · exact (hp.2.2 z hz _ (List.mem_singleton_self _)).le.trans h
    · exact List.mem_singleton.mp hz ▸ h
  · exact fun h => h _ (List.getLast_mem hne)

/-- Legal bounds and ceiling of a bank (R78). -/
abbrev HeaderLegal (bounds : List Int) (ceiling : Int) : Prop :=
  (∀ z ∈ bounds, -40 ≤ z ∧ z ≤ 85) ∧ bounds.Pairwise (· < ·) ∧ (∀ z ∈ bounds, z ≤ ceiling) ∧ ceiling ≤ 85

theorem headerLegal_iff {bounds : List Int} (hne : bounds ≠ []) (ceiling : Int) : HeaderLegal bounds ceiling ↔
    ¬ (bounds.any (fun z => decide (z < -40) || decide (85 < z)) || !ascending bounds) = true ∧
      ¬ (ceiling < bounds.getLastD 0 ∨ 85 < ceiling) := by
  have hany : bounds.any (fun z => decide (z < -40) || decide (85 < z)) = false ↔ ∀ z ∈ bounds, -40 ≤ z ∧ z ≤ 85 := by
    simp
  rw [Bool.not_eq_true, Bool.or_eq_false_iff, hany, Bool.not_eq_false', ascending_iff, not_or, not_lt, not_lt,
    and_assoc]
  refine and_congr_right fun _ => and_congr_right fun hp => ?_
  rw [last_le_iff hne hp]

/-- The bounds of a WAVEBEGIN body. -/
def boundsOf (b : Bytes) : List Int := (List.range (u8 b 0)).map fun j => s8 b (1 + j)

/-- The checks of a WAVEBEGIN in order (R80). -/
theorem parseWavebegin_eq (b : Bytes) : parseWavebegin b =
    if b = [] then .refuse .length
    else if u8 b 0 = 0 ∨ 8 < u8 b 0 then .refuse .field
    else if b.length ≠ 2 + u8 b 0 then .refuse .length
    else if HeaderLegal (boundsOf b) (s8 b (1 + u8 b 0)) then .ok ⟨boundsOf b, s8 b (1 + u8 b 0)⟩
    else .refuse .field := by
  unfold parseWavebegin
  have hempty : b.length < 1 ↔ b = [] := by rw [Nat.lt_one_iff, List.length_eq_zero_iff]
  simp only [hempty]
  split
  · rfl
  · split
    · rfl
    · split
      · rfl
      · rename_i hn _
        have hne : boundsOf b ≠ [] := by simp [boundsOf]; omega
        rw [show (List.range (u8 b 0)).map (fun j => s8 b (1 + j)) = boundsOf b from rfl]
        simp only [headerLegal_iff hne]
        split
        · rename_i h; rw [if_neg fun h' => h'.1 h]
        · rename_i h
          split
          · rename_i h'; rw [if_neg fun hl => hl.2 h']
          · rename_i h'; rw [if_pos ⟨h, h'⟩]

/-- A checked header makes a bank without records that is within its budgets (R78, R79). -/
theorem wavebegin_inBudget {b : Bytes} {h : WaveHeader} (hp : parseWavebegin b = .ok h) :
    (⟨.loading, h.bounds, h.ceiling, []⟩ : Bank).inBudget := by
  rw [parseWavebegin_eq] at hp
  split at hp
  · cases hp
  · split at hp
    · cases hp
    · rename_i hn
      split at hp
      · cases hp
      · split at hp
        · rename_i hlegal
          injection hp with hp
          subst hp
          obtain ⟨hrange, hpair, hle, hc⟩ := hlegal
          have hmem : s8 b 1 ∈ boundsOf b := List.mem_map.mpr ⟨0, List.mem_range.mpr (by omega), rfl⟩
          have hlow : -40 ≤ s8 b (1 + u8 b 0) := (hrange _ hmem).1.trans (hle _ hmem)
          refine ⟨?_, by simp [Bank.frames], by simp, by simp, hpair, fun z hz => ⟨(hrange z hz).1, hle z hz⟩, hlow, hc⟩
          show (boundsOf b).length ≤ 8
          simp [boundsOf]; omega
        · cases hp

/-! ### The records of a bank (R79, R82, R83) -/

theorem Store.get?_none_of_lt {α : Type} {m : List (Nat × α)} {k : Nat} (h : ∀ e ∈ m, k < e.1) :
    Store.get? m k = none := by
  cases e : Store.get? m k with
  | none => rfl
  | some v => exact absurd (h _ (Store.mem_of_get? e)) (Nat.lt_irrefl k)

/-- What a put adds to a sum over the entries, and what the entry it replaces gave. -/
theorem Store.sum_put {α : Type} {m : List (Nat × α)} (hs : Store.sorted m) (g : α → Nat) (k : Nat) (v : α) :
    ((Store.put m k v).map fun e => g e.2).sum + ((Store.get? m k).map g).getD 0 =
      (m.map fun e => g e.2).sum + g v := by
  induction m with
  | nil => simp [Store.put, Store.get?]
  | cons e rest ih =>
    obtain ⟨k', v'⟩ := e
    have hnone : k < k' → Store.get? ((k', v') :: rest) k = none := fun h =>
      Store.get?_none_of_lt fun e he => by
        rcases List.mem_cons.mp he with rfl | he
        · exact h
        · exact h.trans (List.rel_of_pairwise_cons hs he)
    have ih := ih hs.of_cons
    simp only [Store.put]
    split
    · rename_i h; rw [hnone h]; simp; omega
    · split
      · rename_i h; subst h; simp [Store.get?]; omega
      · rename_i h
        simp only [Store.get?, if_neg (Ne.symm h), List.map_cons, List.sum_cons]; omega

section Records

variable {v : Bank} (hs : Store.sorted v.records) (r : WaveputRec)
include hs

/-- The frames of a bank once a record has joined it: those of the record it replaces go (R83). -/
theorem putRecord_frames : (v.putRecord r).frames =
    v.frames - ((v.record r.mode r.band).map WaveRec.frames).getD 0 + r.record.frames := by
  have h := Store.sum_put hs WaveRec.frames (waveKey r.mode r.band) r.record
  have hle : ((v.record r.mode r.band).map WaveRec.frames).getD 0 ≤ v.frames := by
    cases e : v.record r.mode r.band with
    | none => simp
    | some w => exact record_frames_le (Store.mem_of_get? e)
  simp only [Bank.frames, Bank.record, Bank.putRecord] at hle ⊢
  omega

theorem putRecord_length : (v.putRecord r).records.length =
    if (v.record r.mode r.band).isSome then v.records.length else v.records.length + 1 := by
  have h := Store.sum_put hs (fun _ => 1) (waveKey r.mode r.band) r.record
  unfold Bank.record Bank.putRecord
  cases e : Store.get? v.records (waveKey r.mode r.band) <;> rw [e] at h <;> simpa using h

end Records

theorem putRecord_record (v : Bank) (r : WaveputRec) (m : Mode) (band : Nat) : (v.putRecord r).record m band =
    if waveKey r.mode r.band = waveKey m band then some r.record else v.record m band :=
  Store.get?_put ..

/-- The keys of bands below 8 are those of their mode and band (R79). -/
theorem waveKey_inj {m m' : Mode} {band band' : Nat} (h : band < 8) (h' : band' < 8) :
    waveKey m band = waveKey m' band' ↔ m = m' ∧ band = band' := by
  have hcode : m.code = m'.code ↔ m = m' := by cases m <;> cases m' <;> decide
  rw [← hcode]
  unfold waveKey
  omega

theorem fits_iff {v : Bank} (m : Mode) (band f : Nat) : v.fits m band f = true ↔
    v.frames - ((v.record m band).map WaveRec.frames).getD 0 + f ≤ 1024 ∧
      (if (v.record m band).isSome then v.records.length else v.records.length + 1) ≤ 40 := by
  have hlen : (v.record m band).isSome = true → 0 < v.records.length := fun h => by
    obtain ⟨w, hw⟩ := Option.isSome_iff_exists.mp h
    exact List.length_pos_of_mem (Store.mem_of_get? hw)
  unfold Bank.fits
  rw [Bool.and_eq_true, decide_eq_true_eq, decide_eq_true_eq, Option.isSome_map]
  refine and_congr_right fun _ => ?_
  show _ - _ + 1 ≤ 40 ↔ _
  split
  · rename_i h; have := hlen h; omega
  · rfl

/-- What the checks of a WAVEPUT leave of a record (R82). -/
structure WaveputLegal (v : Bank) (b : Bytes) (r : WaveputRec) : Prop where
  mode : r.mode.code = u8 b 0
  band : r.band < v.bounds.length
  frames : 1 ≤ r.record.frames ∧ r.record.frames ≤ 60
  fits : v.fits r.mode r.band r.record.frames = true

theorem ofCode_eq_some {n : Nat} {m : Mode} : Mode.ofCode n = some m ↔ m.code = n := by
  constructor
  · intro h
    unfold Mode.ofCode at h
    split at h <;> cases h <;> rfl
  · rintro rfl; cases m <;> rfl

theorem waveput_legal {v : Bank} {b : Bytes} {r : WaveputRec} (h : checkWaveput (some v) b = .ok r) :
    WaveputLegal v b r := by
  unfold checkWaveput at h
  split at h
  · cases h
  · simp only at h
    split at h
    · cases h
    · rename_i m hm
      split at h
      · cases h
      · split at h
        · cases h
        · split at h
          · cases h
          · split at h
            · cases h
            · rename_i hband hframes _ hfits
              injection h with h
              subst h
              exact ⟨ofCode_eq_some.mp hm, not_le.mp hband, by simp only; omega, by simpa using hfits⟩

/-- A checked record leaves its bank within its budgets (R79, R83). -/
theorem waveput_inBudget {v : Bank} (hs : Store.sorted v.records) (hv : v.inBudget) {b : Bytes} {r : WaveputRec}
    (h : checkWaveput (some v) b = .ok r) : (v.putRecord r).inBudget := by
  obtain ⟨hbounds, -, -, hrecords, hpair, hrange, hlow, hhigh⟩ := hv
  have legal := waveput_legal h
  obtain ⟨hframes, hlength⟩ := (fits_iff ..).mp legal.fits
  rw [← putRecord_frames hs r] at hframes
  rw [← putRecord_length hs r] at hlength
  refine ⟨hbounds, hframes, hlength, fun e he => ?_, hpair, hrange, hlow, hhigh⟩
  rcases Store.mem_put he with rfl | he
  · exact legal.frames.1
  · exact hrecords e he

end Sys2Proof.Machine
end

section
/-! SUPPORT. Every step keeps the banks legal and every pinned record in place (R77 to R79, R85, R86, R121): the records
of chapter 05 and an admission change what the invariant reads, a reset ends every slot, and every other command leaves
the banks and lets the slots go on with what they pinned (`PinsContinue`). -/

namespace Sys2Proof.Machine

open Host (Outcome)

/-! ### Slots that go on (R85, R86, R121) -/

/-- `new` is the slot `old` at a later moment: resolved as it was, with a frame index below its frame count. -/
structure Slot.Continues (old new : Slot) : Prop where
  mode : new.mode = old.mode
  band : new.band = old.band
  bank : new.bank = old.bank
  frames : new.frames = old.frames
  index : ∀ k, new.phase = .running k → old.phase = .running k ∨ k = 0 ∨ k < new.frames

theorem Slot.Continues.of_phase {old new : Slot} (hm : new.mode = old.mode) (hd : new.band = old.band)
    (hb : new.bank = old.bank) (hf : new.frames = old.frames) (hp : new.phase = old.phase) : old.Continues new :=
  ⟨hm, hd, hb, hf, fun _ h => .inl (hp ▸ h)⟩

theorem Slot.Continues.refl (sl : Slot) : sl.Continues sl := .of_phase rfl rfl rfl rfl rfl

theorem Slot.Continues.trans {a b c : Slot} (h : a.Continues b) (h' : b.Continues c) : a.Continues c := by
  refine ⟨h'.mode.trans h.mode, h'.band.trans h.band, h'.bank.trans h.bank, h'.frames.trans h.frames, fun k hk => ?_⟩
  rcases h'.index k hk with hk | hk
  · rw [h'.frames]; exact h.index k hk
  · exact .inr hk

theorem start_continues (sl : Slot) : sl.Continues sl.start := by
  by_cases h : sl.phase = .armed
  · rw [start_of_armed h]
    exact ⟨rfl, rfl, rfl, rfl, fun k hk => .inr (.inl (Phase.running.inj hk).symm)⟩
  · rw [start_of_not_armed h]; exact .refl sl

/-- From `s` to `t` no bank changes, and each slot of `t` that is not FREE is one of `s`. -/
structure PinsContinue (s t : State) : Prop where
  wave : t.wave = s.wave
  slots : ∀ i sl', t.slot i = some sl' → ∃ sl, s.slot i = some sl ∧ sl.Continues sl'

/-- The parts of a state that the invariant of the banks reads. -/
def State.banking (s : State) : Waves × Vector (Option Slot) 16 := (s.wave, s.sched.slots)

section Continuing

variable {s t u : State}

theorem PinsContinue.same (h : t.banking = s.banking) : PinsContinue s t := by
  simp only [State.banking, Prod.mk.injEq] at h
  exact ⟨h.1, fun i sl hs => ⟨sl, slot_of_slots h.2 i ▸ hs, .refl sl⟩⟩

theorem PinsContinue.trans (h : PinsContinue s t) (h' : PinsContinue t u) : PinsContinue s u := by
  refine ⟨h'.wave.trans h.wave, fun i sl'' hs => ?_⟩
  obtain ⟨sl', hs', hc'⟩ := h'.slots i sl'' hs
  obtain ⟨sl, hs, hc⟩ := h.slots i sl' hs'
  exact ⟨sl, hs, hc.trans hc'⟩

theorem PinsContinue.after (h : PinsContinue t u) (e : t.banking = s.banking) : PinsContinue s u :=
  (PinsContinue.same e).trans h

theorem PinsContinue.of_free (hw : t.wave = s.wave) (hf : ∀ i, t.slot i = none) : PinsContinue s t :=
  ⟨hw, fun i sl hs => by rw [hf i] at hs; cases hs⟩

/-- Setting a slot to what it goes on as. -/
theorem PinsContinue.setSlot {i : Fin 16} {o : Option Slot}
    (h : ∀ sl', o = some sl' → ∃ sl, s.slot i = some sl ∧ sl.Continues sl') : PinsContinue s (s.setSlot i o) := by
  refine ⟨rfl, fun j sl' hs => ?_⟩
  by_cases hj : j = i
  · subst hj
    rw [State.setSlot_slot_same] at hs
    exact h sl' hs
  · rw [State.setSlot_slot_other s i j o hj] at hs
    exact ⟨sl', hs, .refl sl'⟩

/-- Legal banks stay legal while the slots go on. -/
theorem BanksLegal.continues (h : BanksLegal s) (hc : PinsContinue s t) : BanksLegal t := by
  have bank := bank_of_wave hc.wave
  refine ⟨hc.wave ▸ h.active, hc.wave ▸ h.loading, hc.wave ▸ h.budgets, fun b => bank b ▸ h.empty b,
    fun i sl' hs => ?_, fun i sl' hs => ?_, fun i sl' k hs hk => ?_⟩
  · obtain ⟨sl, hs, hgo⟩ := hc.slots i sl' hs
    rw [bank, hgo.bank]; exact h.pins i sl hs
  · obtain ⟨sl, hs, hgo⟩ := hc.slots i sl' hs
    rw [bank, hgo.bank, hgo.mode, hgo.band, hgo.frames]; exact h.pinned i sl hs
  · obtain ⟨sl, hs, hgo⟩ := hc.slots i sl' hs
    obtain ⟨-, -, -, hone⟩ := h.pinned i sl hs
    rw [← hgo.frames] at hone
    rcases hgo.index k hk with hk | hk | hk
    · rw [hgo.frames]; exact h.index i sl k hs hk
    · omega
    · exact hk

end Continuing

/-! ### Operations through which the slots go on -/

section Operations

variable (s : State)

theorem Walked.continues {s u : State} (h : Walked s u) (hw : u.wave = s.wave) : PinsContinue s u := by
  refine ⟨hw, fun i sl' hs => ?_⟩
  cases hi : s.slot i with
  | none => rw [h.free i hi] at hs; cases hs
  | some sl =>
    obtain ⟨taken, skipped, tiles, e⟩ := h.counted i sl hi
    rw [e] at hs
    exact ⟨sl, rfl, Option.some.inj hs ▸ .of_phase rfl rfl rfl rfl rfl⟩

theorem WalkedOn.continues {s u : State} (h : WalkedOn s u) : PinsContinue s u :=
  h.walked.continues (by rw [h.frame])

theorem advanceWalks_continues : PinsContinue s s.advanceWalks := (advanceWalks_walkedOn s).continues

theorem advancePass_continues (n : Nat) : PinsContinue s (s.advancePass n) :=
  (advancePass_walked s n).continues (by rw [advancePass_frame])

theorem Stage.continues {s t : State} (h : Stage s t) : PinsContinue s t := by
  obtain ⟨n, hn⟩ := h
  refine (advancePass_continues s n).trans (.same ?_)
  rw [hn]; rfl

theorem freeAdvanceRead_continues : PinsContinue s s.freeAdvanceRead := (freeAdvanceRead_on s).1.continues

theorem readMany_continues (n : Nat) : PinsContinue s (State.readMany n s) :=
  (readMany_on n (s := s) ⟨0, by rw [advancePass_zero]; rfl⟩ (readOn_refl s)).1.continues

theorem ActsBy.continues {a : SlotAction} {f : State → Fin 16 → State} (h : ActsBy a f)
    (hgo : ∀ sl sl', a.next sl = some sl' → sl.Continues sl') (hw : (slotIds.foldl f s).wave = s.wave) :
    PinsContinue s (slotIds.foldl f s) := by
  refine ⟨hw, fun i sl' hs => ?_⟩
  rw [h.slot, Option.bind_eq_some_iff] at hs
  obtain ⟨sl, hs, hn⟩ := hs
  exact ⟨sl, hs, hgo sl sl' hn⟩

/-- A RUNNING slot that a frame end neither completes nor aborts drives its next frame (R121). -/
theorem frameAction_continues {sl sl' : Slot} (h : frameAction.next sl = some sl') : sl.Continues sl' := by
  unfold frameAction at h
  dsimp only at h
  split at h
  · split at h
    · cases h
    · split at h
      · cases h
      · rename_i hf _
        injection h with h
        subst h
        refine ⟨rfl, rfl, rfl, rfl, fun k hk => .inr (.inr ?_)⟩
        have := Phase.running.inj hk
        show k < sl.frames
        omega
  · exact Option.some.inj h ▸ .refl sl
  · exact Option.some.inj h ▸ .refl sl

theorem cancelAction_continues {tag : Byte} {sl sl' : Slot} (h : (cancelAction tag).next sl = some sl') :
    sl.Continues sl' := by
  unfold cancelAction at h
  dsimp only at h
  split at h
  · exact Option.some.inj h ▸ .refl sl
  · split at h
    · cases h
    · exact Option.some.inj h ▸ .of_phase rfl rfl rfl rfl rfl

theorem startFrame_continues : PinsContinue s s.startFrame := by
  refine ⟨rfl, fun i sl' hs => ?_⟩
  rw [State.startFrame_slot, Option.map_eq_some_iff] at hs
  obtain ⟨sl, hs, rfl⟩ := hs
  exact ⟨sl, hs, start_continues sl⟩

theorem startHold_banking : s.startHold.banking = s.banking := by rw [startHold_eq]; rfl

theorem reachOn_continues : PinsContinue s s.reachOn :=
  ite_holds ((startFrame_continues _).after rfl) (.same (startHold_banking _))

theorem enterRising_continues : PinsContinue s s.enterRising :=
  ite_holds ((reachOn_continues _).after rfl) (.same rfl)

theorem onArmed_continues : PinsContinue s s.onArmed := by
  unfold State.onArmed
  split
  · exact enterRising_continues s
  · exact ite_holds ((startFrame_continues _).after rfl) (.same rfl)
  · exact .same rfl
  · exact .same rfl
  · exact .same rfl

theorem frameEnd_continues : PinsContinue s (slotIds.foldl State.frameSlot s).trigger.nextFrame := by
  have frames : PinsContinue s (slotIds.foldl State.frameSlot s) :=
    frameSlot_acts.continues s (fun _ _ => frameAction_continues) (by rw [frameSlotList_frame])
  refine ⟨by rw [frameEnd_frame], fun i sl' hs => ?_⟩
  rw [nextFrame_slot, trigger_slot, Option.map_eq_some_iff] at hs
  obtain ⟨mid, hmid, rfl⟩ := hs
  obtain ⟨sl, hs, hgo⟩ := frames.slots i mid hmid
  exact ⟨sl, hs, hgo.trans (start_continues mid)⟩

theorem continuePass_continues : PinsContinue s s.continuePass := .same (by rw [continuePass_frame]; rfl)

theorem endPass_banking : s.endPass.banking = s.banking := by rw [endPass_frame]; rfl

theorem holdIfLeft_banking (before : Bool) : (s.holdIfLeft before).banking = s.banking := by
  rw [holdIfLeft_frame]; rfl

theorem cancelRequests_banking (tag : Byte) : (s.cancelRequests tag).banking = s.banking := by
  rw [cancelRequests_eq]; rfl

theorem cancelTag_continues (tag : Byte) : PinsContinue s (s.cancelTag tag) := by
  have acted : PinsContinue s (s.cancelled tag) := by
    refine ((cancelFrom_walkedOn s tag).continues.trans ((cancelSlot_acts tag).continues (s.cancelFrom tag)
      (fun _ _ => cancelAction_continues) ?_)).trans (.same ?_)
    · rw [cancelSlotList_frame tag slotIds_nodup]
    · exact (holdIfLeft_banking _ _).trans (cancelRequests_banking _ tag)
  rw [cancelTag_eq]
  exact ite_holds (acted.trans (continuePass_continues _)) acted

theorem haltAll_continues : PinsContinue s s.haltAll := by
  rw [haltAll_eq]
  exact .of_free rfl fun i => cutSlots_slot s i

theorem enterFault_continues : PinsContinue s s.enterFault := by
  have hend := (enterFault_eq s).trans (freeUpdate_always_eq _)
  refine .of_free (by rw [enterFault_frame]) fun i => ?_
  exact (slot_of_slots (by rw [hend]; rfl) i).trans (cutSlots_slot s.failing i)

/-- The slot of a latch end is freed or becomes ARMED (R119). -/
theorem endLatch_continues (i : Fin 16) : PinsContinue s (s.endLatch i) := by
  cases hs : s.slot i with
  | none => simp only [State.endLatch, hs]; exact .same rfl
  | some sl =>
    by_cases hf : sl.cancel = true ∨ sl.taken = 0
    · obtain ⟨e, he⟩ := freed_ending hf
      rw [endLatch_freed_eq hs he]
      exact (PinsContinue.setSlot (i := i) (o := none) (by simp)).trans (.same rfl)
    · rw [not_or, Bool.not_eq_true] at hf
      rw [endLatch_armed hs hf.1 hf.2]
      refine .trans (.same ?_) ((PinsContinue.setSlot fun sl' h => ?_).trans (onArmed_continues _))
      · rw [setFlagIf_frame]; rfl
      · refine ⟨sl, by rw [setFlagIf_frame]; exact hs, ?_⟩
        exact Option.some.inj h ▸ ⟨rfl, rfl, rfl, rfl, fun k hk => by cases hk⟩

end Operations

/-! ### What a command keeps -/

/-- The records of both banks stand in the order of their keys (R79). -/
def State.RecordsSorted (s : State) : Prop := ∀ b, Store.sorted (s.bank b).records

/-- `t` has legal banks where `s` does. -/
def KeepsBanks (s t : State) : Prop := BanksLegal s → s.RecordsSorted → BanksLegal t

section Keeping

variable {s t : State}

theorem KeepsBanks.continues (h : PinsContinue s t) : KeepsBanks s t := fun hb _ => hb.continues h

theorem KeepsBanks.same (h : t.banking = s.banking) : KeepsBanks s t := .continues (.same h)

/-- A change that leaves banks and slots may come first. -/
theorem KeepsBanks.after {s' : State} (h : KeepsBanks s' t) (e : s'.banking = s.banking) : KeepsBanks s t := by
  intro hb hs
  have hgo := PinsContinue.same e
  exact h (hb.continues hgo) fun b => bank_of_wave hgo.wave b ▸ hs b

/-- A change through which the slots go on may come last. -/
theorem KeepsBanks.andThen {t' : State} (h : KeepsBanks s t) (h' : PinsContinue t t') : KeepsBanks s t' :=
  fun hb hs => (h hb hs).continues h'

/-- Two EMPTY banks that no slot pins are legal (R88). -/
theorem banksLegal_initial (hw : t.wave = ⟨Bank.initial, Bank.initial⟩) (hf : ∀ i, t.slot i = none) : BanksLegal t := by
  obtain ⟨safe, -, -⟩ := resetIsSafe
  refine safe.banks.continues ⟨hw, fun i sl hs => ?_⟩
  rw [hf i] at hs; cases hs

theorem keepsBanks_unmoved (s : State) : Unmoved s (KeepsBanks s) := ⟨.same rfl, fun _ _ => .same rfl⟩

theorem endUntaken_banking (s : State) (rx : Rx) : (s.endUntaken rx).banking = s.banking := by
  unfold State.endUntaken
  split <;> rfl

theorem setFlagIf_banking (s : State) (c : Bool) (f : Flag) : (s.setFlagIf c f).banking = s.banking := by
  cases c <;> rfl

theorem notify_banking (s : State) (w : Bool) (n : Notice) : (s.notify w n).banking = s.banking := by
  rw [notify_frame]; rfl

theorem startReadIfSensor_banking (s : State) (lead : List WireEvent) :
    (s.startReadIfSensor lead).banking = s.banking := by rw [startReadIfSensor_frame]; rfl

theorem recomputeBand_banking (s : State) : s.recomputeBand.banking = s.banking := by rw [recomputeBand_frame]; rfl

theorem failRead_banking (s : State) (events : List WireEvent) : (s.failRead events).banking = s.banking := by
  rw [failRead_frame]; rfl

theorem tempset_banking (s : State) (source : Source) : (s.tempset source).banking = s.banking := by
  unfold State.tempset
  rw [abandonRead_eq]; rfl

theorem fallAsleep_banking (s : State) (p : Power) : (s.fallAsleep p).banking = s.banking := by
  rw [fallAsleep_eq]; rfl

theorem freeMisses_banking (s : State) : s.freeMisses.banking = s.banking := by rw [freeMisses_frame]; rfl

theorem advanceShown_banking (s : State) : s.advanceShown.banking = s.banking := by rw [advanceShown_frame]; rfl

theorem startText_banking (s : State) (x : TextRec) : (s.startText x).banking = s.banking := by
  unfold State.startText
  split
  · rfl
  · exact freeMisses_banking _

theorem keepsBanks_csRise {isKind : Byte → Bool} {body : Bytes} {f : Rx → State → State}
    (act : ∀ rx, KeepsBanks s (f rx (s.setRx none))) : KeepsBanks s (s.csRise isKind body f) := by
  rcases csRise_cases s isKind body f with e | ⟨rx, -, -, ⟨-, e⟩ | ⟨-, e⟩⟩
  · rw [e]; exact .same rfl
  · rw [e]; exact .same (setFlagIf_banking ..)
  · rw [e]; exact act rx

theorem keepsBanks_express {k : RecordKind} {body : Bytes} {f : State → State}
    (act : KeepsBanks s (f (s.setRx none))) : KeepsBanks s (s.express k body f) :=
  keepsBanks_csRise fun rx => by
    split
    · exact act
    · exact .same (endUntaken_banking (s.setRx none) rx)

end Keeping

/-! ### Admission (R85, R103, R115) -/

section Admission

variable {s : State}

/-- A mode is available where the ACTIVE bank holds its record in the current band (R85). -/
theorem available_iff {m : Mode} : s.available m = true ↔
    ∃ b band v, s.activeBank = some b ∧ s.temp.band = some band ∧ (s.bank b).record m band = some v := by
  unfold State.available
  cases s.activeBank with
  | none => simp
  | some b =>
    cases s.temp.band with
    | none => simp
    | some band => simp [Option.isSome_iff_exists]

/-- Resolution answers an available mode alone (R100, R101). -/
theorem resolve_available {r : Request} {unknownSeen promoted : Bool} {m : Mode}
    (h : s.resolve r unknownSeen = some (m, promoted)) : s.available m = true := by
  unfold State.resolve at h
  split at h
  · cases h
  · split at h
    · split at h
      · rename_i ha
        simp only [Option.some.injEq, Prod.mk.injEq] at h
        exact h.1 ▸ ha
      · cases h
    · split at h
      · cases h
      · rename_i found hfind
        have ha := List.find?_some hfind
        split at h
        · rename_i hp
          simp only [Option.some.injEq, Prod.mk.injEq] at h
          rw [Bool.and_eq_true] at hp
          exact h.1 ▸ hp.2
        · simp only [Option.some.injEq, Prod.mk.injEq] at h
          rw [Bool.and_eq_true] at ha
          exact h.1 ▸ ha.2

/-- The slot that takes a request: what 7.4 lists, resolved against bank `b` in `band` (R115). -/
def State.slotFor (s : State) (r : Request) (m : Mode) (promoted : Bool) (b : BankId) (band frames : Nat) : Slot :=
  ⟨.latching, r.tag, r.notify, m, promoted, band, b, frames, s.effective r, 0, 0, [], false⟩

theorem enterSlot_eq {b : BankId} {band : Nat} {m : Mode} {v : WaveRec} (ha : s.activeBank = some b)
    (hband : s.temp.band = some band) (hv : (s.bank b).record m band = some v) (r : Request) (i : Fin 16)
    (promoted : Bool) : s.enterSlot r i m promoted = { s with
      sched := { s.sched with
        requests := dropFirstDue s.sched.requests
        slots := s.sched.slots.set i (some (s.slotFor r m promoted b band v.frames))
        pass := some (.latching i (s.effective r).keys) } } := by
  unfold State.enterSlot
  simp only [ha, hband, Option.getD_some, hv, Option.map_some]
  rfl

/-- An admission pins a record of the ACTIVE bank (R85). -/
theorem enterSlot_keepsBanks {m : Mode} (ha : s.available m = true) (r : Request) (i : Fin 16) (promoted : Bool) :
    KeepsBanks s (s.enterSlot r i m promoted) := fun h _ => by
  obtain ⟨b, band, v, hb, hband, hv⟩ := available_iff.mp ha
  have hactive : (s.bank b).state = .active := bankIn_state hb
  obtain ⟨-, -, -, hone, -⟩ := h.inBudget b
  have hframes : 1 ≤ v.frames := hone _ (Store.mem_of_get? hv)
  rw [enterSlot_eq hb hband hv]
  generalize ht : State.mk _ _ _ _ _ _ _ _ _ _ _ _ _ _ _ = t
  have hwave : t.wave = s.wave := by rw [← ht]
  have bank := bank_of_wave hwave
  have slot : ∀ j sl, t.slot j = some sl → s.slot j = some sl ∨ sl = s.slotFor r m promoted b band v.frames := by
    intro j sl hj
    have hset : t.slot j = (s.setSlot i (some (s.slotFor r m promoted b band v.frames))).slot j := by
      rw [← ht]; rfl
    rw [hset] at hj
    by_cases e : j = i
    · subst e
      rw [State.setSlot_slot_same] at hj
      exact .inr (Option.some.inj hj).symm
    · rw [State.setSlot_slot_other _ _ _ _ e] at hj
      exact .inl hj
  refine ⟨hwave ▸ h.active, hwave ▸ h.loading, hwave ▸ h.budgets, fun b => bank b ▸ h.empty b, fun j sl hj => ?_,
    fun j sl hj => ?_, fun j sl k hj hk => ?_⟩
  · rw [bank]
    rcases slot j sl hj with hj | rfl
    · exact h.pins j sl hj
    · exact .inl hactive
  · rw [bank]
    rcases slot j sl hj with hj | rfl
    · exact h.pinned j sl hj
    · exact ⟨v, hv, rfl, hframes⟩
  · rcases slot j sl hj with hj | rfl
    · exact h.index j sl k hj hk
    · cases hk

theorem resolveAndAdmit_keepsBanks (r : Request) (unknownSeen : Bool) :
    KeepsBanks s (s.resolveAndAdmit r unknownSeen) := by
  unfold State.resolveAndAdmit
  split
  · rename_i hm _; exact enterSlot_keepsBanks (resolve_available hm) r _ _
  · exact .continues ((continuePass_continues _).after (notify_banking (s.setRequests _) _ _))
  · exact .same (endPass_banking s)

end Admission

/-! ### The records of chapter 05 (R80 to R84) -/

section Records

variable {s : State}

/-- The bank that a WAVEBEGIN acts on: the one that is not ACTIVE; with none ACTIVE, the LOADING one or bank A (R80). -/
def State.BeginsOn (s : State) (b : BankId) : Prop :=
  (s.bank b.other).state = .active ∨
    ((s.bank .bankA).state ≠ .active ∧ (s.bank .bankB).state ≠ .active ∧
      ((s.bank b).state = .loading ∨ (b = .bankA ∧ (s.bank .bankB).state ≠ .loading)))

theorem no_active_iff : s.activeBank = none ↔ (s.bank .bankA).state ≠ .active ∧ (s.bank .bankB).state ≠ .active := by
  rw [State.activeBank, bankIn_eq_none]
  exact ⟨fun h => ⟨h _, h _⟩, fun h b => by
    cases b
    · exact h.1
    · exact h.2⟩

theorem BanksLegal.beginTarget_eq (h : BanksLegal s) {b : BankId} (hb : s.BeginsOn b) : s.beginTarget = b := by
  unfold State.beginTarget
  rcases hb with ha | ⟨ha, hb, hl⟩
  · rw [h.activeBank_eq ha]; exact b.other_other
  · rw [no_active_iff.mpr ⟨ha, hb⟩]
    rcases hl with hl | ⟨rfl, hl⟩
    · rw [h.loadingBank_eq hl]; rfl
    · by_cases hA : (s.bank .bankA).state = .loading
      · rw [h.loadingBank_eq hA]; rfl
      · have hnone : s.bankIn .loading = none := bankIn_eq_none.mpr fun b => by
          cases b
          · exact hA
          · exact hl
        rw [hnone]; rfl

theorem beginsOn_beginTarget (s : State) : s.BeginsOn s.beginTarget := by
  unfold State.beginTarget
  split
  · rename_i b hb
    refine .inl ?_
    rw [b.other_other]; exact bankIn_state hb
  · rename_i hnone
    obtain ⟨hA, hB⟩ := no_active_iff.mp hnone
    refine .inr ⟨hA, hB, ?_⟩
    cases hl : s.bankIn .loading with
    | none => exact .inr ⟨rfl, bankIn_eq_none.mp hl _⟩
    | some b => exact .inl (bankIn_state hl)

/-- The target of a WAVEBEGIN is not ACTIVE, and no other bank is LOADING (R77, R80). -/
theorem BanksLegal.target_free (h : BanksLegal s) {b : BankId} (hb : s.BeginsOn b) :
    (s.bank b).state ≠ .active ∧ (s.bank b.other).state ≠ .loading := by
  rcases hb with ha | ⟨hA, hB, hl⟩
  · exact ⟨b.other_other ▸ h.active_alone ha, by rw [ha]; decide⟩
  · refine ⟨by cases b <;> assumption, ?_⟩
    rcases hl with hl | ⟨rfl, hl⟩
    · exact h.loading_alone hl
    · exact hl

/-- A WAVEBEGIN clears a bank that no slot pins (R81). -/
theorem begin_keepsBanks {body : Bytes} {w : WaveHeader} (hp : parseWavebegin body = .ok w)
    (hw : ¬ ((s.bank s.beginTarget).state = .retired ∧ 0 < s.pins s.beginTarget)) :
    KeepsBanks s (s.setBank s.beginTarget ⟨.loading, w.bounds, w.ceiling, []⟩) := fun h _ => by
  obtain ⟨hactive, hloading⟩ := h.target_free (beginsOn_beginTarget s)
  exact h.setBank (wavebegin_inBudget hp) (fun e => by cases e) (fun e => by cases e) (fun _ => hloading)
    fun i sl hs e => absurd e (h.no_pin_of_waits hw hactive hs)

/-- No slot pins a LOADING bank (R86). -/
theorem BanksLegal.loading_unpinned (h : BanksLegal s) {b : BankId} (hl : (s.bank b).state = .loading) {i : Fin 16}
    {sl : Slot} (hs : s.slot i = some sl) : sl.bank ≠ b := by
  rintro rfl
  rcases h.pins i sl hs with h' | h' <;> rw [hl] at h' <;> cases h'

/-- A WAVEPUT writes the LOADING bank alone (R79, R83). -/
theorem put_keepsBanks {body : Bytes} {r : WaveputRec} {b : BankId} (hb : s.bankIn .loading = some b)
    (hp : checkWaveput (some (s.bank b)) body = .ok r) : KeepsBanks s (s.setBank b ((s.bank b).putRecord r)) :=
  fun h hs => by
    have hl : (s.bank b).state = .loading := bankIn_state hb
    have hstate : ((s.bank b).putRecord r).state = .loading := hl
    refine h.setBank (waveput_inBudget (hs b) (h.inBudget b) hp) ?_ (fun e => ?_) (fun _ => h.loading_alone hl)
      fun i sl hi e => absurd e (h.loading_unpinned hl hi)
    · rw [hstate]; decide
    · rw [hstate] at e; cases e

/-- A bank that becomes RETIRED keeps its pins (R84, R86). -/
theorem BanksLegal.retire (h : BanksLegal s) (b : BankId) :
    BanksLegal (s.setBank b ((s.bank b).withState .retired)) :=
  h.setBank (h.inBudget b) (by simp [Bank.withState]) (by simp [Bank.withState]) (by simp [Bank.withState])
    fun _ _ _ _ => ⟨.inr rfl, rfl⟩

/-- A LOADING bank becomes ACTIVE where no other is (R84). -/
theorem BanksLegal.activate (h : BanksLegal s) {b : BankId} (hl : (s.bank b).state = .loading)
    (ho : (s.bank b.other).state ≠ .active) : BanksLegal (s.setBank b ((s.bank b).withState .active)) :=
  h.setBank (h.inBudget b) (by simp [Bank.withState]) (fun _ => ho) (by simp [Bank.withState])
    fun i sl hs e => absurd e (h.loading_unpinned hl hs)

/-- The two banks after a commit, before the band is recomputed (R84). -/
def State.switchBanks (s : State) (b : BankId) : State :=
  let s := if (s.bank b.other).state = .active then s.setBank b.other ((s.bank b.other).withState .retired) else s
  s.setBank b ((s.bank b).withState .active)

theorem BanksLegal.commitBank_eq (h : BanksLegal s) {b : BankId} (hl : (s.bank b).state = .loading) :
    s.commitBank b = (s.switchBanks b).recomputeBand := by
  unfold State.commitBank State.switchBanks
  by_cases ha : (s.bank b.other).state = .active
  · rw [h.activeBank_eq ha, if_pos ha]
  · have hnone : s.activeBank = none := bankIn_eq_none.mpr fun b' => by
      rcases BankId.eq_or_other b b' with rfl | rfl
      · rw [hl]; decide
      · exact ha
    rw [hnone, if_neg ha]

theorem commit_keepsBanks {b : BankId} (hl : (s.bank b).state = .loading) : KeepsBanks s (s.commitBank b) :=
  fun h _ => by
    rw [h.commitBank_eq hl]
    refine BanksLegal.continues ?_ (.same (recomputeBand_banking _))
    unfold State.switchBanks
    by_cases ha : (s.bank b.other).state = .active
    · rw [if_pos ha]
      have hkept : (s.setBank b.other ((s.bank b.other).withState .retired)).bank b = s.bank b := by
        cases b <;> rfl
      refine (h.retire b.other).activate (hkept ▸ hl) ?_
      rw [State.setBank_bank_same]; simp [Bank.withState]
    · rw [if_neg ha]; exact h.activate hl ha

end Records

/-! ### The commands -/

/-- Whatever state a command answers has legal banks where `s` does. -/
def AnswersBanks (s : State) (o : Outcome State Fault Refusal) : Prop := ∀ t, o = .next t → KeepsBanks s t

theorem AnswersBanks.next {s t : State} (h : KeepsBanks s t) : AnswersBanks s (.next t) := fun u e => by
  injection e with e; exact e ▸ h

section Commands

variable (s : State)

/-! #### The Link Port (09) -/

theorem execHeaderDecode_keepsBanks (counted : Bool) (target kind : Byte) (length : BitVec 16) :
    AnswersBanks s (execHeaderDecode counted target kind length s) := by
  refine .next (ite_holds (.same rfl) ?_)
  unfold State.decodeHeader
  dsimp only
  refine ite_holds (.same rfl) (ite_holds (.same (setFlagIf_banking ..)) ?_)
  have shown : KeepsBanks s (if kind = RecordKind.fetchlive.code then (s.setMiso []).advanceShown else s.setMiso []) :=
    ite_holds (.same (advanceShown_banking (s.setMiso []))) (.same rfl)
  split
  · exact shown.andThen (.same rfl)
  · exact shown.andThen (.same rfl)

theorem execRecordReceived_keepsBanks (body : Bytes) : AnswersBanks s (execRecordReceived body s) :=
  .next (keepsBanks_csRise fun rx => by
    split
    · exact .same rfl
    · exact .same (endUntaken_banking (s.setRx none) rx))

theorem execFramingError_keepsBanks (cut : FramingCut) : AnswersBanks s (execFramingError cut s) := by
  refine .next ?_
  split
  · exact ite_holds (.same rfl) (ite_holds (.same (setFlagIf_banking ..)) (.same rfl))
  · split
    · exact .same rfl
    · exact .same (setFlagIf_banking ..)

theorem execUnknownKind_keepsBanks : AnswersBanks s (execUnknownKind s) := by
  refine .next (ite_holds ?_ (.same rfl))
  split
  · exact .same rfl
  · exact ite_holds (.same rfl) (.same rfl)

theorem execFetchlive_keepsBanks : AnswersBanks s (execFetchlive s) := by
  refine .next ?_
  split
  · exact .same rfl
  · split <;> exact .same rfl

theorem execFetchqueue_keepsBanks : AnswersBanks s (execFetchqueue s) := by
  refine .next ?_
  split
  · exact .same rfl
  · split
    · exact .same rfl
    · exact ite_holds (.same rfl) (.same rfl)
    · exact ite_holds (.same (endUntaken_banking (s.setRx none) _)) (.same rfl)

/-! #### Drawing (03, 04) -/

theorem execFill_keepsBanks : AnswersBanks s (execFill s) :=
  .next (withDraw_holds (keepsBanks_unmoved s) fun _ => by split <;> exact .same rfl)

theorem execCopy_keepsBanks : AnswersBanks s (execCopy s) :=
  .next (withDraw_holds (keepsBanks_unmoved s) fun _ => by split <;> exact .same rfl)

theorem execHilite_keepsBanks : AnswersBanks s (execHilite s) :=
  .next (withDraw_holds (keepsBanks_unmoved s) fun _ => by
    split
    · exact .same rfl
    · exact ite_holds (.same rfl) (.same rfl))

theorem execText_keepsBanks : AnswersBanks s (execText s) :=
  .next (withDraw_holds (keepsBanks_unmoved s) fun _ => by
    split
    · exact .same rfl
    · exact ite_holds (.same rfl) (.same (startText_banking s.pop _)))

theorem execClippush_keepsBanks : AnswersBanks s (execClippush s) :=
  .next (withDraw_holds (keepsBanks_unmoved s) fun _ => by
    split
    · exact .same rfl
    · exact .same (setFlagIf_banking ..))

theorem execClippop_keepsBanks : AnswersBanks s (execClippop s) :=
  .next (withDraw_holds (keepsBanks_unmoved s) fun _ => by
    split
    · exact .same rfl
    · exact .same (setFlagIf_banking ..))

theorem execClipreset_keepsBanks : AnswersBanks s (execClipreset s) :=
  .next (withDraw_holds (keepsBanks_unmoved s) fun _ => by split <;> exact .same rfl)

theorem execDrawEnd_keepsBanks : AnswersBanks s (execDrawEnd s) := by
  refine .next ?_
  split
  · dsimp only
    split
    · exact .same (setFlagIf_banking ..)
    · exact .same rfl
    · exact .same rfl
    · exact .same rfl
  · exact .same rfl

/-! #### The Table Store (02) -/

/-- A record of the Table Store that takes effect leaves banks and slots. -/
theorem withTable_keepsBanks {k : RecordKind} {f : Bytes → State} (h : ∀ body, (f body).banking = s.banking) :
    KeepsBanks s (s.withTable k f) :=
  withTable_holds (keepsBanks_unmoved s) fun body => .same (h body)

theorem execGlyphWriteEnd_keepsBanks : AnswersBanks s (execGlyphWriteEnd s) := by
  refine .next ?_
  split
  · exact .same rfl
  · dsimp only
    split
    · exact .same (startText_banking ..)
    · exact .same rfl
    · exact .same rfl

/-! #### Waveforms and temperature (05, 06) -/

theorem execWavebegin_keepsBanks : AnswersBanks s (execWavebegin s) :=
  .next (withHead_holds (keepsBanks_unmoved s) fun _ => by
    split
    · exact .same rfl
    · rename_i hp
      dsimp only
      split
      · exact .same rfl
      · rename_i hw
        exact (begin_keepsBanks (s := s.pop) hp hw).after rfl)

theorem execWaveput_keepsBanks : AnswersBanks s (execWaveput s) :=
  .next (withHead_holds (keepsBanks_unmoved s) fun body => by
    cases hb : s.bankIn .loading with
    | none => dsimp only; split <;> exact .same rfl
    | some b =>
      dsimp only
      split
      · exact .same rfl
      · rename_i hp
        exact (put_keepsBanks (s := s.pop) hb hp).after rfl)

theorem execWavecommit_keepsBanks : AnswersBanks s (execWavecommit s) :=
  .next (withHead_holds (keepsBanks_unmoved s) fun _ => by
    split
    · exact .same rfl
    · split
      · exact .same rfl
      · rename_i b hb
        exact ite_holds (.same rfl) ((commit_keepsBanks (s := s.pop) (bankIn_state hb)).after rfl))

theorem execTempsetFixed_keepsBanks : AnswersBanks s (execTempsetFixed s) :=
  .next (withTempset_holds (keepsBanks_unmoved s) fun _ =>
    .same ((recomputeBand_banking _).trans (tempset_banking s.pop .fixed)))

theorem execTempsetSensor_keepsBanks : AnswersBanks s (execTempsetSensor s) :=
  .next (withTempset_holds (keepsBanks_unmoved s) fun _ => .same (tempset_banking s.pop .sensor))

/-! #### Updates (07) -/

theorem execUpdate_keepsBanks : AnswersBanks s (execUpdate s) :=
  .next (withHead_holds (keepsBanks_unmoved s) fun _ => by
    split
    · exact .same rfl
    · exact ite_holds (.same (notify_banking ..)) (ite_holds (.same rfl) (.same rfl)))

theorem execAdmissionPass_keepsBanks : AnswersBanks s (execAdmissionPass s) := by
  refine .next (ite_holds (.continues ((continuePass_continues _).after ?_)) (.same rfl))
  rw [beginPass_eq]; rfl

theorem execResolutionPixelReadsEnd_keepsBanks : AnswersBanks s (execResolutionPixelReadsEnd s) := by
  refine .next ?_
  split
  · exact ite_holds (.continues ((continuePass_continues _).after rfl)) (.same rfl)
  · exact resolveAndAdmit_keepsBanks _ _
  · exact .same rfl

theorem execLatchEnd_keepsBanks : AnswersBanks s (execLatchEnd s) := by
  refine .next (.continues ?_)
  split
  · refine ite_holds (.same rfl) ((freeAdvanceRead_continues s).trans ?_)
    dsimp only
    split
    · exact ((advancePass_continues _ _).trans (endLatch_continues _ _)).trans (continuePass_continues _)
    · exact .same rfl
  · exact .same rfl

theorem execFrameEnd_keepsBanks : AnswersBanks s (execFrameEnd s) :=
  .next (ite_holds (.continues ((advanceWalks_continues s).trans (frameEnd_continues _))) (.same rfl))

theorem execCancel_keepsBanks (body : Bytes) : AnswersBanks s (execCancel body s) :=
  .next (keepsBanks_express (ite_holds (.same rfl) (.continues ((cancelTag_continues (s.setRx none) _).after rfl))))

theorem execHalt_keepsBanks (body : Bytes) : AnswersBanks s (execHalt body s) :=
  .next (keepsBanks_express (ite_holds (.same rfl) (.continues ((haltAll_continues (s.setRx none)).after rfl))))

/-! #### The panel and the rails (01, 08) -/

theorem execPanelset_keepsBanks : AnswersBanks s (execPanelset s) :=
  .next (withHead_holds (keepsBanks_unmoved s) fun _ => by
    split
    · exact .same rfl
    · exact ite_holds (.same rfl) (ite_holds (.same rfl) (.same rfl)))

theorem execRailctlOff_keepsBanks : AnswersBanks s (execRailctlOff s) :=
  .next (withRailctl_holds (keepsBanks_unmoved s) (ite_holds (.same rfl) (by split <;> exact .same rfl)))

theorem execRailctlClear_keepsBanks : AnswersBanks s (execRailctlClear s) :=
  .next (withRailctl_holds (keepsBanks_unmoved s) (ite_holds (.same rfl) (.same rfl)))

theorem execPgoodAsserted_keepsBanks : AnswersBanks s (execPgoodAsserted s) :=
  .next (ite_holds (.continues ((reachOn_continues _).after rfl)) (.same rfl))

theorem execPgoodLost_keepsBanks : AnswersBanks s (execPgoodLost s) :=
  .next (ite_holds (.continues ((enterFault_continues _).after rfl)) (.same rfl))

theorem execFallTimerExpiry_keepsBanks : AnswersBanks s (execFallTimerExpiry s) :=
  .next (ite_holds (ite_holds (.continues ((enterRising_continues _).after rfl)) (.same rfl)) (.same rfl))

/-! #### The Event and Reply Unit (09) -/

theorem execEvmask_keepsBanks : AnswersBanks s (execEvmask s) :=
  .next (withHead_holds (keepsBanks_unmoved s) fun _ => by split <;> exact .same rfl)

theorem execEvclear_keepsBanks : AnswersBanks s (execEvclear s) :=
  .next (withHead_holds (keepsBanks_unmoved s) fun _ => by
    split
    · exact .same rfl
    · exact .same (freeMisses_banking s))

theorem execReadGlyph_keepsBanks : AnswersBanks s (execReadGlyph s) :=
  .next (withRead_holds (keepsBanks_unmoved s) fun _ => ite_holds (.same rfl) (ite_holds (.same rfl)
    (ifRoom_holds (keepsBanks_unmoved s) (ite_holds (.same rfl) (.same rfl)))))

theorem execReadGlyphEnd_keepsBanks : AnswersBanks s (execReadGlyphEnd s) :=
  .next (by split <;> exact .same rfl)

theorem execReadKern_keepsBanks : AnswersBanks s (execReadKern s) :=
  .next (withRead_holds (keepsBanks_unmoved s) fun _ => ite_holds (.same rfl) (ite_holds (.same rfl)
    (ifRoom_holds (keepsBanks_unmoved s) (.same rfl))))

theorem execReadStyle_keepsBanks : AnswersBanks s (execReadStyle s) :=
  .next (withRead_holds (keepsBanks_unmoved s) fun _ => ite_holds (.same rfl)
    (ifRoom_holds (keepsBanks_unmoved s) (.same rfl)))

theorem execReadWave_keepsBanks : AnswersBanks s (execReadWave s) :=
  .next (withRead_holds (keepsBanks_unmoved s) fun _ => ite_holds (.same rfl)
    (ifRoom_holds (keepsBanks_unmoved s) (.same rfl)))

theorem execReadResidue_keepsBanks : AnswersBanks s (execReadResidue s) :=
  .next (withRead_holds (keepsBanks_unmoved s) fun _ => ifRoom_holds (keepsBanks_unmoved s) (.same rfl))

theorem execReadPixels_keepsBanks : AnswersBanks s (execReadPixels s) :=
  .next (withRead_holds (keepsBanks_unmoved s) fun _ => ite_holds (.same rfl) (by
    split
    · exact .same rfl
    · exact ifRoom_holds (keepsBanks_unmoved s) (.same rfl)))

theorem execReadPixelsEnd_keepsBanks : AnswersBanks s (execReadPixelsEnd s) := by
  refine .next (.continues ?_)
  split
  · rename_i r _
    have hread := readMany_continues s r.todo.length
    dsimp only
    split
    · exact hread.trans (.same rfl)
    · exact hread
  · exact .same rfl

/-! #### Power states and resets (09) -/

theorem execSleep_keepsBanks : AnswersBanks s (execSleep s) :=
  .next (withSleep_holds (keepsBanks_unmoved s) (.same (fallAsleep_banking s .sleep)))

theorem execSleepDeep_keepsBanks : AnswersBanks s (execSleepDeep s) :=
  .next (withSleep_holds (keepsBanks_unmoved s) (.same (fallAsleep_banking s .deep)))

theorem execWake_keepsBanks (body : Bytes) : AnswersBanks s (execWake body s) :=
  .next (keepsBanks_csRise fun rx => by
    split
    · refine ite_holds ?_ (.same rfl)
      split <;> exact .same rfl
    · exact .same (endUntaken_banking (s.setRx none) rx))

theorem execPinReset_keepsBanks : AnswersBanks s (execPinReset s) :=
  .next fun _ _ => banksLegal_initial rfl reset_slot

theorem execStartingEnd_keepsBanks : AnswersBanks s (execStartingEnd s) :=
  .next (ite_holds (.same (startReadIfSensor_banking ..)) (.same rfl))

theorem execWakingEnd_keepsBanks : AnswersBanks s (execWakingEnd s) := by
  refine .next ?_
  split
  · refine .same ((startReadIfSensor_banking ..).trans ?_)
    exact ite_holds (P := fun t : State => t.banking = s.banking) rfl rfl
  · exact .same rfl

/-- A soft reset ends every slot, and empties the banks or keeps them (R88, R128). -/
theorem softReset_keepsBanks (keep : Bool) : KeepsBanks s (s.softReset keep) := fun h _ => by
  obtain ⟨cut, n, -, e⟩ := softReset_blocks s keep
  rw [e]
  cases keep
  · exact banksLegal_initial rfl reset_slot
  · exact h.continues (.of_free rfl reset_slot)

theorem resetRecord_keepsBanks (option : Nat) (keep : Bool) (body : Bytes) :
    AnswersBanks s (.next (s.resetRecord option keep body)) :=
  .next (ite_holds (.same rfl) (keepsBanks_express (ite_holds (.same rfl) (ite_holds (.same rfl)
    ((softReset_keepsBanks (s.setRx none) keep).after rfl)))))

end Commands

/-- Every command keeps the banks legal. -/
theorem exec_keepsBanks (c : Instr) (s : State) : AnswersBanks s (exec c s) := by
  cases c with
  | pinReset => exact execPinReset_keepsBanks s
  | resetNRelease a0 a1 => exact .next (ite_holds (.same rfl) (.same rfl))
  | startingEnd => exact execStartingEnd_keepsBanks s
  | headerDecode counted target kind length => exact execHeaderDecode_keepsBanks s counted target kind length
  | recordReceived body => exact execRecordReceived_keepsBanks s body
  | framingError cut => exact execFramingError_keepsBanks s cut
  | unknownKind => exact execUnknownKind_keepsBanks s
  | fill => exact execFill_keepsBanks s
  | text => exact execText_keepsBanks s
  | hilite => exact execHilite_keepsBanks s
  | copy => exact execCopy_keepsBanks s
  | clippush => exact execClippush_keepsBanks s
  | clippop => exact execClippop_keepsBanks s
  | clipreset => exact execClipreset_keepsBanks s
  | drawEnd => exact execDrawEnd_keepsBanks s
  | fontdef => exact .next (withTable_keepsBanks s fun _ => by split <;> rfl)
  | fontdrop => exact .next (withTable_keepsBanks s fun _ => by split <;> rfl)
  | glyphput => exact .next (withTable_keepsBanks s fun _ => by split <;> rfl)
  | glyphWriteEnd => exact execGlyphWriteEnd_keepsBanks s
  | glyphdrop => exact .next (withTable_keepsBanks s fun _ => by split <;> rfl)
  | kernload => exact .next (withTable_keepsBanks s fun _ => by split <;> rfl)
  | styleset => exact .next (withTable_keepsBanks s fun _ => by split <;> rfl)
  | wavebegin => exact execWavebegin_keepsBanks s
  | waveput => exact execWaveput_keepsBanks s
  | wavecommit => exact execWavecommit_keepsBanks s
  | update => exact execUpdate_keepsBanks s
  | admissionPass => exact execAdmissionPass_keepsBanks s
  | latchEnd => exact execLatchEnd_keepsBanks s
  | frameEnd => exact execFrameEnd_keepsBanks s
  | cancel body => exact execCancel_keepsBanks s body
  | halt body => exact execHalt_keepsBanks s body
  | panelset => exact execPanelset_keepsBanks s
  | reinitEnd => exact .next (ite_holds (.same rfl) (.same rfl))
  | railctlOff => exact execRailctlOff_keepsBanks s
  | railctlClear => exact execRailctlClear_keepsBanks s
  | pgoodAsserted => exact execPgoodAsserted_keepsBanks s
  | pgoodLost => exact execPgoodLost_keepsBanks s
  | riseTimerExpiry => exact .next (ite_holds (.continues (enterFault_continues s)) (.same rfl))
  | holdTimerExpiry => exact .next (ite_holds (.same rfl) (.same rfl))
  | fallTimerExpiry => exact execFallTimerExpiry_keepsBanks s
  | tempsetFixed => exact execTempsetFixed_keepsBanks s
  | tempsetSensor => exact execTempsetSensor_keepsBanks s
  | sampleIntervalExpiry => exact .next (ite_holds (.same rfl) (.same rfl))
  | sensorReadEnd raw => exact .next (ite_holds (.same (recomputeBand_banking _)) (.same rfl))
  | sensorNoAck => exact .next (ite_holds (.same (failRead_banking s _)) (.same rfl))
  | sensorReadTimeout => exact .next (ite_holds (.same (failRead_banking s.useFree _)) (.same rfl))
  | evmask => exact execEvmask_keepsBanks s
  | evclear => exact execEvclear_keepsBanks s
  | readGlyph => exact execReadGlyph_keepsBanks s
  | readGlyphEnd => exact execReadGlyphEnd_keepsBanks s
  | readKern => exact execReadKern_keepsBanks s
  | readStyle => exact execReadStyle_keepsBanks s
  | readWave => exact execReadWave_keepsBanks s
  | readResidue => exact execReadResidue_keepsBanks s
  | readPixels => exact execReadPixels_keepsBanks s
  | readPixelsEnd => exact execReadPixelsEnd_keepsBanks s
  | sleep => exact execSleep_keepsBanks s
  | sleepDeep => exact execSleepDeep_keepsBanks s
  | wake body => exact execWake_keepsBanks s body
  | wakingEnd => exact execWakingEnd_keepsBanks s
  | reset body => exact resetRecord_keepsBanks s 0 false body
  | resetKeepTables body => exact resetRecord_keepsBanks s 1 true body
  | fetchlive => exact execFetchlive_keepsBanks s
  | fetchqueue => exact execFetchqueue_keepsBanks s
  | resolutionPixelReadsEnd => exact execResolutionPixelReadsEnd_keepsBanks s

theorem StoresCanonical.recordsSorted {s : State} (h : StoresCanonical s) : s.RecordsSorted := fun b => by
  cases b
  · exact h.recordsA
  · exact h.recordsB

/-- Settles O56: a record of chapter 05 changes a bank that no slot pins or only its state, an admission pins a record
of the ACTIVE bank, a reset ends every slot, and all else lets the slots go on. -/
theorem stepKeepsBanksLegal : Obligations.StepKeepsBanksLegal := by
  intro s t hb hs h
  unfold step at h
  split at h
  · injection h with h; exact h ▸ hb
  · rename_i i rest _
    have keeps : KeepsBanks s t := (exec_keepsBanks i { s with pending := rest } t h).after rfl
    exact keeps hb hs.recordsSorted

end Sys2Proof.Machine
end

section
/-! SUPPORT. WAVEBEGIN, WAVEPUT and WAVECOMMIT at the intake head (R80 to R84). -/

namespace Sys2Proof.Machine

open Host (Outcome)

section Dispatched

variable {s : State} {body : Bytes} {rest : List Record}

theorem setBank_frame (s : State) (b : BankId) (v : Bank) : s.setBank b v = { s with wave := (s.setBank b v).wave } := by
  cases b <;> rfl

theorem taken_bank (s : State) (rest : List Record) (b : BankId) : (taken s rest).bank b = s.bank b :=
  bank_of_wave rfl b

/-! ### WAVEBEGIN (R80, R81) -/

theorem wavebegin_refuses (hd : Dispatches s .wavebegin body rest) {r : Reason} (hp : parseWavebegin body = .refuse r) :
    exec .wavebegin s = .next (refusedAt s .wavebegin r rest) :=
  withHead_refuses hd (by rw [hp])

theorem wavebegin_checked (hd : Dispatches s .wavebegin body rest) {w : WaveHeader} (hp : parseWavebegin body = .ok w) :
    exec .wavebegin s = .next
      (if (s.bank s.beginTarget).state = .retired ∧ 0 < s.pins s.beginTarget then s
        else (taken s rest).setBank s.beginTarget ⟨.loading, w.bounds, w.ceiling, []⟩) := by
  show Outcome.next _ = _
  rw [withHead_of_dispatches hd, hp, pop_eq_taken hd]

/-- Settles O22: the checks by `parseWavebegin_eq`, the target by `BanksLegal.beginTarget_eq`. -/
theorem wavebeginClearsTarget : Obligations.WavebeginClearsTarget := by
  intro s body rest hd n bounds ceiling legal refused
  have nonempty : 1 ≤ n → body ≠ [] := by
    intro hn hb
    subst hb
    exact absurd hn (by decide)
  have checks := parseWavebegin_eq body
  refine ⟨fun hb => wavebegin_refuses hd (checks.trans (if_pos hb)), fun hb hn => wavebegin_refuses hd ?field,
    fun hlo hhi hl => wavebegin_refuses hd ?length, fun hlo hhi hl hlegal => wavebegin_refuses hd ?header,
    fun hlo hhi hl hlegal hbanks b htarget => ?_⟩
  case field => rw [checks, if_neg hb, if_pos hn]
  case length => rw [checks, if_neg (nonempty hlo), if_neg (by omega), if_pos hl]
  case header =>
    rw [checks, if_neg (nonempty hlo), if_neg (by omega), if_neg (not_not.mpr hl)]
    exact if_neg hlegal
  have hp : parseWavebegin body = .ok ⟨bounds, ceiling⟩ := by
    rw [checks, if_neg (nonempty hlo), if_neg (by omega), if_neg (not_not.mpr hl)]
    exact if_pos hlegal
  have hexec := wavebegin_checked hd hp
  rw [hbanks.beginTarget_eq htarget] at hexec
  refine ⟨fun hr hpins => hexec.trans (congrArg Outcome.next (if_pos ⟨hr, hpins⟩)), fun hw => ?_⟩
  refine ⟨_, hexec.trans (congrArg Outcome.next (if_neg hw)), State.setBank_bank_same .., ?_, setBank_frame ..⟩
  rw [State.setBank_bank_other, taken_bank]

/-! ### WAVEPUT (R82, R83) -/

theorem waveput_refuses (hd : Dispatches s .waveput body rest) {r : Reason}
    (hp : checkWaveput ((s.bankIn .loading).map s.bank) body = .refuse r) :
    exec .waveput s = .next (refusedAt s .waveput r rest) :=
  withHead_refuses hd (by rw [hp])

theorem waveput_checked (hd : Dispatches s .waveput body rest) {b : BankId} (hb : s.bankIn .loading = some b)
    {r : WaveputRec} (hp : checkWaveput (some (s.bank b)) body = .ok r) :
    exec .waveput s = .next ((taken s rest).setBank b ((s.bank b).putRecord r)) := by
  show Outcome.next _ = _
  rw [withHead_of_dispatches hd, hb, Option.map_some, hp, pop_eq_taken hd]

theorem checkWaveput_length (bank : Option Bank) (h : body.length < 4) : checkWaveput bank body = .refuse .length :=
  if_pos h

/-- The checks of a WAVEPUT for a mode, with a LOADING bank (R82). -/
theorem checkWaveput_eq (v : Bank) (hl : 4 ≤ body.length) {m : Mode} (hm : m.code = u8 body 0) :
    checkWaveput (some v) body =
      if v.bounds.length ≤ u8 body 1 then .refuse .field
      else if u16 body 2 = 0 ∨ 60 < u16 body 2 then .refuse .field
      else if body.length ≠ (if m = .clean then 4 + 4 * u16 body 2 else 4 + 64 * u16 body 2) then .refuse .length
      else if v.fits m (u8 body 1) (u16 body 2) = true then .ok ⟨m, u8 body 1, ⟨u16 body 2, body.drop 4⟩⟩
      else .refuse .storeFull := by
  have hbytes : 4 + matrixBytes m * u16 body 2 = if m = .clean then 4 + 4 * u16 body 2 else 4 + 64 * u16 body 2 := by
    unfold matrixBytes
    split <;> rfl
  unfold checkWaveput
  simp only [if_neg (not_lt.mpr hl), ofCode_eq_some.mpr hm, Nat.lt_one_iff, hbytes]
  cases v.fits m (u8 body 1) (u16 body 2) <;> rfl

theorem mode_of_code {n : Nat} (h : n ≤ 4) : ∃ m : Mode, m.code = n := by
  interval_cases n
  · exact ⟨.clean, rfl⟩
  · exact ⟨.tone16, rfl⟩
  · exact ⟨.tone4, rfl⟩
  · exact ⟨.bilevel, rfl⟩
  · exact ⟨.stroke, rfl⟩

theorem ofCode_none {n : Nat} (h : 4 < n) : Mode.ofCode n = none := by
  cases e : Mode.ofCode n with
  | none => rfl
  | some m =>
    have hcode : ∀ m : Mode, m.code ≤ 4 := by intro m; cases m <;> decide
    have := hcode m
    rw [ofCode_eq_some.mp e] at this
    omega

/-- Settles O23: the checks by `checkWaveput_eq`, the bank by the lemmas about `Bank.putRecord`. -/
theorem waveputAddsRecord : Obligations.WaveputAddsRecord := by
  intro s body rest hd refused
  refine ⟨fun hl => waveput_refuses hd (checkWaveput_length _ hl), fun hl hA hB => waveput_refuses hd ?state,
    fun b hl hbanks hstores hload => ?_⟩
  case state =>
    have hnone : s.bankIn .loading = none := bankIn_eq_none.mpr fun b => by
      cases b
      · exact hA
      · exact hB
    rw [hnone]
    exact if_neg (not_lt.mpr hl)
  intro v band f
  have hb : s.bankIn .loading = some b := hbanks.loadingBank_eq hload
  have refuses : ∀ {r}, checkWaveput (some v) body = .refuse r → refused r := fun hp =>
    waveput_refuses hd (by rw [hb]; exact hp)
  refine ⟨fun hc => refuses ?code, fun hc hband => ?_, fun hc hband hf => ?_, fun m hm hband hlo hhi => ?_⟩
  case code =>
    unfold checkWaveput
    simp only [if_neg (not_lt.mpr hl), ofCode_none hc]
  · obtain ⟨m, hm⟩ := mode_of_code hc
    exact refuses ((checkWaveput_eq v hl hm).trans (if_pos hband))
  · obtain ⟨m, hm⟩ := mode_of_code hc
    exact refuses (by rw [checkWaveput_eq v hl hm, if_neg (not_le.mpr hband), if_pos hf])
  have checks := checkWaveput_eq v hl hm
  rw [if_neg (not_le.mpr hband), if_neg (by omega)] at checks
  refine ⟨fun hlen => refuses (checks.trans (if_pos hlen)), fun hlen => ?_⟩
  intro old frames records
  rw [if_neg (not_not.mpr hlen)] at checks
  refine ⟨fun hfull => refuses (checks.trans (if_neg fun hfits => ?_)), fun hframes hrecords => ?_⟩
  · obtain ⟨h, h'⟩ := (fits_iff ..).mp hfits
    rcases hfull with hfull | hfull
    · exact absurd h (not_le.mpr hfull)
    · exact absurd h' (not_le.mpr hfull)
  · rw [if_pos ((fits_iff ..).mpr ⟨hframes, hrecords⟩)] at checks
    have hsorted : Store.sorted v.records := hstores.recordsSorted b
    obtain ⟨hbounds, -⟩ := hbanks.inBudget b
    have hband8 : band < 8 := lt_of_lt_of_le hband hbounds
    refine ⟨_, waveput_checked hd hb checks, ?_, fun m' band' hband' hne => ?_, ?_, ?_, ?_, ?_, setBank_frame ..⟩
    · rw [State.setBank_bank_same, putRecord_record, if_pos rfl]
    · rw [State.setBank_bank_same, putRecord_record, if_neg]
      rw [waveKey_inj hband8 hband']
      exact fun ⟨e, e'⟩ => hne ⟨e.symm, e'.symm⟩
    · rw [State.setBank_bank_same]; exact putRecord_frames hsorted _
    · rw [State.setBank_bank_same]; exact putRecord_length hsorted _
    · rw [State.setBank_bank_same]; rfl
    · rw [State.setBank_bank_other, taken_bank]

/-! ### WAVECOMMIT (R84, R97) -/

theorem wavecommit_exec (hd : Dispatches s .wavecommit body rest) (hl : body.length = 0) :
    exec .wavecommit s = .next (match s.bankIn .loading with
      | none => refusedAt s .wavecommit .state rest
      | some b => if (s.bank b).records = [] then refusedAt s .wavecommit .emptyBank rest
        else (taken s rest).commitBank b) := by
  have hparse : parseEmpty body = .ok () := if_neg (not_not.mpr hl)
  show Outcome.next _ = _
  rw [withHead_of_dispatches hd, hparse]
  cases s.bankIn .loading with
  | none => exact congrArg Outcome.next (refuseHead_eq_refusedAt hd _)
  | some b =>
    dsimp only
    simp only [List.isEmpty_iff, refuseHead_eq_refusedAt hd, pop_eq_taken hd]

section Switched

variable (s) (b : BankId)

theorem switchBanks_frame : s.switchBanks b = { s with wave := (s.switchBanks b).wave } := by
  unfold State.switchBanks
  dsimp only
  split
  · cases b <;> rfl
  · exact setBank_frame ..

theorem switchBanks_bank : (s.switchBanks b).bank b = { s.bank b with state := .active } := by
  unfold State.switchBanks
  dsimp only
  rw [State.setBank_bank_same]
  split
  · cases b <;> rfl
  · rfl

theorem switchBanks_other : (s.switchBanks b).bank b.other =
    if (s.bank b.other).state = .active then { s.bank b.other with state := .retired } else s.bank b.other := by
  unfold State.switchBanks
  dsimp only
  rw [State.setBank_bank_other]
  split
  · rw [State.setBank_bank_same]; rfl
  · rfl

theorem switchBanks_activeBank : (s.switchBanks b).activeBank = some b := by
  refine bankIn_of_only (by rw [switchBanks_bank]) ?_
  rw [switchBanks_other]
  split
  · simp
  · assumption

end Switched

/-- The band recomputed against an ACTIVE bank (R96, R97). -/
theorem recomputeBand_eq {b : BankId} (h : s.activeBank = some b) : s.recomputeBand = { s with
    temp := { s.temp with
      band := some (bandOf (s.bank b).bounds (s.bank b).ceiling (s.temp.current / 16)).1 }
    ev := if (bandOf (s.bank b).bounds (s.bank b).ceiling (s.temp.current / 16)).2 = true then
      (s.setFlag .temprange).ev else s.ev } := by
  unfold State.recomputeBand
  rw [h]
  dsimp only
  rw [setFlagIf_frame, setFlagIf_ev]
  rfl

/-- Settles O24: the two banks by `switchBanks_bank` and `switchBanks_other`, the band by `recomputeBand_eq`. -/
theorem wavecommitSwitchesBanks : Obligations.WavecommitSwitchesBanks := by
  intro s body rest b hd hbanks
  refine ⟨fun hl => withHead_refuses hd (by rw [parseEmpty, if_pos hl]), fun hl hA hB => ?_, fun hl hload hempty => ?_,
    fun hl hload hne => ?_⟩
  · have hnone : s.bankIn .loading = none := bankIn_eq_none.mpr fun b => by
      cases b
      · exact hA
      · exact hB
    rw [wavecommit_exec hd hl, hnone]
  · rw [wavecommit_exec hd hl, hbanks.loadingBank_eq hload]
    exact congrArg Outcome.next (if_pos hempty)
  · intro r
    have legal : BanksLegal (taken s rest) := hbanks.continues (.same rfl)
    have hexec : exec .wavecommit s = .next ((taken s rest).switchBanks b).recomputeBand := by
      rw [wavecommit_exec hd hl, hbanks.loadingBank_eq hload, ← legal.commitBank_eq ((taken_bank s rest b).symm ▸ hload)]
      exact congrArg Outcome.next (if_neg hne)
    have hframe := switchBanks_frame (taken s rest) b
    have hbank := switchBanks_bank (taken s rest) b
    have hother := switchBanks_other (taken s rest) b
    have hactive := switchBanks_activeBank (taken s rest) b
    rw [taken_bank] at hbank hother
    generalize (taken s rest).switchBanks b = u at hexec hframe hbank hother hactive
    have htemp : u.temp = s.temp := by rw [hframe]; rfl
    have hev : u.ev = s.ev := by rw [hframe]; rfl
    rw [recomputeBand_eq hactive, hbank, htemp] at hexec
    refine ⟨_, hexec, (bank_of_wave rfl b).trans hbank, fun ha => ?_, fun ha => ?_, rfl, ?_, ?_⟩
    · exact (bank_of_wave rfl _).trans (hother.trans (if_pos ha))
    · exact (bank_of_wave rfl _).trans (hother.trans (if_neg ha))
    · dsimp only
      rw [State.setFlag_ev, State.setFlag_ev, hev]
    · rw [hframe]

end Dispatched

end Sys2Proof.Machine
end

section
/-! SUPPORT. Mode resolution (R100 to R102), the tiles of the Residue Map (R105) and the report of a completed slot
(R106). -/

namespace Sys2Proof.Machine

/-! ### Rectangles that share pixels, and tiles (R105) -/

theorem Rect.meets_iff (a b : Rect) : a.meets b = true ↔ ∃ x y : Int, a.has x y = true ∧ b.has x y = true := by
  unfold Rect.meets
  rw [Bool.not_eq_true', ← Bool.not_eq_true, Rect.isEmpty_iff]
  simp only [Rect.has_inter, not_forall, Bool.not_eq_false, Bool.and_eq_true]

theorem Rect.inter_none_or_pos (a b : Rect) :
    Rect.inter a b = Rect.none ∨ 0 < (Rect.inter a b).w ∧ 0 < (Rect.inter a b).h := by
  unfold Rect.inter
  dsimp only
  split
  · rename_i h; right; dsimp only; omega
  · exact .inl rfl

/-- A rectangle with pixels, all of them in another, is its intersection with the other. -/
theorem Rect.inter_eq_left {a b : Rect} (hw : 0 < a.w) (hh : 0 < a.h) (h : a.Inside b) : Rect.inter a b = a := by
  have first := (b.has_iff _ _).mp (h a.x a.y ((a.has_iff _ _).mpr (by omega)))
  have last := (b.has_iff _ _).mp (h (a.x + a.w - 1) (a.y + a.h - 1) ((a.has_iff _ _).mpr (by omega)))
  have hx : max a.x b.x = a.x := max_eq_left first.1
  have hy : max a.y b.y = a.y := max_eq_left first.2.2.1
  have hr : min (a.x + a.w) (b.x + b.w) = a.x + a.w := min_eq_left (by omega)
  have hb : min (a.y + a.h) (b.y + b.h) = a.y + a.h := min_eq_left (by omega)
  simp only [Rect.inter, hx, hy, hr, hb]
  rw [if_pos (by omega)]
  simp

/-- An intersection lies within another rectangle where all its pixels do (R106). -/
theorem Rect.within_iff (a b r : Rect) : (Rect.inter a b).within r = true ↔ (Rect.inter a b).Inside r := by
  rw [Rect.within, decide_eq_true_eq]
  constructor
  · intro h x y hxy
    rw [← h, Rect.has_inter, Bool.and_eq_true] at hxy
    exact hxy.2
  · intro h
    rcases Rect.inter_none_or_pos a b with e | ⟨hw, hh⟩
    · rw [e]
      rcases Rect.inter_none_or_pos Rect.none r with e' | ⟨hw, hh⟩
      · exact e'
      · have hcorner := ((Rect.inter Rect.none r).has_iff _ _).mpr
          ⟨le_refl (Rect.inter Rect.none r).x, by omega, le_refl (Rect.inter Rect.none r).y, by omega⟩
        rw [Rect.has_inter, Rect.has_none] at hcorner
        cases hcorner
    · exact Rect.inter_eq_left hw hh h

theorem tileRect_inside (p : Panel) (n : Nat) : (p.tileRect n).Inside p.window := by
  intro x y h
  rw [Panel.tileRect, Rect.has_inter, Bool.and_eq_true] at h
  exact h.2

/-- The pixels of tile `j · columns + i` (R105). -/
theorem tileRect_has (p : Panel) {i : Nat} (j : Nat) (hi : i < p.tileCols) (x y : Int) :
    (p.tileRect (j * p.tileCols + i)).has x y = true ↔
      p.x0 + 64 * i ≤ x ∧ x < p.x0 + 64 * i + 64 ∧ x < p.x0 + p.w ∧ 64 * j ≤ y ∧ y < 64 * j + 64 ∧ y < p.h := by
  have hcol : (j * p.tileCols + i) % p.tileCols = i := by rw [Nat.mul_add_mod_self_right, Nat.mod_eq_of_lt hi]
  have hrow : (j * p.tileCols + i) / p.tileCols = j := by
    rw [Nat.mul_comm, Nat.mul_add_div (by omega), Nat.div_eq_of_lt hi, Nat.add_zero]
  unfold Panel.tileRect
  rw [hcol, hrow, Rect.has_inter, Bool.and_eq_true, Rect.has_iff, Rect.has_iff]
  simp only [Panel.window]
  omega

/-! ### The report of a completed slot (R106) -/

/-- A report of TONE4, BILEVEL or STROKE adds to each of its tiles once. -/
theorem getD_addResidue (weight : Nat) {tiles : List Nat} (hn : tiles.Nodup) (counts : List (Nat × Nat)) (n : Nat) :
    Store.getD (tiles.foldl (fun r n => Store.set 0 r n (min 15 (Store.getD r n 0 + weight))) counts) n 0 =
      if n ∈ tiles then min 15 (Store.getD counts n 0 + weight) else Store.getD counts n 0 := by
  induction tiles generalizing counts with
  | nil => rfl
  | cons t tiles ih =>
    obtain ⟨ht, hn⟩ := List.nodup_cons.mp hn
    rw [List.foldl_cons, ih hn, Store.getD_set]
    by_cases e : t = n
    · subst e; simp [ht]
    · simp [e, Ne.symm e]

/-- Settles O34: the tiles by `tileRect_has`, the counts by what each report does to one of them. -/
theorem completionReportsResidue : Obligations.CompletionReportsResidue := by
  refine ⟨fun p i j x y hi => tileRect_has p j hi x y, fun p m rect tiles counts n hn hwf => ⟨fun hm => ?_, ?_, ?_⟩⟩
  · rcases hm with rfl | rfl | rfl <;> exact getD_addResidue _ hn counts n
  · rintro rfl
    exact Store.getD_mapValues hwf.1 (d := 0) (f := fun n c => if n ∈ tiles then c / 2 else c)
      (fun k => by split <;> rfl) n
  · rintro rfl
    have hnew := Store.getD_mapValues hwf.1 (d := 0)
      (f := fun n c => if (p.tileRect n).within rect then 0 else if n ∈ tiles then c / 2 else c)
      (fun k => by split <;> [rfl; split <;> rfl]) n
    refine ⟨fun hin => hnew.trans (if_pos ((Rect.within_iff _ _ _).mpr hin)), fun hout => hnew.trans ?_⟩
    exact if_neg fun h => hout ((Rect.within_iff _ _ _).mp h)

/-! ### Mode resolution (R100 to R102) -/

theorem le_foldl_max (f : Nat → Nat) (l : List Nat) (a t : Nat) :
    t ≤ l.foldl (fun m n => max m (f n)) a ↔ t ≤ a ∨ ∃ n ∈ l, t ≤ f n := by
  induction l generalizing a with
  | nil => simp
  | cons n l ih =>
    rw [List.foldl_cons, ih, le_max_iff, or_assoc]
    simp

section Resolution

variable {s : State} {r : Request}

/-- A request's rectangle is worn where one of its tiles has reached the threshold (R102). -/
theorem worn_iff {t : Nat} (ht : 1 ≤ t) : t ≤ s.maxResidue (s.effective r) ↔
    ∃ n, n < s.store.panel.tiles ∧
      (∃ x y : Int, (s.store.panel.tileRect n).has x y = true ∧ r.rect.has x y = true) ∧ t ≤ s.residueOf n := by
  have hmeets : ∀ n, (s.store.panel.tileRect n).meets (s.effective r) = true ↔
      ∃ x y : Int, (s.store.panel.tileRect n).has x y = true ∧ r.rect.has x y = true := by
    intro n
    rw [Rect.meets_iff]
    refine exists_congr fun x => exists_congr fun y => and_congr_right fun hin => ?_
    rw [State.effective, Rect.has_inter, Bool.and_eq_true]
    exact and_iff_left (tileRect_inside _ n x y hin)
  unfold State.maxResidue
  rw [le_foldl_max, or_iff_right (by omega)]
  simp only [Panel.tilesOf, List.mem_filter, List.mem_range, hmeets, and_assoc]

/-- With no mode of the request available there is no mode (R101). -/
theorem resolve_none (h : ∀ m ∈ r.allowed, s.available m = false) : s.resolve r false = none := by
  have hfind : modeOrder.find? (fun m => decide (m ∈ r.allowed) && s.available m) = none := by
    rw [List.find?_eq_none]
    intro m _ hm
    rw [Bool.and_eq_true, decide_eq_true_eq] at hm
    rw [h m hm.1] at hm
    exact absurd hm.2 (by decide)
  unfold State.resolve
  rw [hfind]
  cases s.activeBank <;> rfl

/-- The first mode of the order that is allowed and available is taken, or TONE16 in its place (R101, R102). -/
theorem resolve_first {pre post : List Mode} {m : Mode} (horder : modeOrder = pre ++ m :: post) (hm : m ∈ r.allowed)
    (ha : s.available m = true) (hpre : ∀ q ∈ pre, q ∈ r.allowed → s.available q = false) : s.resolve r false =
      if r.promote = true ∧ 0 < m.weight ∧ s.store.panel.residueThreshold ≤ s.maxResidue (s.effective r) ∧
        s.available .tone16 = true then some (.tone16, true) else some (m, false) := by
  have hfind : modeOrder.find? (fun m => decide (m ∈ r.allowed) && s.available m) = some m := by
    refine List.find?_eq_some_iff_append.mpr ⟨by simp [hm, ha], pre, post, horder, fun q hq => ?_⟩
    by_cases hallowed : q ∈ r.allowed
    · simp [hpre q hq hallowed]
    · simp [hallowed]
  obtain ⟨b, -, -, hb, -⟩ := available_iff.mp ha
  unfold State.resolve
  rw [hb, hfind]
  simp only [Bool.false_eq_true, if_false, Bool.and_eq_true, decide_eq_true_eq, and_assoc]

end Resolution

/-- Settles O30: availability by `available_iff`, the steps by `resolve_none` and `resolve_first`, the worn tiles by
`worn_iff`. -/
theorem modeResolutionFollowsSteps : Obligations.ModeResolutionFollowsSteps := by
  refine ⟨fun s => ⟨fun b hb => bankIn_state hb, bankIn_eq_none, fun m => available_iff⟩, fun s r =>
    ⟨fun hnone unknownSeen => ?_, fun hsome => ?_, resolve_none, fun pre m post horder hm ha hpre ht => ?_⟩⟩
  · simp only [State.resolve, hnone]
  · obtain ⟨b, hb⟩ := Option.isSome_iff_exists.mp hsome
    simp only [State.resolve, hb, if_true]
  · intro worn
    have hworn : s.store.panel.residueThreshold ≤ s.maxResidue (s.effective r) ↔ worn := worn_iff ht
    have hweight : 0 < m.weight ↔ m ∈ [Mode.tone4, .bilevel, .stroke] := by cases m <;> decide
    rw [resolve_first horder hm ha hpre]
    exact ⟨fun ⟨hp, hl, hw, h16⟩ => if_pos ⟨hp, hweight.mpr hl, hworn.mpr hw, h16⟩,
      fun h => if_neg fun ⟨hp, hl, hw, h16⟩ => h ⟨hp, hweight.mp hl, hworn.mp hw, h16⟩⟩

end Sys2Proof.Machine
end

section
/-! SUPPORT. The moment of resolution (R99, R103, R115) and the judgment of a pixel by a latch pass (R117, R118). -/

namespace Sys2Proof.Machine

open Host (Outcome)

/-! ### The examined request leaves the queue (R113) -/

theorem examined_eq {s : State} {before behind : List Request} {r : Request}
    (hq : s.sched.requests = before ++ r :: behind) (hb : ∀ q ∈ before, q.due = false) (hr : r.due = true) :
    s.examined = some r :=
  List.find?_eq_some_iff_append.mpr ⟨hr, before, behind, hq, fun q h => by rw [hb q h]; rfl⟩

theorem dropFirstDue_append {before : List Request} (hb : ∀ q ∈ before, q.due = false) {r : Request}
    (hr : r.due = true) (behind : List Request) : dropFirstDue (before ++ r :: behind) = before ++ behind := by
  induction before with
  | nil => simp only [List.nil_append, dropFirstDue, hr, if_true]
  | cons q before ih =>
    obtain ⟨hq, hb⟩ := List.forall_mem_cons.mp hb
    simp only [List.cons_append, dropFirstDue, hq, Bool.false_eq_true, if_false, ih hb]

/-! ### The slot that is taken, and its pin (R86, R115) -/

theorem freeSlot?_eq_some {s : State} {i : Fin 16} (hi : s.slot i = none)
    (below : ∀ j, j < i → (s.slot j).isSome = true) : s.freeSlot? = some i := by
  unfold State.freeSlot? slotIds
  refine List.find?_eq_some_iff_getElem.mpr ⟨by rw [hi]; rfl, i, by simp, by simp, fun j hj => ?_⟩
  have hlt : (⟨j, hj.trans i.isLt⟩ : Fin 16) < i := hj
  simpa using below _ hlt

/-- One member of a list without repeats begins to count, and no other changes. -/
theorem countP_of_joins {α : Type} [DecidableEq α] {l : List α} {p q : α → Bool} {a : α} (ha : a ∈ l) (hn : l.Nodup)
    (hp : p a = false) (hq : q a = true) (others : ∀ b, b ≠ a → q b = p b) : l.countP q = l.countP p + 1 := by
  have hperm := List.perm_cons_erase ha
  have hrest : (l.erase a).countP q = (l.erase a).countP p :=
    List.countP_congr fun b hb => by rw [others b ((hn.mem_erase_iff.mp hb).1)]
  rw [hperm.countP_eq, hperm.countP_eq, List.countP_cons_of_pos hq, List.countP_cons_of_neg (by simp [hp]), hrest]

/-- A FREE slot that is taken adds one to the pins of its bank (R86). -/
theorem pins_of_taken {s t : State} {i : Fin 16} {sl : Slot} (hi : s.slot i = none) (ht : t.slot i = some sl)
    (others : ∀ j, j ≠ i → t.slot j = s.slot j) : t.pins sl.bank = s.pins sl.bank + 1 := by
  simp only [State.pins, State.countSlots, ← List.countP_eq_length_filter]
  refine countP_of_joins (mem_slotIds i) slotIds_nodup (by rw [hi]; rfl) (by simp [ht]) fun j hj => by rw [others j hj]

/-! ### The moment of resolution (R99, R103, R115) -/

/-- What the end of a resolution's pixel reads comes to. -/
theorem resolutionReadsEnd_eq {s : State} {r : Request} {todo : List Nat} {found : Bool}
    (hp : s.sched.pass = some (.resolveRead todo found)) (he : s.examined = some r) :
    exec .resolutionPixelReadsEnd s = .next (s.resolveAndAdmit r
      (found || todo.any fun k => (s.pixel k).owner.isNone && (s.pixel k).shown.isNone)) := by
  change execResolutionPixelReadsEnd s = _
  simp only [execResolutionPixelReadsEnd, hp, he]

/-- Settles O29: the walk by `Rect.keys_ascending` and `mem_inter_keys`; an admission is `enterSlot_eq` in the lowest
FREE slot (`freeSlot?_eq_some`), whose pin is `pins_of_taken`. -/
theorem resolutionAdmitsOrEndsNoMode : Obligations.ResolutionAdmitsOrEndsNoMode := by
  refine ⟨fun s r hpage => ⟨Rect.keys_ascending (Rect.inter_onPage hpage r.rect), fun k => ⟨fun hk => ?_, ?_⟩⟩,
    fun s n todo found hp => ?_, fun s before behind r todo found hp hq hb hr => ?_⟩
  · rw [← pixelKey_keyX_keyY k] at hk
    exact ⟨_, _, keyX_lt k, (pixelKey_keyX_keyY k).symm, (mem_inter_keys hpage r.rect (keyX_lt k)).mp hk⟩
  · rintro ⟨x, y, hx, rfl, hin⟩
    exact (mem_inter_keys hpage r.rect hx).mpr hin
  · simp only [State.advancePass, hp]; rfl
  · intro unknownSeen
    have hdrop : dropFirstDue s.sched.requests = before ++ behind := hq ▸ dropFirstDue_append hb hr behind
    rw [resolutionReadsEnd_eq hp (examined_eq hq hb hr)]
    refine ⟨fun m promoted i b band v hres hi below ha hband hv => ?admitted, fun hres => ?noMode⟩
    case admitted =>
      have hadmit : s.resolveAndAdmit r unknownSeen = s.enterSlot r i m promoted := by
        simp only [State.resolveAndAdmit, hres, freeSlot?_eq_some hi below]
      have hslot : ∀ j, (s.enterSlot r i m promoted).slot j =
          (s.setSlot i (some (s.slotFor r m promoted b band v.frames))).slot j := by
        intro j; rw [enterSlot_eq ha hband hv]; rfl
      have hown := (hslot i).trans (State.setSlot_slot_same _ i _)
      have hothers := fun j (hj : j ≠ i) => (hslot j).trans (State.setSlot_slot_other _ i j _ hj)
      refine ⟨_, congrArg _ hadmit, hown, hothers, pins_of_taken hi hown hothers, ?_⟩
      rw [enterSlot_eq ha hband hv, hdrop]
    case noMode =>
      have hband : (s.activeBank.bind fun _ => s.temp.band) = if s.activeBank.isSome then s.temp.band else none := by
        cases s.activeBank <;> rfl
      have hnone : s.resolveAndAdmit r unknownSeen = ((s.setRequests (before ++ behind)).notify r.notify
          (r.notice .noMode (if s.activeBank.isSome then s.temp.band else none))).continuePass := by
        simp only [State.resolveAndAdmit, hres, hdrop, hband]
      refine (congrArg _ hnone).trans ?_
      rw [notify_frame, notify_ev_congr (s := s) (t := s.setRequests (before ++ behind)) rfl rfl]
      rfl

/-! ### The judgment of a pixel (R75, R105, R117, R118) -/

section Judgment

variable {s : State} {i : Fin 16} {sl : Slot} {k : Nat}

/-- A pixel in use, and an UNKNOWN one in no CLEAN pass, is skipped (R117). -/
theorem latchPixel_skipped (h : s.slot i = some sl)
    (hskip : (s.pixel k).owner.isSome = true ∨ ((s.pixel k).shown = none ∧ sl.mode ≠ .clean)) :
    latchPixel i s k = s.setSlot i (some { sl with skipped := min 65535 (sl.skipped + 1) }) := by
  simp only [latchPixel, h]
  exact if_pos (by simpa using hskip)

/-- Of the pixels it does not skip, a latch pass takes those whose goal is to be driven, and leaves the others
(R117). -/
theorem latchPixel_notSkipped (h : s.slot i = some sl)
    (hskip : ¬ ((s.pixel k).owner.isSome = true ∨ ((s.pixel k).shown = none ∧ sl.mode ≠ .clean))) :
    latchPixel i s k = if takesPixel sl.mode (s.pixel k) (quantize sl.mode (s.pixel k).target) = true then
      (s.setPixel k { s.pixel k with goal := quantize sl.mode (s.pixel k).target, owner := some i }).setSlot i
        (some { sl with taken := sl.taken + 1, tiles := insertKey sl.tiles (s.store.panel.tileOf k) }) else s := by
  simp only [latchPixel, h]
  exact if_neg (by simpa using hskip)

theorem takesPixel_iff {m : Mode} {p : PixelRec} {g : Tone} : takesPixel m p g = true ↔
    m = .clean ∨ (p.shown ≠ some g ∧ (m = .stroke → g = 0)) := by
  simp only [takesPixel, Bool.or_eq_true, Bool.and_eq_true, decide_eq_true_eq, ← imp_iff_not_or, ne_eq]

theorem latchPixel_pixel_other {k' : Nat} (h : k' ≠ k) : (latchPixel i s k).pixel k' = s.pixel k' := by
  cases hs : s.slot i with
  | none => simp only [latchPixel, hs]
  | some sl =>
    by_cases hskip : (s.pixel k).owner.isSome = true ∨ ((s.pixel k).shown = none ∧ sl.mode ≠ .clean)
    · rw [latchPixel_skipped hs hskip]; rfl
    · rw [latchPixel_notSkipped hs hskip]
      split
      · exact (State.pixel_setPixel s k k' _).trans (if_neg (Ne.symm h))
      · rfl

end Judgment

theorem tileOf_pixelKey (p : Panel) {x : Nat} (y : Nat) (hx : x < 8192) :
    p.tileOf (pixelKey x y) = y / 64 * p.tileCols + (x - p.x0) / 64 := by
  rw [Panel.tileOf, keyX_pixelKey x y hx, keyY_pixelKey x y hx]

/-- TONE4 has the levels 0, 5, 10 and 15, and takes the nearest (R75). -/
theorem quantize_tone4 (t : Tone) : 5 ∣ (quantize .tone4 t).val ∧
    2 * ((quantize .tone4 t).val - (t.val : Int)).natAbs < 5 := by
  have hval : (quantize .tone4 t).val = (t.val + 2) / 5 * 5 := min_eq_left (by omega)
  rw [hval]
  exact ⟨Nat.dvd_mul_left 5 _, by omega⟩

theorem quantize_bilevel_val (t : Tone) : (quantize .bilevel t).val = if t.val ≤ 7 then 0 else 15 := by
  simp only [quantize, ← Nat.lt_succ_iff, apply_ite Fin.val]
  rfl

/-- Settles O31: `latchPixel_skipped` and `latchPixel_notSkipped` are the three judgments; the walk is
`advancePass_latching`. -/
theorem latchJudgesPixel : Obligations.LatchJudgesPixel := by
  refine ⟨fun s i sl k h => ?judged, fun s i todo n hp => ⟨fun hd => ?_, advancePass_latching n hp⟩,
    fun p x y _ hx => tileOf_pixelKey p y hx,
    fun t => ⟨rfl, rfl, quantize_tone4 t, quantize_bilevel_val t, rfl⟩⟩
  case judged =>
    intro p g t skipped taken
    refine ⟨fun hskip => ?_, fun hskip htake => ?_, fun hskip htake => ?_, fun k' => latchPixel_pixel_other,
      (latchPixel_judged i s k).others, latchPixel_frame i s k⟩
    · have ht : t = _ := latchPixel_skipped h hskip
      exact ht ▸ ⟨State.setSlot_slot_same _ i _, rfl⟩
    · have ht : t = _ := (latchPixel_notSkipped h hskip).trans (if_pos (takesPixel_iff.mpr htake))
      rw [ht]
      exact ⟨(State.pixel_setPixel s k k _).trans (if_pos rfl), _, State.setSlot_slot_same _ i _, rfl,
        fun _ => mem_insertKey⟩
    · exact (latchPixel_notSkipped h hskip).trans (if_neg (mt takesPixel_iff.mp htake))
  · simp only [State.advancePass, hp, hd, if_true]

end Sys2Proof.Machine
end

section
/-! SUPPORT. TEMPSET, the sensor reads and the band (R92 to R97). -/

namespace Sys2Proof.Machine

open Host (Outcome)

/-! ### The band (R96) -/

/-- In a strictly ascending list the entries up to `d` stand first, so their number says which they are. -/
theorem le_iff_lt_countLe {bounds : List Int} (ascending : bounds.Pairwise (· < ·)) (d : Int) :
    ∀ (j : Nat) (z : Int), bounds[j]? = some z → (z ≤ d ↔ j < (bounds.filter fun b => decide (b ≤ d)).length) := by
  induction bounds with
  | nil => simp
  | cons b rest ih =>
    obtain ⟨first, ascending⟩ := List.pairwise_cons.mp ascending
    intro j z hz
    by_cases hb : b ≤ d
    · rw [List.filter_cons_of_pos (by simpa using hb)]
      cases j with
      | zero =>
        obtain rfl : b = z := by simpa using hz
        simp [hb]
      | succ j => simpa using ih ascending j z (by simpa using hz)
    · have above : ∀ z ∈ b :: rest, ¬ z ≤ d := by
        intro z hz
        rcases List.mem_cons.mp hz with rfl | hz
        · exact hb
        · have := first z hz; omega
      rw [List.filter_eq_nil_iff.mpr (by simpa using above)]
      simp [above z (List.mem_of_getElem? hz)]

/-- Settles O42: the bounds up to the temperature stand first (`le_iff_lt_countLe`), and the band is the last of
them. -/
theorem bandFollowsHeader : Obligations.BandFollowsHeader := by
  intro bounds ceiling d hne ascending hceiling
  have head_le : bounds.headD 0 ≤ ceiling := by
    cases bounds with
    | nil => exact absurd rfl hne
    | cons b rest => exact hceiling b (List.mem_cons_self ..)
  refine ⟨fun h => if_pos h, fun h => ?above, fun hlow hhigh => ?within⟩
  case above =>
    unfold bandOf
    rw [if_neg (by omega), if_pos h]
  case within =>
    have split := le_iff_lt_countLe ascending d
    have some_le : 0 < (bounds.filter fun b => decide (b ≤ d)).length := by
      cases bounds with
      | nil => exact absurd rfl hne
      | cons b rest => exact (split 0 b rfl).mp hlow
    have hband : bandOf bounds ceiling d = ((bounds.filter fun b => decide (b ≤ d)).length - 1, false) := by
      unfold bandOf
      rw [if_neg (by omega), if_neg (by omega)]
    have inside : (bounds.filter fun b => decide (b ≤ d)).length - 1 < bounds.length := by
      have := List.length_filter_le (fun b => decide (b ≤ d)) bounds
      omega
    have hz := List.getElem?_eq_getElem inside
    refine ⟨_, hband, _, hz, (split _ _ hz).mpr (by omega), fun j z' hj hz' => ?_⟩
    by_contra h
    have := (split j z' hz').mp (by omega)
    omega

/-- The band recomputed from a state with a new temperature, as R96 and R97 state it. -/
theorem recomputeBand_rebanded {s t : State} (hwave : t.wave = s.wave) (hev : t.ev = s.ev)
    (hband : t.temp.band = s.temp.band) (hread : t.temp.readInFlight = none) :
    rebanded s t.temp.current t.temp.failures t.recomputeBand := by
  have bank := bank_of_wave hwave
  have active : t.activeBank = s.activeBank := by simp only [State.activeBank, State.bankIn, hwave]
  refine ⟨fun b hb => ?_, fun hb => ?_, ?_, ?_, ?_⟩
  · intro r
    rw [recomputeBand_eq (active.trans hb), bank]
    refine ⟨rfl, ?_⟩
    simp only [State.setFlag_ev, hev]
    rfl
  · unfold State.recomputeBand
    rw [active, hb]
    exact ⟨hband, hev⟩
  · rw [recomputeBand_frame]
  · rw [recomputeBand_frame]
  · rw [recomputeBand_frame]; exact hread

/-! ### TEMPSET (R95) -/

theorem clampTemp_eq (z : Int) : clampTemp z = max (-640) (min 1360 z) := clampInt_eq (by decide) z

/-- TEMPSET's common part, field by field: a read in flight is cut off (R94, R95). -/
theorem tempset_eq (s : State) (source : Source) : s.tempset source = { s with
    temp := { s.temp with
      source := source, failures := 0, readInFlight := none, timer := none, wire := s.temp.wire ++ s.abandonEvents }
    freeCount := s.abandonRead.freeCount } := by
  unfold State.tempset
  rw [abandonRead_eq]

section Tempset

variable {s : State} {body : Bytes} {rest : List Record}

theorem withTempset_length (hd : Dispatches s .tempset body rest) (hl : body.length ≠ 3) (source : Source)
    (f : Int → State) : s.withTempset source f = refusedAt s .tempset .length rest := by
  unfold State.withTempset
  rw [withHead_of_dispatches hd, if_pos hl, refuseHead_eq_refusedAt hd]

theorem withTempset_field (hd : Dispatches s .tempset body rest) (hl : body.length = 3) (hb : 1 < u8 body 0)
    (source : Source) (f : Int → State) : s.withTempset source f = refusedAt s .tempset .field rest := by
  unfold State.withTempset
  rw [withHead_of_dispatches hd, if_neg (not_not.mpr hl), if_pos hb, refuseHead_eq_refusedAt hd]

theorem withTempset_acts (hd : Dispatches s .tempset body rest) (hl : body.length = 3) {source : Source}
    (hb : u8 body 0 = source.code) (f : Int → State) : s.withTempset source f = f (s16 body 1) := by
  have hle : ¬ 1 < u8 body 0 := by
    rw [hb]
    cases source <;> decide
  unfold State.withTempset
  rw [withHead_of_dispatches hd, if_neg (not_not.mpr hl), if_neg hle, if_neg (not_not.mpr hb)]

end Tempset

/-- Settles O40: both rows share `tempset_eq`; FIXED recomputes the band (`recomputeBand_rebanded`), SENSOR begins a
read. -/
theorem tempsetSelectsSource : Obligations.TempsetSelectsSource := by
  intro s body rest hd
  have hfixed : exec .tempsetFixed s = .next (s.withTempset .fixed fun z => State.recomputeBand
      { s.pop.tempset .fixed with temp := { (s.pop.tempset .fixed).temp with current := clampTemp z } }) := rfl
  have hsensor : exec .tempsetSensor s =
      .next (s.withTempset .sensor fun _ => (s.pop.tempset .sensor).startRead s.abandonEvents) := rfl
  refine ⟨fun hl => ?_, fun hl hb => ?_, fun hl hb => ?fixed, fun hl hb => ?sensor⟩
  · exact ⟨by rw [hfixed, withTempset_length hd hl], by rw [hsensor, withTempset_length hd hl]⟩
  · exact ⟨by rw [hfixed, withTempset_field hd hl hb], by rw [hsensor, withTempset_field hd hl hb]⟩
  case fixed =>
    rw [withTempset_acts hd hl (source := .fixed) hb, pop_eq_taken hd, tempset_eq] at hfixed
    rw [← clampTemp_eq]
    generalize hu : State.mk _ _ _ _ _ _ _ _ _ _ _ _ _ _ _ = u at hfixed
    have hband : rebanded s (clampTemp (s16 body 1)) 0 u.recomputeBand := by
      subst hu
      exact recomputeBand_rebanded rfl rfl rfl rfl
    have hframe := recomputeBand_frame u
    generalize u.recomputeBand = t at hfixed hband hframe
    subst hu
    have htimer : t.temp.timer = none := by rw [hframe]
    refine ⟨t, s.abandonEvents, hfixed, by rw [hframe], htimer, ?_, hband, abandonEvents_cutOff s, by rw [hframe]; rfl,
      by rw [hframe]⟩
    exact congrArg Outcome.next (if_neg (by simp [htimer]))
  case sensor =>
    rw [withTempset_acts hd hl (source := .sensor) hb, pop_eq_taken hd, tempset_eq] at hsensor
    exact ⟨_, s.abandonEvents, hsensor, abandonEvents_cutOff s, rfl⟩

/-! ### Sensor reads (R92 to R94) -/

/-- A failed read, field by field (R93). -/
theorem failRead_eq (s : State) (events : List WireEvent) : s.failRead events = { s with
    temp := { s.temp with
      failures := min 255 (s.temp.failures + 1), readInFlight := none, wire := s.temp.wire ++ events }
    ev := if s.temp.failures = 2 then (s.setFlag .tempfail).ev else s.ev } := by
  have hcount : min 255 (s.temp.failures + 1) = 3 ↔ s.temp.failures = 2 := by omega
  unfold State.failRead
  dsimp only
  rw [setFlagIf_frame, setFlagIf_ev]
  simp only [decide_eq_true_eq, hcount]
  rfl

/-- The count of a sensor read, first byte most significant, in two's complement (R92). -/
theorem s16_pair (first second : Byte) : s16 [first, second] 0 =
    if first.toNat < 128 then 256 * (first.toNat : Int) + second.toNat
    else 256 * (first.toNat : Int) + second.toNat - 65536 := by
  have := second.isLt
  simp only [s16, signed, u16, u8, List.getD_cons_zero, List.getD_cons_succ]
  split <;> split <;> omega

/-- Settles O41: a success recomputes the band (`recomputeBand_rebanded`), the two failures are `failRead_eq`. -/
theorem sensorReadsUpdateTemperature : Obligations.SensorReadsUpdateTemperature := by
  intro s failed
  refine ⟨fun ht hr hs hp => congrArg Outcome.next (if_pos ⟨ht, hr, hs, hp⟩), fun hread =>
    ⟨fun first second => ?success, ?noAck, ?timeout⟩⟩
  case success =>
    intro count
    have hexec : exec (.sensorReadEnd (first, second)) s = .next (State.recomputeBand
        { s.endRead [.ack, .nack, .stop] with temp := { (s.endRead [.ack, .nack, .stop]).temp with
          current := clampTemp (s16 [first, second] 0), failures := 0 } }) := congrArg Outcome.next (if_pos hread)
    rw [← clampTemp_eq, show count = s16 [first, second] 0 from (s16_pair first second).symm]
    generalize hu : State.mk _ _ _ _ _ _ _ _ _ _ _ _ _ _ _ = u at hexec
    have hband : rebanded s (clampTemp (s16 [first, second] 0)) 0 u.recomputeBand := by
      subst hu
      exact recomputeBand_rebanded rfl rfl rfl rfl
    have hframe := recomputeBand_frame u
    generalize u.recomputeBand = t at hexec hband hframe
    subst hu
    exact ⟨t, hexec, hband, by rw [hframe]; rfl, by rw [hframe]; rfl, by rw [hframe]; rfl, by rw [hframe]; rfl⟩
  case noAck => exact congrArg Outcome.next ((if_pos hread).trans (failRead_eq s _))
  case timeout =>
    have hevents : s.abandonEvents = s.cutEvents := if_pos hread
    exact ⟨_, s.cutEvents, congrArg Outcome.next ((if_pos hread).trans (failRead_eq s.useFree _)),
      hevents ▸ abandonEvents_cutOff s, rfl⟩

end Sys2Proof.Machine
end

section
/-! SUPPORT. The pixels that slots own, pixel by pixel (R104, R113, R117, R118): the half of `OwnersLegal` that speaks
of pixels and slots (`SlotsOwn`), and what keeps it. -/

namespace Sys2Proof.Machine

/-! ### The pixels a slot owns -/

section Keys

variable {m : List (Nat × PixelRec)}

/-- The keys of the pixels that a slot owns. -/
def ownedKeys (m : List (Nat × PixelRec)) (i : Fin 16) : List Nat :=
  (m.filter fun e => e.2.owner = some i).map Prod.fst

/-- A pixel that some slot owns is listed. -/
theorem mem_of_owner {k : Nat} {i : Fin 16} (h : (pixelAt m k).owner = some i) : (k, pixelAt m k) ∈ m := by
  unfold pixelAt Store.getD at h ⊢
  cases hg : Store.get? m k with
  | none => rw [hg] at h; cases h
  | some p => exact Store.mem_of_get? hg

theorem pixelAt_of_mem (hs : Store.sorted m) {e : Nat × PixelRec} (he : e ∈ m) : pixelAt m e.1 = e.2 := by
  unfold pixelAt Store.getD
  rw [Store.get?_of_mem hs he]; rfl

theorem mem_ownedKeys (hs : Store.sorted m) {i : Fin 16} {k : Nat} :
    k ∈ ownedKeys m i ↔ (pixelAt m k).owner = some i := by
  simp only [ownedKeys, List.mem_map, List.mem_filter, decide_eq_true_eq]
  constructor
  · rintro ⟨e, ⟨he, ho⟩, rfl⟩
    rw [pixelAt_of_mem hs he]; exact ho
  · exact fun h => ⟨_, ⟨mem_of_owner h, h⟩, rfl⟩

theorem ownedKeys_nodup (hs : Store.sorted m) (i : Fin 16) : (ownedKeys m i).Nodup :=
  List.pairwise_map.mpr ((hs.filter _).imp fun h => Nat.ne_of_lt h)

/-- What holds of every listed pixel that some slot owns holds of every such pixel. -/
theorem forall_owned_iff (hs : Store.sorted m) {P : Fin 16 → PixelRec → Prop} :
    (∀ e ∈ m, ∀ i, e.2.owner = some i → P i e.2) ↔ ∀ k i, (pixelAt m k).owner = some i → P i (pixelAt m k) := by
  constructor
  · exact fun h k i ho => h _ (mem_of_owner ho) i ho
  · intro h e he i ho
    rw [← pixelAt_of_mem hs he] at ho ⊢
    exact h _ i ho

end Keys

section Counts

variable {s t : State}

theorem owned_eq_length (s : State) (i : Fin 16) : s.owned i = (ownedKeys s.store.pixels i).length := by
  simp [State.owned, ownedKeys]

theorem owned_congr (hs : Store.sorted s.store.pixels) (ht : Store.sorted t.store.pixels) {i : Fin 16}
    (h : ∀ k, (t.pixel k).owner = some i ↔ (s.pixel k).owner = some i) : t.owned i = s.owned i := by
  rw [owned_eq_length, owned_eq_length]
  refine ((List.perm_ext_iff_of_nodup (ownedKeys_nodup ht i) (ownedKeys_nodup hs i)).mpr fun k => ?_).length_eq
  rw [mem_ownedKeys ht, mem_ownedKeys hs]
  exact h k

/-- A slot that is given one pixel owns one more. -/
theorem owned_given (hs : Store.sorted s.store.pixels) (ht : Store.sorted t.store.pixels) {i : Fin 16} {k : Nat}
    (hk : (s.pixel k).owner ≠ some i)
    (h : ∀ j, (t.pixel j).owner = some i ↔ j = k ∨ (s.pixel j).owner = some i) : t.owned i = s.owned i + 1 := by
  rw [owned_eq_length, owned_eq_length, ← List.length_cons (a := k)]
  have fresh : k ∉ ownedKeys s.store.pixels i := fun hm => hk ((mem_ownedKeys hs).mp hm)
  refine ((List.perm_ext_iff_of_nodup (ownedKeys_nodup ht i) (List.nodup_cons.mpr
    ⟨fresh, ownedKeys_nodup hs i⟩)).mpr fun j => ?_).length_eq
  rw [mem_ownedKeys ht, List.mem_cons, mem_ownedKeys hs]
  exact h j

theorem owned_eq_zero (hs : Store.sorted s.store.pixels) {i : Fin 16} (h : ∀ k, (s.pixel k).owner ≠ some i) :
    s.owned i = 0 := by
  rw [owned_eq_length, List.length_eq_zero_iff, List.eq_nil_iff_forall_not_mem]
  exact fun k hk => h k ((mem_ownedKeys hs).mp hk)

end Counts

/-! ### Owners and slots agree -/

/-- The half of `OwnersLegal` on pixels and slots (R104, R117, R118). -/
structure SlotsOwn (s : State) : Prop where
  owners : ∀ k i, (s.pixel k).owner = some i → (s.slot i).isSome = true
  taken : ∀ i sl, s.slot i = some sl → s.owned i = sl.taken
  driving : ∀ i sl, s.slot i = some sl → sl.phase ≠ .latching → 0 < sl.taken
  unknown : ∀ k i, (s.pixel k).owner = some i → (s.pixel k).shown = none → ∀ sl, s.slot i = some sl → sl.mode = .clean

/-- The half of `OwnersLegal` on the running pass (R113, R118). -/
structure PassWaits (s : State) : Prop where
  latching : ∀ i sl, s.slot i = some sl → sl.phase = .latching → ∃ todo, s.sched.pass = some (.latching i todo)
  walking : ∀ i todo, s.sched.pass = some (.latching i todo) → ∃ sl, s.slot i = some sl ∧ sl.phase = .latching
  reading : s.sched.pass.isSome = true → s.latching = false → s.examined.isSome = true

theorem ownersLegal_iff {s : State} (hs : Store.sorted s.store.pixels) :
    OwnersLegal s ↔ SlotsOwn s ∧ PassWaits s := by
  have owners := forall_owned_iff (P := fun i _ => (s.slot i).isSome = true) hs
  have unknown := forall_owned_iff (P := fun i p => p.shown = none → ∀ sl, s.slot i = some sl → sl.mode = .clean) hs
  constructor
  · exact fun h => ⟨⟨owners.mp h.owners, h.taken, h.driving,
      unknown.mp fun e he i ho hn sl hs => h.unknown e he i sl ho hn hs⟩, ⟨h.latching, h.walking, h.reading⟩⟩
  · exact fun ⟨h, hp⟩ => ⟨owners.mpr h.owners, h.taken, h.driving,
      fun e he i sl ho hn hs => unknown.mpr h.unknown e he i ho hn sl hs, hp.latching, hp.walking, hp.reading⟩

/-- From `s` to `t` no slot is given a pixel: a slot that stays keeps its own, and one that is freed gives them up. -/
structure KeepsOwned (s t : State) : Prop where
  owner : ∀ k i, (t.pixel k).owner = some i ↔ (s.pixel k).owner = some i ∧ (t.slot i).isSome = true
  shown : ∀ k i, (t.pixel k).owner = some i → (t.pixel k).shown = (s.pixel k).shown
  slot : ∀ i sl', t.slot i = some sl' → ∃ sl, s.slot i = some sl ∧ sl'.taken = sl.taken ∧ sl'.mode = sl.mode ∧
    (sl'.phase ≠ .latching → sl.phase ≠ .latching ∨ sl.taken ≠ 0)

section Owned

variable {s t : State}

theorem SlotsOwn.keeps (h : SlotsOwn s) (hs : Store.sorted s.store.pixels) (ht : Store.sorted t.store.pixels)
    (hk : KeepsOwned s t) : SlotsOwn t := by
  refine ⟨fun k i ho => ((hk.owner k i).mp ho).2, fun i sl' hsl' => ?_, fun i sl' hsl' hp => ?_,
    fun k i ho hn sl' hsl' => ?_⟩
  · obtain ⟨sl, hsl, htaken, -, -⟩ := hk.slot i sl' hsl'
    rw [htaken, ← h.taken i sl hsl]
    exact owned_congr hs ht fun k => (hk.owner k i).trans (and_iff_left (by rw [hsl']; rfl))
  · obtain ⟨sl, hsl, htaken, -, hphase⟩ := hk.slot i sl' hsl'
    rw [htaken]
    exact (hphase hp).elim (h.driving i sl hsl) Nat.pos_of_ne_zero
  · obtain ⟨sl, hsl, -, hmode, -⟩ := hk.slot i sl' hsl'
    rw [hmode]
    exact h.unknown k i ((hk.owner k i).mp ho).1 ((hk.shown k i ho).symm.trans hn) sl hsl

/-- Owners and shown tones stay, and every slot stays with its fields. -/
theorem SlotsOwn.keepsOwned (h : SlotsOwn s) (ho : ∀ k, (t.pixel k).owner = (s.pixel k).owner)
    (hn : ∀ k, (t.pixel k).shown = (s.pixel k).shown) {next : Slot → Slot}
    (hslot : ∀ i, t.slot i = (s.slot i).map next)
    (hnext : ∀ sl, (next sl).taken = sl.taken ∧ (next sl).mode = sl.mode ∧
      ((next sl).phase ≠ .latching → sl.phase ≠ .latching)) : KeepsOwned s t := by
  refine ⟨fun k i => ?_, fun k _ _ => hn k, fun i sl' hsl' => ?_⟩
  · rw [ho, hslot, Option.isSome_map]
    exact ⟨fun e => ⟨e, h.owners k i e⟩, fun e => e.1⟩
  · rw [hslot, Option.map_eq_some_iff] at hsl'
    obtain ⟨sl, hsl, rfl⟩ := hsl'
    obtain ⟨htaken, hmode, hphase⟩ := hnext sl
    exact ⟨sl, hsl, htaken, hmode, fun hp => .inl (hphase hp)⟩

theorem ActsBy.wf_all {a : SlotAction} {f : State → Fin 16 → State} (hf : ActsBy a f)
    (hw : Store.wf PixelRec.initial s.store.pixels) :
    Store.wf PixelRec.initial (slotIds.foldl f s).store.pixels :=
  List.foldlRecOn slotIds f (motive := fun t => Store.wf PixelRec.initial t.store.pixels) hw fun t ht i _ => hf.wf t i ht

/-- An operation on every slot that frees a slot with its pixels or leaves both (R121 to R127). -/
theorem ActsBy.keepsOwned {a : SlotAction} {f : State → Fin 16 → State} (hf : ActsBy a f) (h : SlotsOwn s)
    (hw : Store.wf PixelRec.initial s.store.pixels)
    (frees : ∀ sl, a.next sl = none → ∀ p, (a.pixel sl p).owner = none)
    (leaves : ∀ sl sl', a.next sl = some sl' → (∀ p, a.pixel sl p = p) ∧ sl'.taken = sl.taken ∧ sl'.mode = sl.mode ∧
      (sl'.phase ≠ .latching → sl.phase ≠ .latching)) : KeepsOwned s (slotIds.foldl f s) := by
  have pixel : ∀ k, ((slotIds.foldl f s).pixel k).owner = none ∧
        (∀ i, (s.pixel k).owner = some i → (slotIds.foldl f s).slot i = none) ∨
      (slotIds.foldl f s).pixel k = s.pixel k ∧
        ∀ i, (s.pixel k).owner = some i → ((slotIds.foldl f s).slot i).isSome = true := by
    intro k
    cases hk : (s.pixel k).owner with
    | none =>
      refine .inl ⟨?_, fun i hi => by cases hi⟩
      rw [hf.pixel_of_unowned hw fun i hi => by rw [hk] at hi; cases hi]
      exact hk
    | some i =>
      obtain ⟨sl, hsl⟩ := Option.isSome_iff_exists.mp (h.owners k i hk)
      rw [hf.pixel_of_owned hw hk hsl]
      simp only [Option.some.injEq, forall_eq', hf.slot, hsl, Option.bind_some]
      cases hn : a.next sl with
      | none => exact .inl ⟨frees sl hn _, rfl⟩
      | some sl' => exact .inr ⟨(leaves sl sl' hn).1 _, rfl⟩
  refine ⟨fun k i => ?_, fun k i hi => ?_, fun i sl' hsl' => ?_⟩
  · rcases pixel k with ⟨ho, hfree⟩ | ⟨e, hstay⟩
    · rw [ho]
      refine ⟨fun e => (by cases e), fun ⟨e, hs⟩ => ?_⟩
      rw [hfree i e] at hs; cases hs
    · rw [e]
      exact ⟨fun ho => ⟨ho, hstay i ho⟩, fun ho => ho.1⟩
  · rcases pixel k with ⟨ho, -⟩ | ⟨e, -⟩
    · rw [ho] at hi; cases hi
    · rw [e]
  · rw [hf.slot, Option.bind_eq_some_iff] at hsl'
    obtain ⟨sl, hsl, hn⟩ := hsl'
    obtain ⟨-, htaken, hmode, hphase⟩ := leaves sl sl' hn
    exact ⟨sl, hsl, htaken, hmode, fun hp => .inl (hphase hp)⟩

/-! ### A latch pass gives pixels to its slot (R117) -/

/-- A pixel with no owner is given to a slot that counts it. -/
theorem SlotsOwn.gives (h : SlotsOwn s) (hw : Store.wf PixelRec.initial s.store.pixels) {i : Fin 16} {sl sl' : Slot}
    {k : Nat} {p : PixelRec} (hs : s.slot i = some sl) (hk : (s.pixel k).owner = none) (ho : p.owner = some i)
    (hn : p.shown = none → sl'.mode = .clean) (htaken : sl'.taken = sl.taken + 1) (hmode : sl'.mode = sl.mode) :
    SlotsOwn ((s.setPixel k p).setSlot i (some sl')) := by
  have pixel : ∀ j, ((s.setPixel k p).setSlot i (some sl')).pixel j = if k = j then p else s.pixel j := fun j =>
    State.pixel_setPixel s k j p
  have own : ((s.setPixel k p).setSlot i (some sl')).slot i = some sl' := State.setSlot_slot_same ..
  have other : ∀ j, j ≠ i → ((s.setPixel k p).setSlot i (some sl')).slot j = s.slot j := fun j hj =>
    State.setSlot_slot_other _ i j _ hj
  have sorted : Store.sorted ((s.setPixel k p).setSlot i (some sl')).store.pixels := (Store.wf_set hw k p).1
  generalize (s.setPixel k p).setSlot i (some sl') = t at pixel own other sorted
  have owner : ∀ j, (t.pixel j).owner = some i ↔ j = k ∨ (s.pixel j).owner = some i := by
    intro j
    rw [pixel]
    by_cases e : k = j
    · rw [if_pos e]; simp [e, ho]
    · rw [if_neg e]; simp [Ne.symm e]
  have others : ∀ j i', i' ≠ i → ((t.pixel j).owner = some i' ↔ (s.pixel j).owner = some i') := by
    intro j i' hi'
    rw [pixel]
    by_cases e : k = j
    · rw [if_pos e, ← e, hk, ho]; simp [Ne.symm hi']
    · rw [if_neg e]
  refine ⟨fun j i' hi' => ?_, fun i' sl₁ hsl₁ => ?_, fun i' sl₁ hsl₁ hp => ?_, fun j i' hi' hnone sl₁ hsl₁ => ?_⟩
  · by_cases e : i' = i
    · rw [e, own]; rfl
    · rw [other i' e]; exact h.owners j i' ((others j i' e).mp hi')
  · by_cases e : i' = i
    · subst e
      obtain rfl : sl' = sl₁ := Option.some.inj (own.symm.trans hsl₁)
      rw [owned_given hw.1 sorted (by rw [hk]; simp) owner, h.taken i' sl hs, htaken]
    · rw [owned_congr hw.1 sorted fun j => others j i' e]
      exact h.taken i' sl₁ (other i' e ▸ hsl₁)
  · by_cases e : i' = i
    · subst e
      obtain rfl : sl' = sl₁ := Option.some.inj (own.symm.trans hsl₁)
      omega
    · exact h.driving i' sl₁ (other i' e ▸ hsl₁) hp
  · by_cases e : i' = i
    · subst e
      obtain rfl : sl' = sl₁ := Option.some.inj (own.symm.trans hsl₁)
      rw [pixel] at hi' hnone
      by_cases ek : k = j
      · rw [if_pos ek] at hnone; exact hn hnone
      · rw [if_neg ek] at hi' hnone
        rw [hmode]; exact h.unknown j i' hi' hnone sl hs
    · have hold := (others j i' e).mp hi'
      have ek : k ≠ j := by
        rintro rfl
        rw [hk] at hold; cases hold
      rw [pixel, if_neg ek] at hnone
      exact h.unknown j i' hold hnone sl₁ (other i' e ▸ hsl₁)

theorem SlotsOwn.latchPixel (h : SlotsOwn s) (hw : Store.wf PixelRec.initial s.store.pixels) (i : Fin 16) (k : Nat) :
    SlotsOwn (latchPixel i s k) := by
  cases hs : s.slot i with
  | none => simpa only [Machine.latchPixel, hs] using h
  | some sl =>
    by_cases hskip : (s.pixel k).owner.isSome = true ∨ ((s.pixel k).shown = none ∧ sl.mode ≠ .clean)
    · rw [latchPixel_skipped hs hskip]
      refine h.keeps hw.1 hw.1 ⟨fun j i' => ?_, fun _ _ _ => rfl, fun i' sl' hsl' => ?_⟩
      · refine ⟨fun ho => ⟨ho, ?_⟩, fun ho => ho.1⟩
        by_cases e : i' = i
        · rw [e, State.setSlot_slot_same]; rfl
        · rw [State.setSlot_slot_other _ _ _ _ e]; exact h.owners j i' ho
      · by_cases e : i' = i
        · rw [e, State.setSlot_slot_same] at hsl'
          obtain rfl := Option.some.inj hsl'
          exact ⟨sl, e ▸ hs, rfl, rfl, .inl⟩
        · rw [State.setSlot_slot_other _ _ _ _ e] at hsl'
          exact ⟨sl', hsl', rfl, rfl, .inl⟩
    · rw [latchPixel_notSkipped hs hskip]
      obtain ⟨hfree, hclean⟩ := not_or.mp hskip
      refine ite_holds (P := SlotsOwn) (h.gives hw hs (by simpa using hfree) rfl (fun hn => ?_) rfl rfl) h
      by_contra hmode
      exact hclean ⟨hn, hmode⟩

theorem SlotsOwn.latchPixels (h : SlotsOwn s) (hw : Store.wf PixelRec.initial s.store.pixels) (i : Fin 16)
    (ks : List Nat) : SlotsOwn (ks.foldl (Machine.latchPixel i) s) := by
  induction ks generalizing s with
  | nil => exact h
  | cons k ks ih => exact ih (h.latchPixel hw i k) ((latchPixel_judged i s k).wf hw)

/-- Pixels and slots are all that `SlotsOwn` speaks of. -/
theorem SlotsOwn.congr (h : SlotsOwn s) (hp : t.store.pixels = s.store.pixels) (hs : t.sched.slots = s.sched.slots) :
    SlotsOwn t := by
  have pixel : ∀ k, t.pixel k = s.pixel k := fun k => by unfold State.pixel; rw [hp]
  have owned : ∀ i, t.owned i = s.owned i := fun i => by unfold State.owned; rw [hp]
  have slot := slot_of_slots hs
  refine ⟨fun k i => ?_, fun i sl => ?_, fun i sl => ?_, fun k i => ?_⟩
  · rw [pixel, slot]; exact h.owners k i
  · rw [owned, slot]; exact h.taken i sl
  · rw [slot]; exact h.driving i sl
  · rw [pixel]; simp only [slot]; exact h.unknown k i

theorem SlotsOwn.advancePass (h : SlotsOwn s) (hw : Store.wf PixelRec.initial s.store.pixels) (n : Nat) :
    SlotsOwn (s.advancePass n) := by
  unfold State.advancePass
  split
  · exact h
  · exact h.congr rfl rfl
  · exact h.congr rfl rfl
  · exact ite_holds (P := SlotsOwn) h ((h.latchPixels hw _ _).congr rfl rfl)

/-- With no slot busy no pixel has an owner. -/
theorem slotsOwn_of_unowned (ho : ∀ k, (s.pixel k).owner = none) (hf : ∀ i, s.slot i = none) : SlotsOwn s := by
  refine ⟨fun k i hi => ?_, fun i sl hi => ?_, fun i sl hi => ?_, fun k i hi => ?_⟩
  · rw [ho k] at hi; cases hi
  · rw [hf i] at hi; cases hi
  · rw [hf i] at hi; cases hi
  · rw [ho k] at hi; cases hi

end Owned

end Sys2Proof.Machine
end

section
/-! SUPPORT. The rails, the scanner and the slots that drive (R120, R132, R138 to R144): the half of `RailsLegal` that
speaks of rails not in FAULT (`RailsFollow`), and what each operation of the Rail Sequencer needs to reach it. -/

namespace Sys2Proof.Machine

/-- A slot is RUNNING. -/
def State.anyRunning (s : State) : Bool := s.anySlot Slot.isRunning

section Slots

variable {s t : State}

theorem anySlot_iff {p : Slot → Bool} : s.anySlot p = true ↔ ∃ i sl, s.slot i = some sl ∧ p sl = true := by
  simp only [State.anySlot, List.any_eq_true, mem_slotIds, true_and, Option.any_eq_true]

theorem anyDriving_eq (s : State) : s.anyDriving = (s.anyArmed || s.anyRunning) := by
  rw [Bool.eq_iff_iff, Bool.or_eq_true, State.anyDriving, State.anyArmed, State.anyRunning]
  simp only [anySlot_iff, Bool.or_eq_true, and_or_left, exists_or]

theorem anySlot_of_slots (h : t.sched.slots = s.sched.slots) (p : Slot → Bool) : t.anySlot p = s.anySlot p := by
  simp only [State.anySlot, slot_of_slots h]

theorem anySlot_of_free (h : ∀ i, s.slot i = none) (p : Slot → Bool) : s.anySlot p = false := by
  simp [State.anySlot, h]

/-- A frame that starts leaves no slot ARMED, and every slot that drove or was to drive RUNNING (R120). -/
theorem anyArmed_startFrame (s : State) : s.startFrame.anyArmed = false := by
  rw [← Bool.not_eq_true, State.anyArmed, anySlot_iff]
  rintro ⟨i, _, hs, ha⟩
  rw [State.startFrame_slot, Option.map_eq_some_iff] at hs
  obtain ⟨sl, -, rfl⟩ := hs
  by_cases h : sl.phase = .armed
  · simp [start_of_armed h, Slot.isArmed] at ha
  · rw [start_of_not_armed h, phase_armed_iff] at ha; exact h ha

theorem isRunning_start (sl : Slot) : sl.start.isRunning = (sl.isArmed || sl.isRunning) := by
  by_cases h : sl.phase = .armed
  · rw [start_of_armed h, phase_armed_iff.mpr h]; rfl
  · rw [start_of_not_armed h, Bool.eq_false_iff.mpr (mt phase_armed_iff.mp h), Bool.false_or]

theorem anyRunning_startFrame (s : State) : s.startFrame.anyRunning = s.anyDriving := by
  rw [Bool.eq_iff_iff, State.anyRunning, State.anyDriving]
  simp only [anySlot_iff, State.startFrame_slot, Option.map_eq_some_iff]
  constructor
  · rintro ⟨i, _, ⟨sl, hs, rfl⟩, hr⟩
    exact ⟨i, sl, hs, by rwa [isRunning_start] at hr⟩
  · rintro ⟨i, sl, hs, hr⟩
    exact ⟨i, _, ⟨sl, hs, rfl⟩, by rwa [isRunning_start]⟩

end Slots

/-- The rails, the scanner and the slots agree, FAULT apart (R120, R132, R138 to R144). -/
structure RailsFollow (s : State) : Prop where
  scanning : s.scan.isSome = s.anyRunning
  driving : s.anyRunning = true → s.rails.state = .on
  armed : s.anyArmed = true → s.rails.state ≠ .off ∧ (s.rails.state = .on → s.anyRunning = true)
  holding : s.rails.hold.isSome = true ↔ s.rails.state = .on ∧ s.anyDriving = false
  rising : s.rails.rise.isSome = true ↔ s.rails.state = .rising
  falling : s.rails.fall.isSome = true ↔ s.rails.state = .falling

theorem railsLegal_iff {s : State} : RailsLegal s ↔
    RailsFollow s ∧ (s.rails.state = .fault → s.sched.pass = none ∧ ∀ i, s.slot i = none) := by
  have running : s.anyRunning = true ↔ ∃ i sl, s.slot i = some sl ∧ sl.isRunning = true := anySlot_iff
  have armed : s.anyArmed = true ↔ ∃ i sl, s.slot i = some sl ∧ sl.isArmed = true := anySlot_iff
  constructor
  · intro h
    refine ⟨⟨?_, fun hr => ?_, fun ha => ?_, h.holding, h.rising, h.falling⟩, h.fault⟩
    · rw [Bool.eq_iff_iff, running]
      exact ⟨fun hs => (h.scanning hs).2, fun ⟨i, sl, hs, hr⟩ => (h.running i sl hs hr).2⟩
    · obtain ⟨i, sl, hs, hr⟩ := running.mp hr
      exact (h.running i sl hs hr).1
    · obtain ⟨i, sl, hs, ha⟩ := armed.mp ha
      obtain ⟨hoff, hon⟩ := h.armed i sl hs ha
      exact ⟨hoff, fun e => running.mpr (h.scanning (hon e)).2⟩
  · rintro ⟨h, hfault⟩
    have scanning : s.scan.isSome = true ↔ s.anyRunning = true := Bool.eq_iff_iff.mp h.scanning
    refine ⟨fun i sl hs hr => ?_, fun hs => ?_, fun i sl hs ha => ?_, h.holding, h.rising, h.falling, hfault⟩
    · have hrun := running.mpr ⟨i, sl, hs, hr⟩
      exact ⟨h.driving hrun, scanning.mpr hrun⟩
    · have hrun := scanning.mp hs
      exact ⟨h.driving hrun, running.mp hrun⟩
    · obtain ⟨hoff, hon⟩ := h.armed (armed.mpr ⟨i, sl, hs, ha⟩)
      exact ⟨hoff, fun e => scanning.mpr (hon e)⟩

section Rails

variable {s t : State}

theorem RailsFollow.congr (h : RailsFollow s) (hr : t.rails = s.rails) (hs : t.scan = s.scan)
    (armed : t.anyArmed = s.anyArmed) (running : t.anyRunning = s.anyRunning) : RailsFollow t := by
  obtain ⟨h1, h2, h3, h4, h5, h6⟩ := h
  rw [anyDriving_eq] at h4
  refine ⟨?_, ?_, ?_, ?_, ?_, ?_⟩ <;> simpa only [anyDriving_eq, hr, hs, armed, running]

theorem RailsFollow.noRise (h : RailsFollow s) (hr : s.rails.state ≠ .rising) : s.rails.rise = none := by
  rw [← Option.not_isSome_iff_eq_none, h.rising]; exact hr

theorem RailsFollow.noFall (h : RailsFollow s) (hr : s.rails.state ≠ .falling) : s.rails.fall = none := by
  rw [← Option.not_isSome_iff_eq_none, h.falling]; exact hr

/-- Nothing drives, and no timer that only ON or FALLING has runs: what the rails rise from. -/
structure Unpowered (s : State) : Prop where
  scan : s.scan = none
  running : s.anyRunning = false
  hold : s.rails.hold = none
  fall : s.rails.fall = none

theorem RailsFollow.still (h : RailsFollow s) (hr : s.rails.state ≠ .on) :
    s.scan = none ∧ s.anyRunning = false ∧ s.rails.hold = none := by
  have running : s.anyRunning = false := Bool.eq_false_iff.mpr (mt h.driving hr)
  refine ⟨?_, running, ?_⟩
  · simpa [running] using h.scanning
  · rw [← Option.not_isSome_iff_eq_none, h.holding]; exact fun e => hr e.1

theorem RailsFollow.unpowered (h : RailsFollow s) (hr : s.rails.state ≠ .on) (hf : s.rails.state ≠ .falling) :
    Unpowered s := by
  obtain ⟨scan, running, hold⟩ := h.still hr
  exact ⟨scan, running, hold, h.noFall hf⟩

/-- The rails fall with nothing driven (R141, R145). -/
theorem railsFollow_enterFalling (scan : s.scan = none) (running : s.anyRunning = false) :
    RailsFollow s.enterFalling := by
  have hrun : s.enterFalling.anyRunning = false := running
  have hscan : s.enterFalling.scan = none := scan
  have hrails : s.enterFalling.rails = { s.rails with
      state := .falling, rise := none, hold := none, fall := some s.store.panel.fallTime } := rfl
  generalize s.enterFalling = t at hrun hscan hrails ⊢
  refine ⟨?_, ?_, ?_, ?_, ?_, ?_⟩ <;> simp [hrun, hscan, hrails]

/-- The hold timer starts with the rails ON and nothing driving (R141). -/
theorem railsFollow_startHold (on : s.rails.state = .on) (rise : s.rails.rise = none) (fall : s.rails.fall = none)
    (scan : s.scan = none) (idle : s.anyDriving = false) : RailsFollow s.startHold := by
  obtain ⟨armed, running⟩ := Bool.or_eq_false_iff.mp ((anyDriving_eq s).symm.trans idle)
  unfold State.startHold
  refine ite_holds (railsFollow_enterFalling scan running) ?_
  generalize ht : ({ s with rails := { s.rails with hold := some s.store.panel.holdTime } } : State) = t
  have harmed : t.anyArmed = false := ht ▸ armed
  have hrun : t.anyRunning = false := ht ▸ running
  have hscan : t.scan = none := ht ▸ scan
  have hrails : t.rails = { s.rails with hold := some s.store.panel.holdTime } := ht ▸ rfl
  refine ⟨?_, ?_, ?_, ?_, ?_, ?_⟩ <;> simp [anyDriving_eq, harmed, hrun, hscan, hrails, on, rise, fall]

/-- A frame starts with the rails ON and a slot to drive (R132). -/
theorem railsFollow_startFrame (on : s.rails.state = .on) (rise : s.rails.rise = none) (fall : s.rails.fall = none)
    (hold : s.rails.hold = none) (drives : s.anyDriving = true) : RailsFollow s.startFrame := by
  have harmed := anyArmed_startFrame s
  have hrun := (anyRunning_startFrame s).trans drives
  have hscan : s.startFrame.scan.isSome = true := rfl
  have hrails : s.startFrame.rails = s.rails := rfl
  generalize s.startFrame = t at harmed hrun hscan hrails ⊢
  refine ⟨?_, ?_, ?_, ?_, ?_, ?_⟩ <;> simp [anyDriving_eq, harmed, hrun, hscan, hrails, on, rise, fall, hold]

theorem railsFollow_reachOn (h : Unpowered s) : RailsFollow s.reachOn := by
  obtain ⟨scan, running, hold, fall⟩ := h
  unfold State.reachOn
  simp only
  split
  · rename_i armed
    exact railsFollow_startFrame rfl rfl fall hold (by rw [anyDriving_eq, armed]; rfl)
  · rename_i armed
    refine railsFollow_startHold rfl rfl fall scan ?_
    rw [anyDriving_eq, Bool.eq_false_iff.mpr armed, Bool.false_or]
    exact running

theorem railsFollow_enterRising (h : Unpowered s) : RailsFollow s.enterRising := by
  unfold State.enterRising
  simp only
  split
  · exact railsFollow_reachOn ⟨h.scan, h.running, h.hold, h.fall⟩
  · generalize ht : ({ s with
      rails := { s.rails with state := .rising, rise := some s.store.panel.riseLimit } } : State) = t
    have hrun : t.anyRunning = false := ht ▸ h.running
    have hscan : t.scan = none := ht ▸ h.scan
    have hrails : t.rails = { s.rails with state := .rising, rise := some s.store.panel.riseLimit } := ht ▸ rfl
    refine ⟨?_, ?_, ?_, ?_, ?_, ?_⟩ <;> simp [hrun, hscan, hrails, h.hold, h.fall]

/-- The rails follow a slot that has become ARMED (R119, R132, R139, R140). -/
theorem railsFollow_onArmed (h : RailsFollow s) (hr : t.rails = s.rails) (hs : t.scan = s.scan)
    (running : t.anyRunning = s.anyRunning) (armed : t.anyArmed = true) : RailsFollow t.onArmed := by
  have unpowered : t.rails.state ≠ .on → t.rails.state ≠ .falling → Unpowered t := fun hon hf => by
    obtain ⟨h1, h2, h3, h4⟩ := h.unpowered (hr ▸ hon) (hr ▸ hf)
    exact ⟨hs.trans h1, running.trans h2, hr ▸ h3, hr ▸ h4⟩
  have stays : t.rails.state ≠ .on → t.rails.state ≠ .off → RailsFollow t := fun hon hoff => by
    obtain ⟨h1, h2, -, h4, h5, h6⟩ := h
    rw [← hr] at h2 h4 h5 h6
    refine ⟨hs ▸ running ▸ h1, running ▸ h2, fun _ => ⟨hoff, fun e => absurd e hon⟩, ?_, h5, h6⟩
    exact h4.trans (by simp [hon])
  cases hstate : t.rails.state with
  | off =>
    have e : t.onArmed = t.enterRising := by unfold State.onArmed; rw [hstate]
    rw [e]
    exact railsFollow_enterRising (unpowered (by simp [hstate]) (by simp [hstate]))
  | on =>
    have rise : t.rails.rise = none := hr ▸ h.noRise (by rw [← hr, hstate]; simp)
    have fall : t.rails.fall = none := hr ▸ h.noFall (by rw [← hr, hstate]; simp)
    rw [onArmed_on hstate]
    split
    · exact railsFollow_startFrame hstate rise fall rfl (by rw [anyDriving_eq]; simpa using .inl armed)
    · rename_i hscan
      have hsome : t.scan.isSome = true := by simpa using Option.ne_none_iff_isSome.mp (by simpa using hscan)
      have hrun : t.anyRunning = true := by rw [running, ← h.scanning, ← hs]; exact hsome
      generalize hu : ({ t with rails := { t.rails with hold := none } } : State) = u
      have hurun : u.anyRunning = true := hu ▸ hrun
      have huscan : u.scan.isSome = true := hu ▸ hsome
      have hurails : u.rails = { t.rails with hold := none } := hu ▸ rfl
      refine ⟨?_, ?_, ?_, ?_, ?_, ?_⟩ <;> simp [anyDriving_eq, hurun, huscan, hurails, hstate, rise, fall]
  | rising => rw [onArmed_other (.inl hstate)]; exact stays (by simp [hstate]) (by simp [hstate])
  | falling => rw [onArmed_other (.inr (.inl hstate))]; exact stays (by simp [hstate]) (by simp [hstate])
  | fault => rw [onArmed_other (.inr (.inr hstate))]; exact stays (by simp [hstate]) (by simp [hstate])

/-- The next frame starts, or the scanner stops and the hold timer starts, with the rails ON and the timers still
(R132, R135). -/
theorem railsFollow_nextFrame (on : s.rails.state = .on) (rise : s.rails.rise = none) (fall : s.rails.fall = none)
    (hold : s.rails.hold = none) : RailsFollow s.nextFrame := by
  cases drives : s.anyDriving
  · rw [nextFrame_idle drives]
    exact railsFollow_startHold on rise fall rfl drives
  · rw [nextFrame_driving drives]
    exact railsFollow_startFrame on rise fall hold drives

/-- Slots have left ARMED or RUNNING: the hold timer starts where the last of them that drove was one (R124, R126,
R141). -/
theorem railsFollow_holdIfLeft (h : RailsFollow s) (hr : t.rails = s.rails) (scanning : t.scan.isSome = t.anyRunning)
    (running : t.anyRunning = true → s.anyRunning = true)
    (armed : t.anyArmed = true → s.anyArmed = true ∧ t.anyRunning = s.anyRunning) :
    RailsFollow (t.holdIfLeft s.anyDriving) := by
  by_cases left : s.anyDriving = true ∧ t.anyDriving = false ∧ t.rails.state = .on
  · obtain ⟨before, after, on⟩ := left
    have still : t.holdIfLeft s.anyDriving = t.startHold := by simp [State.holdIfLeft, before, after, on]
    have hrun : t.anyRunning = false := (Bool.or_eq_false_iff.mp ((anyDriving_eq t).symm.trans after)).2
    rw [still]
    refine railsFollow_startHold on (hr ▸ h.noRise (by rw [← hr, on]; simp))
      (hr ▸ h.noFall (by rw [← hr, on]; simp)) ?_ after
    rw [← Option.not_isSome_iff_eq_none, scanning, hrun]; simp
  · have still : t.holdIfLeft s.anyDriving = t := by
      unfold State.holdIfLeft
      exact if_neg (by simpa [and_assoc] using left)
    rw [still]
    obtain ⟨-, h2, h3, h4, h5, h6⟩ := h
    rw [← hr] at h2 h3 h4 h5 h6
    refine ⟨scanning, fun hrun => h2 (running hrun), fun ha => ?_, h4.trans (and_congr_right fun on => ?_), h5, h6⟩
    · obtain ⟨before, e⟩ := armed ha
      rw [e]; exact h3 before
    · constructor
      · intro idle
        rw [anyDriving_eq, Bool.or_eq_false_iff] at idle ⊢
        exact ⟨Bool.eq_false_iff.mpr fun ha => by simp [(armed ha).1] at idle,
          Bool.eq_false_iff.mpr fun hrun => by simp [running hrun] at idle⟩
      · intro after
        by_contra before
        exact left ⟨by simpa using before, after, on⟩

theorem startHold_fault (h : s.startHold.rails.state = .fault) : s.rails.state = .fault := by
  rw [startHold_eq] at h
  dsimp only at h
  split at h
  · cases h
  · exact h

theorem holdIfLeft_fault (before : Bool) (h : (s.holdIfLeft before).rails.state = .fault) :
    s.rails.state = .fault := by
  unfold State.holdIfLeft at h
  split at h
  · exact startHold_fault h
  · exact h

/-- Rails in FAULT with no timer running, nothing driven and every slot FREE (R144). -/
theorem railsLegal_fault (state : s.rails.state = .fault) (rise : s.rails.rise = none) (hold : s.rails.hold = none)
    (fall : s.rails.fall = none) (scan : s.scan = none) (pass : s.sched.pass = none) (free : ∀ i, s.slot i = none) :
    RailsLegal s := by
  have hrun : s.anyRunning = false := anySlot_of_free free _
  have harmed : s.anyArmed = false := anySlot_of_free free _
  refine railsLegal_iff.mpr ⟨⟨?_, ?_, ?_, ?_, ?_, ?_⟩, fun _ => ⟨pass, free⟩⟩ <;>
    simp [hrun, harmed, state, rise, hold, fall, scan]

/-- Rails that are OFF, with no timer running, nothing driven and every slot FREE (R138). -/
theorem railsLegal_off (state : s.rails.state = .off) (rise : s.rails.rise = none) (hold : s.rails.hold = none)
    (fall : s.rails.fall = none) (scan : s.scan = none) (free : ∀ i, s.slot i = none) : RailsLegal s := by
  have hrun : s.anyRunning = false := anySlot_of_free free _
  have harmed : s.anyArmed = false := anySlot_of_free free _
  refine railsLegal_iff.mpr ⟨⟨?_, ?_, ?_, ?_, ?_, ?_⟩, fun h => absurd (state.symm.trans h) (by simp)⟩ <;>
    simp [hrun, harmed, state, rise, hold, fall, scan]

end Rails

end Sys2Proof.Machine
end

section
/-! SUPPORT. What every step keeps of owners, slots, rails and passes (R104, R110, R112, R138, R147), as a relation of
the states before and after a command (`Keeps`), and the commands that leave it alone: the records whose units hold
neither slots nor rails, and the bus. -/

namespace Sys2Proof.Machine

open Host (Outcome)

/-! ### What is kept -/

/-- Owners, slots, rails, the power state and the reset line agree. -/
structure Lawful (s : State) : Prop where
  own : SlotsOwn s
  waits : PassWaits s
  rails : RailsLegal s
  quiet : s.power ≠ .run → Quiet s
  asserted : s.link.resetAsserted = true → s.power = .starting

/-- In RUN with RESET_N released nothing need be quiet. -/
theorem Lawful.inRun {s : State} (power : s.power = .run) (released : s.link.resetAsserted ≠ true) (own : SlotsOwn s)
    (waits : PassWaits s) (rails : RailsLegal s) : Lawful s :=
  ⟨own, waits, rails, fun h => absurd power h, fun h => absurd h released⟩

/-- Outside RUN a quiet state with no owner is lawful. -/
theorem Lawful.ofQuiet {s : State} (quiet : Quiet s) (rails : RailsLegal s) (owner : ∀ k, (s.pixel k).owner = none)
    (asserted : s.link.resetAsserted = true → s.power = .starting) : Lawful s := by
  obtain ⟨-, hpass⟩ := quiet.requests
  refine ⟨slotsOwn_of_unowned owner quiet.slots, ⟨fun i sl hs => ?_, fun i todo hp => ?_, fun hp => ?_⟩, rails,
    fun _ => quiet, asserted⟩
  · rw [quiet.slots i] at hs; cases hs
  · rw [hpass] at hp; cases hp
  · rw [hpass] at hp; cases hp

/-- What a command keeps: the agreement over canonical pixels, and a triggered pass that can begin. -/
structure Keeps (s t : State) : Prop where
  order : Store.wf PixelRec.initial s.store.pixels → Lawful s → Lawful t
  pass : PassLegal s → PassLegal t

/-- What a command keeps that acts only in RUN. -/
structure KeepsInRun (s t : State) : Prop where
  order : Store.wf PixelRec.initial s.store.pixels → Lawful s → s.power = .run → Lawful t
  pass : PassLegal s → PassLegal t

/-- What `Lawful` speaks of. The level of PGOOD is not part of it. -/
def State.scene (s : State) : List (Nat × PixelRec) × Vector (Option Slot) 16 × List Request × Option Pass ×
    Option Nat × RailState × Option Nat × Option Nat × Option Nat × Power × Bool :=
  (s.store.pixels, s.sched.slots, s.sched.requests, s.sched.pass, s.scan, s.rails.state, s.rails.rise, s.rails.hold,
    s.rails.fall, s.power, s.link.resetAsserted)

section Frames

variable {s t u : State}

theorem Keeps.refl (s : State) : Keeps s s := ⟨fun _ h => h, fun h => h⟩

theorem KeepsInRun.keeps (h : KeepsInRun s t) (run : Lawful s → s.power = .run) : Keeps s t :=
  ⟨fun hw hl => h.order hw hl (run hl), h.pass⟩

theorem Keeps.inRun (h : Keeps s t) : KeepsInRun s t := ⟨fun hw hl _ => h.order hw hl, h.pass⟩

theorem PassWaits.congr (h : PassWaits s) (hs : t.sched.slots = s.sched.slots) (hp : t.sched.pass = s.sched.pass)
    (hr : t.sched.requests = s.sched.requests) : PassWaits t := by
  have latching : t.latching = s.latching := by unfold State.latching; rw [hp]
  have examined : t.examined = s.examined := by unfold State.examined; rw [hr]
  refine ⟨fun i sl => ?_, fun i todo => ?_, ?_⟩
  · rw [slot_of_slots hs, hp]; exact h.latching i sl
  · rw [slot_of_slots hs, hp]; exact h.walking i todo
  · rw [hp, latching, examined]; exact h.reading

theorem RailsLegal.congr (h : RailsLegal s) (hs : t.sched.slots = s.sched.slots)
    (hscan : t.scan = s.scan) (state : t.rails.state = s.rails.state) (rise : t.rails.rise = s.rails.rise)
    (hold : t.rails.hold = s.rails.hold) (fall : t.rails.fall = s.rails.fall)
    (pass : t.rails.state = .fault → t.sched.pass = s.sched.pass) : RailsLegal t := by
  have slot := slot_of_slots hs
  have driving : t.anyDriving = s.anyDriving := anySlot_of_slots hs _
  obtain ⟨h1, h2, h3, h4, h5, h6, h7⟩ := h
  refine ⟨?_, ?_, ?_, ?_, ?_, ?_, fun hf => ?_⟩
  · simpa only [slot, hscan, state] using h1
  · simpa only [slot, hscan, state] using h2
  · simpa only [slot, hscan, state] using h3
  · rw [hold, state, driving]; exact h4
  · rw [rise, state]; exact h5
  · rw [fall, state]; exact h6
  · rw [pass hf]; simpa only [slot] using h7 (state ▸ hf)

theorem Lawful.sameScene (h : Lawful s) (e : t.scene = s.scene) (quiet : s.power ≠ .run → Quiet s → Quiet t) :
    Lawful t := by
  simp only [State.scene, Prod.mk.injEq] at e
  obtain ⟨pixels, slots, requests, pass, scan, state, rise, hold, fall, power, asserted⟩ := e
  refine ⟨h.own.congr pixels slots, h.waits.congr slots pass requests,
    h.rails.congr slots scan state rise hold fall fun _ => pass, fun hp => ?_, fun ha => ?_⟩
  · rw [power] at hp; exact quiet hp (h.quiet hp)
  · rw [asserted] at ha; exact power.trans (h.asserted ha)

theorem PassLegal.congr (h : PassLegal s) (due : t.sched.passDue = s.sched.passDue)
    (pass : t.sched.pass.isSome = s.sched.pass.isSome) (hold : t.intake.hold = s.intake.hold)
    (state : t.rails.state = s.rails.state) : PassLegal t := by
  refine ⟨?_, ?_, ?_⟩
  · rw [due, state, hold]; exact h.due
  · rw [due, hold]; exact h.waiting
  · rw [pass, hold]; exact h.running

/-- The Dispatcher is held neither on an UPDATE nor on a reinitialization. -/
def Hold.apart (h : Hold) : Prop := h ≠ .reinit ∧ ∀ begun, h ≠ .update begun

/-- A Dispatcher that passes do not wait for leaves them as they are. -/
theorem PassLegal.apart (h : PassLegal s) (due : t.sched.passDue = s.sched.passDue)
    (hold : t.intake.hold.apart) (state : t.rails.state = s.rails.state) : PassLegal t := by
  obtain ⟨reinit, update⟩ := hold
  refine ⟨?_, fun e => absurd e (update _), fun e => absurd e (update _)⟩
  rw [due, state]; exact fun hd => ⟨(h.due hd).1, reinit⟩

/-! ### Commands that move neither slots nor rails -/

/-- A command that serves a record, or ends its work, in a unit that holds neither slots nor rails. -/
structure Serves (s t : State) : Prop where
  scene : t.scene = s.scene
  due : t.sched.passDue = s.sched.passDue
  hold : t.intake.hold = s.intake.hold ∨ t.intake.hold.apart

/-- What `Lawful` and `PassLegal` speak of. -/
def State.kept (s : State) := (s.scene, s.sched.passDue, s.intake.hold)

theorem Serves.same (h : t.kept = s.kept) : Serves s t := by
  simp only [State.kept, Prod.mk.injEq] at h
  obtain ⟨scene, due, hold⟩ := h
  exact ⟨scene, due, .inl hold⟩

theorem Serves.keepsInRun (h : Serves s t) : KeepsInRun s t := by
  have e := h.scene
  refine ⟨fun _ hl hp => hl.sameScene e fun hn => absurd hp hn, fun hl => ?_⟩
  simp only [State.scene, Prod.mk.injEq] at e
  obtain ⟨-, -, -, pass, -, state, -⟩ := e
  rcases h.hold with hold | hold
  · exact hl.congr h.due (by rw [pass]) hold state
  · exact hl.apart h.due hold state

theorem serves_unmoved (s : State) : Unmoved s (Serves s) := ⟨.same rfl, fun _ _ => .same rfl⟩

/-- A dispatch acts only in RUN. -/
theorem keepsInRun_withHead {k : RecordKind} {f : Bytes → State} (h : KeepsInRun s (s.withHead k f)) :
    Keeps s (s.withHead k f) := by
  rcases withHead_cases s k f with ⟨-, e⟩ | ⟨body, rest, hd, -⟩
  · rw [e]; exact .refl s
  · exact h.keeps fun _ => hd.1

/-! ### Commands that leave the work in progress alone -/

/-- All that is quiet outside RUN but the link. -/
def State.business (s : State) : Intake × Option Draw × Option GlyphWrite × Option Nat × Option Nat :=
  (s.intake, s.comp.draw, s.tables.glyphWrite, s.temp.readInFlight, s.temp.timer)

/-- No unit begins or ends anything, and no record is let in that the power state keeps out. -/
structure Idle (s t : State) : Prop where
  scene : t.scene = s.scene
  due : t.sched.passDue = s.sched.passDue
  business : t.business = s.business
  link : ∀ rx, t.link.rx = some rx → s.link.rx = some rx ∨
    (s.power ≠ .run → rx.disp ≠ .reserved ∧ rx.disp ≠ .express)

theorem Idle.quiet (h : Idle s t) (hp : s.power ≠ .run) (hq : Quiet s) : Quiet t := by
  have hb := h.business
  have hs := h.scene
  simp only [State.business, Prod.mk.injEq] at hb
  simp only [State.scene, Prod.mk.injEq] at hs
  obtain ⟨intake, draw, glyph, flight, timer⟩ := hb
  obtain ⟨-, slots, requests, pass, scan, state, -⟩ := hs
  refine ⟨intake.trans hq.intake, fun i => (slot_of_slots slots i).trans (hq.slots i), ?_, ?_, ?_, ?_, fun rx hrx => ?_⟩
  · rw [requests, pass]; exact hq.requests
  · rw [draw, glyph]; exact hq.drawing
  · rw [state, scan]; exact hq.rails
  · rw [flight, timer]; exact hq.sensor
  · exact (h.link rx hrx).elim (hq.link rx) fun h => h hp

theorem Idle.lawful (h : Idle s t) (hl : Lawful s) : Lawful t := hl.sameScene h.scene h.quiet

theorem Idle.passLegal (h : Idle s t) (hl : PassLegal s) : PassLegal t := by
  have hb := h.business
  have hs := h.scene
  simp only [State.business, Prod.mk.injEq] at hb
  simp only [State.scene, Prod.mk.injEq] at hs
  obtain ⟨intake, -⟩ := hb
  obtain ⟨-, -, -, pass, -, state, -⟩ := hs
  exact hl.congr h.due (by rw [pass]) (by rw [intake]) state

theorem Idle.keeps (h : Idle s t) : Keeps s t := ⟨fun _ => h.lawful, h.passLegal⟩

theorem Keeps.andThen (h : Keeps s t) (h' : Idle t u) : Keeps s u :=
  ⟨fun hw hl => h'.lawful (h.order hw hl), fun hl => h'.passLegal (h.pass hl)⟩

/-- The same state but for what waits to be run, what is shown and what is told. -/
theorem Idle.same (scene : t.scene = s.scene) (due : t.sched.passDue = s.sched.passDue)
    (business : t.business = s.business) (rx : t.link.rx = s.link.rx) : Idle s t :=
  ⟨scene, due, business, fun _ h => .inl (rx ▸ h)⟩

theorem Idle.received (scene : t.scene = s.scene) (due : t.sched.passDue = s.sched.passDue)
    (business : t.business = s.business) (rx : t.link.rx = none) : Idle s t :=
  ⟨scene, due, business, fun _ h => by rw [rx] at h; cases h⟩

theorem Idle.trans (h : Idle s t) (h' : Idle t u) : Idle s u := by
  have power : t.power = s.power := by
    have hs := h.scene
    simp only [State.scene, Prod.mk.injEq] at hs
    obtain ⟨-, -, -, -, -, -, -, -, -, power, -⟩ := hs
    exact power
  exact ⟨h'.scene.trans h.scene, h'.due.trans h.due, h'.business.trans h.business, fun rx hrx =>
    (h'.link rx hrx).elim (h.link rx) fun hq => .inr (power ▸ hq)⟩

theorem idle_setFlagIf (s : State) (c : Bool) (f : Flag) : Idle s (s.setFlagIf c f) := by
  rw [setFlagIf_frame]; exact .same rfl rfl rfl rfl

theorem idle_endUntaken (s : State) (rx : Rx) : Idle s (s.endUntaken rx) := by
  unfold State.endUntaken
  split <;> exact .same rfl rfl rfl rfl

/-! ### The work that shows a station in RUN -/

theorem Lawful.run_of_draw (h : Lawful s) (hd : s.comp.draw ≠ none) : s.power = .run := by
  by_contra hp; exact hd (h.quiet hp).drawing.1

theorem Lawful.run_of_glyphWrite (h : Lawful s) (hg : s.tables.glyphWrite ≠ none) : s.power = .run := by
  by_contra hp; exact hg (h.quiet hp).drawing.2

theorem Lawful.run_of_hold (h : Lawful s) (hh : s.intake.hold ≠ .free) : s.power = .run := by
  by_contra hp; exact hh (by rw [(h.quiet hp).intake])

theorem Lawful.run_of_read (h : Lawful s) (hr : s.temp.readInFlight.isSome = true) : s.power = .run := by
  by_contra hp; rw [(h.quiet hp).sensor.1] at hr; cases hr

theorem Lawful.run_of_pass (h : Lawful s) {p : Pass} (hr : s.sched.pass = some p) : s.power = .run := by
  by_contra hp; rw [(h.quiet hp).requests.2] at hr; cases hr

theorem Lawful.run_of_scan (h : Lawful s) (hs : s.scan.isSome = true) : s.power = .run := by
  by_contra hp; rw [(h.quiet hp).rails.2] at hs; cases hs

theorem Lawful.run_of_rails (h : Lawful s) (hr : ¬ (s.rails.state = .off ∨ s.rails.state = .fault)) :
    s.power = .run := by
  by_contra hp; exact hr (h.quiet hp).rails.1

theorem Lawful.run_of_rx (h : Lawful s) {rx : Rx} (hr : s.link.rx = some rx)
    (hd : rx.disp = .reserved ∨ rx.disp = .express) : s.power = .run := by
  by_contra hp
  obtain ⟨h1, h2⟩ := (h.quiet hp).link rx hr
  exact hd.elim h1 h2

theorem idle_setRx_none (s : State) : Idle s (s.setRx none) := .received rfl rfl rfl rfl

/-- CS_N rises: the transaction is over before anything else happens. -/
theorem keeps_csRise {isKind : Byte → Bool} {body : Bytes} {f : Rx → State → State}
    (act : ∀ rx, s.link.rx = some rx → Keeps s (f rx (s.setRx none))) : Keeps s (s.csRise isKind body f) := by
  rcases csRise_cases s isKind body f with e | ⟨rx, hrx, -, ⟨-, e⟩ | ⟨-, e⟩⟩
  · rw [e]; exact .refl s
  · rw [e]
    exact (idle_setRx_none s).keeps.andThen (idle_setFlagIf ..)
  · rw [e]; exact act rx hrx

/-- An express record is taken only in RUN. -/
theorem keeps_express {k : RecordKind} {body : Bytes} {f : State → State} (act : ∀ u, KeepsInRun u (f u)) :
    Keeps s (s.express k body f) := by
  refine keeps_csRise fun rx hrx => ?_
  split
  · rename_i hd
    refine ⟨fun hw hl => ?_, fun hl => (act _).pass ((idle_setRx_none s).passLegal hl)⟩
    exact (act (s.setRx none)).order hw ((idle_setRx_none s).lawful hl) (hl.run_of_rx hrx (.inr hd))
  · exact (idle_setRx_none s).keeps.andThen (idle_endUntaken ..)

end Frames

end Sys2Proof.Machine
end

section
/-! SUPPORT. The commands that keep owners, slots, rails and passes because their units hold none of them: drawing,
tables, waveforms, temperature, flags, reads and the bus (02 to 06, 09). -/

namespace Sys2Proof.Machine

open Host (Outcome)

/-! ### What the shared operations leave -/

section Kept

variable (s : State)

theorem setFlagIf_kept (c : Bool) (f : Flag) : (s.setFlagIf c f).kept = s.kept := by
  rw [setFlagIf_frame]; rfl

theorem notify_kept (w : Bool) (n : Notice) : (s.notify w n).kept = s.kept := by rw [notify_frame]; rfl

theorem freeMisses_kept : s.freeMisses.kept = s.kept := by rw [freeMisses_frame]; rfl

theorem setBank_kept (b : BankId) (v : Bank) : (s.setBank b v).kept = s.kept := by cases b <;> rfl

theorem recomputeBand_kept : s.recomputeBand.kept = s.kept := by rw [recomputeBand_frame]; rfl

theorem commitBank_kept (b : BankId) : (s.commitBank b).kept = s.kept := by
  unfold State.commitBank
  rw [recomputeBand_kept, setBank_kept]
  split
  · rfl
  · exact setBank_kept ..

theorem tempset_kept (source : Source) : (s.tempset source).kept = s.kept := by
  unfold State.tempset
  rw [abandonRead_eq]; rfl

theorem failRead_kept (events : List WireEvent) : (s.failRead events).kept = s.kept := by rw [failRead_frame]; rfl

theorem startText_kept (x : TextRec) : (s.startText x).kept = s.kept := by
  unfold State.startText
  split
  · rfl
  · exact freeMisses_kept _

end Kept

section Commands

variable (s : State)

/-- An outcome whose state keeps what every step keeps. -/
def AnswersKept (o : Outcome State Fault Refusal) : Prop := ∀ t, o = .next t → Keeps s t

variable {s}

theorem AnswersKept.next {t : State} (h : Keeps s t) : AnswersKept s (.next t) := fun _ e => by
  cases e; exact h

/-- The Dispatcher hands a record on to a unit that holds neither slots nor rails. -/
theorem AnswersKept.serves {k : RecordKind} {f : Bytes → State} (h : Serves s (s.withHead k f)) :
    AnswersKept s (.next (s.withHead k f)) := .next (keepsInRun_withHead h.keepsInRun)

variable (s)

/-! ### Drawing (03, 04) -/

theorem execFill_keeps : AnswersKept s (execFill s) :=
  .serves (withDraw_holds (serves_unmoved s) fun _ => by split <;> exact .same rfl)

theorem execCopy_keeps : AnswersKept s (execCopy s) :=
  .serves (withDraw_holds (serves_unmoved s) fun _ => by split <;> exact .same rfl)

theorem execHilite_keeps : AnswersKept s (execHilite s) :=
  .serves (withDraw_holds (serves_unmoved s) fun _ => by
    split
    · exact .same rfl
    · exact ite_holds (.same rfl) (.same rfl))

theorem execText_keeps : AnswersKept s (execText s) :=
  .serves (withDraw_holds (serves_unmoved s) fun _ => by
    split
    · exact .same rfl
    · exact ite_holds (.same rfl) (.same (startText_kept s.pop _)))

theorem execClippush_keeps : AnswersKept s (execClippush s) :=
  .serves (withDraw_holds (serves_unmoved s) fun _ => by
    split
    · exact .same rfl
    · exact .same (setFlagIf_kept ..))

theorem execClippop_keeps : AnswersKept s (execClippop s) :=
  .serves (withDraw_holds (serves_unmoved s) fun _ => by
    split
    · exact .same rfl
    · exact .same (setFlagIf_kept ..))

theorem execClipreset_keeps : AnswersKept s (execClipreset s) :=
  .serves (withDraw_holds (serves_unmoved s) fun _ => by split <;> exact .same rfl)

/-- Target writes leave owners and shown tones (R3). -/
theorem SlotsOwn.writeTargets {s t : State} (h : SlotsOwn s) (hw : Store.wf PixelRec.initial s.store.pixels)
    {ws : List (Nat × Tone)} (hp : t.store.pixels = Machine.writeTargets s.store.pixels ws)
    (hs : t.sched.slots = s.sched.slots) : SlotsOwn t := by
  have fields : ∀ k, (t.pixel k).shown = (s.pixel k).shown ∧ (t.pixel k).owner = (s.pixel k).owner := fun k => by
    obtain ⟨shown, -, owner⟩ := pixelAt_writeTargets_fields ws s.store.pixels k
    unfold State.pixel
    rw [hp]
    exact ⟨shown, owner⟩
  exact h.keeps hw.1 (hp ▸ (writeTargets_wf hw ws).1) (h.keepsOwned (next := id) (fun k => (fields k).2)
    (fun k => (fields k).1) (fun i => by rw [slot_of_slots hs, Option.map_id, id]) fun _ => ⟨rfl, rfl, id⟩)

theorem execDrawEnd_keeps : AnswersKept s (execDrawEnd s) := by
  cases hd : s.comp.draw with
  | none => exact .next (by rw [hd]; exact .refl s)
  | some d =>
    cases d with
    | writing kind todo =>
      rw [show execDrawEnd s = _ from drawEnd_eq hd]
      refine .next (KeepsInRun.keeps ⟨fun hw hl hp => ?_, fun hl => ?_⟩ fun hl => hl.run_of_draw (by simp [hd]))
      · exact .inRun hp (fun ha => by rw [hl.asserted ha] at hp; cases hp) (hl.own.writeTargets hw rfl rfl)
          (hl.waits.congr rfl rfl rfl) (hl.rails.congr rfl rfl rfl rfl rfl rfl fun _ => rfl)
      · exact hl.congr rfl rfl rfl rfl
    | textHeld t => exact .next (by rw [hd]; exact .refl s)
    | hiliteHeld h => exact .next (by rw [hd]; exact .refl s)

/-! ### The Table Store (02) -/

/-- A record of the Table Store that takes effect moves neither slots nor rails. -/
theorem keeps_withTable {k : RecordKind} {f : Bytes → State} (h : ∀ body, (f body).kept = s.kept) :
    AnswersKept s (.next (s.withTable k f)) :=
  .serves (withTable_holds (serves_unmoved s) fun body => .same (h body))

theorem execGlyphWriteEnd_keeps : AnswersKept s (execGlyphWriteEnd s) := by
  refine .next ?_
  split
  · exact .refl s
  · rename_i g hg
    refine KeepsInRun.keeps (Serves.keepsInRun ?_) fun hl => hl.run_of_glyphWrite (by simp [hg])
    dsimp only
    split
    · exact .same (startText_kept ..)
    · exact .same rfl
    · exact .same rfl

/-! ### Waveforms and temperature (05, 06) -/

theorem execWavebegin_keeps : AnswersKept s (execWavebegin s) :=
  .serves (withHead_holds (serves_unmoved s) fun _ => by
    split
    · exact .same rfl
    · exact ite_holds (.same rfl) (.same (setBank_kept s.pop ..)))

theorem execWaveput_keeps : AnswersKept s (execWaveput s) :=
  .serves (withHead_holds (serves_unmoved s) fun _ => by
    split
    · exact .same rfl
    · split
      · exact .same rfl
      · exact .same (setBank_kept s.pop ..))

theorem execWavecommit_keeps : AnswersKept s (execWavecommit s) :=
  .serves (withHead_holds (serves_unmoved s) fun _ => by
    split
    · exact .same rfl
    · split
      · exact .same rfl
      · exact ite_holds (.same rfl) (.same (commitBank_kept s.pop _)))

theorem keeps_withTempset {source : Source} {f : Int → State} (h : ∀ z, (f z).kept = s.kept) :
    AnswersKept s (.next (s.withTempset source f)) :=
  .serves (withTempset_holds (source := source) (f := f) (serves_unmoved s) fun z => .same (h z))

theorem execTempsetFixed_keeps : AnswersKept s (execTempsetFixed s) :=
  keeps_withTempset s fun _ => (recomputeBand_kept _).trans (tempset_kept s.pop .fixed)

theorem execTempsetSensor_keeps : AnswersKept s (execTempsetSensor s) :=
  keeps_withTempset s fun _ => tempset_kept s.pop .sensor

theorem execSampleIntervalExpiry_keeps : AnswersKept s (execSampleIntervalExpiry s) := by
  refine .next ?_
  split
  · rename_i h
    obtain ⟨-, -, -, hp⟩ := h
    refine KeepsInRun.keeps (Serves.keepsInRun (.same ?_)) fun _ => hp
    rfl
  · exact .refl s

/-- The end of a sensor read, which runs only in RUN (R94). -/
theorem keeps_sensor {t : State} (h : t.kept = s.kept) :
    AnswersKept s (.next (if s.temp.readInFlight.isSome then t else s)) := by
  refine .next ?_
  split
  · rename_i hr
    exact (Serves.same h).keepsInRun.keeps fun hl => hl.run_of_read hr
  · exact .refl s

/-! ### The Event and Reply Unit (09) -/

theorem execEvmask_keeps : AnswersKept s (execEvmask s) :=
  .serves (withHead_holds (serves_unmoved s) fun _ => by split <;> exact .same rfl)

theorem execEvclear_keeps : AnswersKept s (execEvclear s) :=
  .serves (withHead_holds (serves_unmoved s) fun _ => by
    split
    · exact .same rfl
    · exact .same (freeMisses_kept s))

/-- A READ holds the Dispatcher, on which no pass waits. -/
theorem serves_holds {t : State} (scene : t.scene = s.scene) (due : t.sched.passDue = s.sched.passDue)
    (hold : (∃ r, t.intake.hold = .readPixels r) ∨ ∃ p, t.intake.hold = .readGlyph p) : Serves s t := by
  refine ⟨scene, due, .inr ?_⟩
  rcases hold with ⟨r, e⟩ | ⟨p, e⟩ <;> simp [Hold.apart, e]

theorem execReadGlyph_keeps : AnswersKept s (execReadGlyph s) :=
  .serves (withRead_holds (serves_unmoved s) fun _ => ite_holds (.same rfl) (ite_holds (.same rfl)
    (ifRoom_holds (serves_unmoved s) (ite_holds (.same rfl) (serves_holds s rfl rfl (.inr ⟨_, rfl⟩))))))

/-- A Dispatcher that is free waits for no pass. -/
theorem serves_frees {t : State} (scene : t.scene = s.scene) (due : t.sched.passDue = s.sched.passDue)
    (hold : t.intake.hold = .free) : Serves s t :=
  ⟨scene, due, .inr (by simp [Hold.apart, hold])⟩

theorem execReadGlyphEnd_keeps : AnswersKept s (execReadGlyphEnd s) := by
  refine .next ?_
  split
  · rename_i p hh
    refine KeepsInRun.keeps (Serves.keepsInRun ?_) fun hl => hl.run_of_hold (by simp [hh])
    exact serves_frees s rfl rfl rfl
  · exact .refl s

theorem execReadKern_keeps : AnswersKept s (execReadKern s) :=
  .serves (withRead_holds (serves_unmoved s) fun _ => ite_holds (.same rfl) (ite_holds (.same rfl)
    (ifRoom_holds (serves_unmoved s) (.same rfl))))

theorem execReadStyle_keeps : AnswersKept s (execReadStyle s) :=
  .serves (withRead_holds (serves_unmoved s) fun _ => ite_holds (.same rfl)
    (ifRoom_holds (serves_unmoved s) (.same rfl)))

theorem execReadWave_keeps : AnswersKept s (execReadWave s) :=
  .serves (withRead_holds (serves_unmoved s) fun _ => ite_holds (.same rfl)
    (ifRoom_holds (serves_unmoved s) (.same rfl)))

theorem execReadResidue_keeps : AnswersKept s (execReadResidue s) :=
  .serves (withRead_holds (serves_unmoved s) fun _ => ifRoom_holds (serves_unmoved s) (.same rfl))

theorem execReadPixels_keeps : AnswersKept s (execReadPixels s) :=
  .serves (withRead_holds (serves_unmoved s) fun _ => ite_holds (.same rfl) (by
    split
    · exact .same rfl
    · exact ifRoom_holds (serves_unmoved s) (serves_holds s rfl rfl (.inl ⟨_, rfl⟩))))

/-! ### The Link Port (09) -/

/-- What header decode lets in outside RUN is neither an in-order record nor an express one (R154). -/
theorem disposition_apart {kind : Byte} {n : Nat} {d : Disposition} (h : s.disposition kind n = some d)
    (hp : s.power ≠ .run) : d ≠ .reserved ∧ d ≠ .express := by
  unfold State.disposition at h
  cases hpow : s.power with
  | run => exact absurd hpow hp
  | starting | sleep | deep | waking =>
    simp only [hpow] at h
    split at h <;> cases h <;> simp

end Commands

end Sys2Proof.Machine
end

section
/-! SUPPORT. The bus and the power states keep owners, slots, rails and passes (R147 to R156, R162, R163, R169, R170):
outside RUN nothing is in progress, so a command there finds every slot FREE and every pixel without an owner. -/

namespace Sys2Proof.Machine

/-! ### Stations with nothing in progress -/

/-- Slots, passes and rails, and what the Dispatcher is held on. -/
def State.posed (s : State) : Sched × Hold × Option Nat × Rails := (s.sched, s.intake.hold, s.scan, s.rails)

section Still

variable {s t : State}

/-- With every slot FREE the pixels may be cleared and the power state may change. -/
theorem Lawful.still (h : Lawful s) (free : ∀ i, s.slot i = none)
    (sched : t.sched = s.sched) (scan : t.scan = s.scan) (rails : t.rails = s.rails)
    (pixels : t.store.pixels = s.store.pixels ∨ t.store.pixels = [])
    (quiet : t.power ≠ .run → Quiet t) (asserted : t.link.resetAsserted = true → t.power = .starting) :
    Lawful t := by
  have slot : ∀ i, t.slot i = none := fun i => (State.slot_of_sched sched i).trans (free i)
  refine ⟨slotsOwn_of_unowned (fun k => ?_) slot, h.waits.congr (by rw [sched]) (by rw [sched]) (by rw [sched]),
    h.rails.congr (by rw [sched]) scan (by rw [rails]) (by rw [rails]) (by rw [rails]) (by rw [rails])
      fun _ => by rw [sched], quiet, asserted⟩
  rcases pixels with e | e
  · have pixel : t.pixel k = s.pixel k := by unfold State.pixel; rw [e]
    rw [pixel, Option.eq_none_iff_forall_ne_some]
    intro i hk
    have := h.own.owners k i hk
    rw [free i] at this; cases this
  · unfold State.pixel; rw [e]; rfl

theorem PassLegal.posed (h : PassLegal s) (posed : t.posed = s.posed) : PassLegal t := by
  simp only [State.posed, Prod.mk.injEq] at posed
  obtain ⟨sched, hold, -, rails⟩ := posed
  exact h.congr (by rw [sched]) (by rw [sched]) hold (by rw [rails])

theorem Quiet.still (h : Quiet s) (posed : t.posed = s.posed) (business : t.business = s.business)
    (rx : ∀ rx, t.link.rx = some rx → s.link.rx = some rx) : Quiet t := by
  simp only [State.business, Prod.mk.injEq] at business
  simp only [State.posed, Prod.mk.injEq] at posed
  obtain ⟨intake, draw, glyph, flight, timer⟩ := business
  obtain ⟨sched, -, scan, rails⟩ := posed
  refine ⟨intake.trans h.intake, fun i => (State.slot_of_sched sched i).trans (h.slots i), ?_, ?_, ?_, ?_,
    fun r hr => h.link r (rx r hr)⟩
  · rw [sched]; exact h.requests
  · rw [draw, glyph]; exact h.drawing
  · rw [rails, scan]; exact h.rails
  · rw [flight, timer]; exact h.sensor

/-- A station that is not in RUN goes on quietly, or enters RUN. -/
theorem keeps_still (outside : Lawful s → s.power ≠ .run) (posed : t.posed = s.posed)
    (pixels : t.store.pixels = s.store.pixels ∨ t.store.pixels = [])
    (quiet : t.power ≠ .run → t.business = s.business ∧ ∀ rx, t.link.rx = some rx → s.link.rx = some rx)
    (asserted : s.power ≠ .run → (s.link.resetAsserted = true → s.power = .starting) →
      t.link.resetAsserted = true → t.power = .starting) : Keeps s t := by
  refine ⟨fun _ h => ?_, fun h => h.posed posed⟩
  have hp := outside h
  have hq := h.quiet hp
  have fields := posed
  simp only [State.posed, Prod.mk.injEq] at fields
  obtain ⟨sched, -, scan, rails⟩ := fields
  refine h.still hq.slots sched scan rails pixels (fun ht => ?_) (asserted hp h.asserted)
  obtain ⟨business, rx⟩ := quiet ht
  exact hq.still posed business rx

end Still

/-! ### The Link Port (09) -/

section Link

variable (s : State)

theorem keeps_freeRebuild : Keeps s s.freeRebuild := by
  unfold State.freeRebuild
  split
  · rename_i hp
    have outside : s.power ≠ .run := by rw [hp]; simp
    refine ite_holds ?_ ⟨fun _ h => ?_, fun h => h.posed rfl⟩
    · exact Idle.keeps (.same rfl rfl rfl rfl)
    · obtain ⟨hdraw, hglyph⟩ := (h.quiet outside).drawing
      have business : s.useFree.rebuildAfterDeep.business = s.business := by
        simp only [State.business, hdraw, hglyph]; rfl
      exact h.still (h.quiet outside).slots rfl rfl rfl (.inr rfl)
        (fun _ => (h.quiet outside).still rfl business fun _ e => e) h.asserted
  · exact .refl s

/-- A TEXT that gets through its lookups runs in RUN. -/
theorem keeps_freeMisses : Keeps s s.freeMisses := by
  by_cases h : s.missesLeft = []
  · rw [freeMisses_of_none h]; exact .refl s
  · refine (Serves.same (freeMisses_kept s)).keepsInRun.keeps fun hl => hl.run_of_draw fun hd => h ?_
    simp [State.missesLeft, hd]

theorem freeMisses_pixels : s.freeMisses.store.pixels = s.store.pixels := by rw [freeMisses_frame]

theorem keeps_advanceShown : Keeps s s.advanceShown := by
  refine ⟨fun hw h => ?_, fun h => (keeps_freeRebuild _).pass ((keeps_freeMisses s).pass h)⟩
  exact (keeps_freeRebuild _).order (freeMisses_pixels s ▸ hw) ((keeps_freeMisses s).order hw h)

theorem keeps_decodeHeader (target kind : Byte) (n : Nat) : Keeps s (s.decodeHeader target kind n) := by
  have miso : Idle s (s.setMiso []) := .same rfl rfl rfl rfl
  unfold State.decodeHeader
  dsimp only
  refine ite_holds miso.keeps (ite_holds (miso.trans (idle_setFlagIf ..)).keeps ?_)
  have shown : Keeps s (if kind = RecordKind.fetchlive.code then (s.setMiso []).advanceShown else s.setMiso []) := by
    refine ite_holds ⟨fun hw h => ?_, fun h => ?_⟩ miso.keeps
    · exact (keeps_advanceShown (s.setMiso [])).order hw (miso.lawful h)
    · exact (keeps_advanceShown (s.setMiso [])).pass (miso.passLegal h)
  generalize (if kind = RecordKind.fetchlive.code then (s.setMiso []).advanceShown else s.setMiso []) = u at shown ⊢
  split
  · exact shown.andThen (.same rfl rfl rfl rfl)
  · rename_i d hd
    refine shown.andThen ⟨rfl, rfl, rfl, fun rx hrx => .inr fun hp => ?_⟩
    cases hrx
    exact disposition_apart u hd hp

theorem execHeaderDecode_keeps (counted : Bool) (target kind : Byte) (length : BitVec 16) :
    AnswersKept s (execHeaderDecode counted target kind length s) :=
  .next (ite_holds (.refl s) (keeps_decodeHeader s target kind length.toNat))

theorem execRecordReceived_keeps (body : Bytes) : AnswersKept s (execRecordReceived body s) :=
  .next (keeps_csRise fun rx hrx => by
    split
    · rename_i hd
      refine KeepsInRun.keeps (Serves.keepsInRun (.same ?_)) fun hl => hl.run_of_rx hrx (.inl hd)
      rfl
    · exact ((idle_setRx_none s).trans (idle_endUntaken ..)).keeps)

theorem execFramingError_keeps (cut : FramingCut) : AnswersKept s (execFramingError cut s) := by
  have miso : Idle s (s.setMiso []) := .same rfl rfl rfl rfl
  refine .next ?_
  split
  · exact ite_holds (.refl s) (ite_holds (miso.trans (idle_setFlagIf ..)).keeps miso.keeps)
  · split
    · exact .refl s
    · rename_i clocked _ rx _
      have ended : Idle s ((s.setRx none).setMiso (rx.cutMiso clocked)) := .received rfl rfl rfl rfl
      exact (ended.trans (idle_setFlagIf ..)).keeps

theorem execUnknownKind_keeps : AnswersKept s (execUnknownKind s) := by
  refine .next ?_
  split
  · rename_i h
    refine KeepsInRun.keeps (Serves.keepsInRun ?_) fun _ => h.1
    split
    · exact .same rfl
    · exact ite_holds (.same rfl) (.same rfl)
  · exact .refl s

theorem execFetchlive_keeps : AnswersKept s (execFetchlive s) := by
  refine .next ?_
  split
  · exact .refl s
  · split
    · exact Idle.keeps (.received rfl rfl rfl rfl)
    · exact .refl s

theorem execFetchqueue_keeps : AnswersKept s (execFetchqueue s) := by
  refine .next ?_
  split
  · exact .refl s
  · split
    · exact Idle.keeps (.received rfl rfl rfl rfl)
    · exact ite_holds (Idle.keeps (.received rfl rfl rfl rfl)) (Idle.keeps (.received rfl rfl rfl rfl))
    · exact ite_holds ((idle_setRx_none s).trans (idle_endUntaken ..)).keeps (.refl s)

end Link

/-! ### Resets and power states (09) -/

section Power

variable (s : State)

theorem execPinReset_keeps : AnswersKept s (execPinReset s) := by
  have owner : ∀ k, (pixelAt [] k).owner = none := fun _ => rfl
  have noReply : ∀ rx, (none : Option Rx) = some rx → rx.disp ≠ .reserved ∧ rx.disp ≠ .express := by simp
  refine .next ⟨fun _ _ => .ofQuiet ⟨rfl, reset_slot, ⟨rfl, rfl⟩, ⟨rfl, rfl⟩, ⟨.inl rfl, rfl⟩, ⟨rfl, rfl⟩, noReply⟩
    (railsLegal_off rfl rfl rfl rfl rfl reset_slot) owner fun _ => rfl, fun _ => ⟨?_, ?_, ?_⟩⟩ <;> intro h <;> cases h

theorem execResetNRelease_keeps (a0 a1 : Bool) : AnswersKept s (execResetNRelease a0 a1 s) := by
  refine .next ?_
  split
  · rename_i ha
    refine ⟨fun _ h => ?_, fun h => h.apart rfl (by simp [Hold.apart]) rfl⟩
    have hp : s.power ≠ .run := by rw [h.asserted ha]; simp
    have hq := h.quiet hp
    refine h.still hq.slots rfl rfl rfl (.inl rfl) (fun _ => ?_) fun _ => rfl
    exact ⟨rfl, hq.slots, hq.requests, hq.drawing, hq.rails, hq.sensor, by simp⟩
  · exact .refl s

theorem execStartingEnd_keeps : AnswersKept s (execStartingEnd s) := by
  refine .next ?_
  split
  · rename_i h
    obtain ⟨hp, ha⟩ := h
    refine keeps_still (fun _ => by rw [hp]; simp) ?_ (.inr ?_) (fun ht => absurd ?_ ht) fun _ _ ht => ?_
    · rw [startReadIfSensor_frame]; rfl
    · rw [startReadIfSensor_frame]; rfl
    · rw [startReadIfSensor_frame]
    · rw [startReadIfSensor_frame] at ht
      exact absurd (ha.symm.trans ht) (by simp)
  · exact .refl s

theorem execWakingEnd_keeps : AnswersKept s (execWakingEnd s) := by
  refine .next ?_
  split
  · rename_i fromDeep hp
    have outside : s.power ≠ .run := by rw [hp]; simp
    dsimp only
    generalize hu : (if fromDeep = true then s.rebuildAfterDeep else s) = u
    have posed : u.posed = s.posed := hu ▸ ite_holds (P := fun u : State => u.posed = s.posed) rfl rfl
    have pixels : u.store.pixels = s.store.pixels ∨ u.store.pixels = [] :=
      hu ▸ ite_holds (P := fun u : State => u.store.pixels = s.store.pixels ∨ u.store.pixels = []) (.inr rfl) (.inl rfl)
    have link : u.link = s.link := hu ▸ ite_holds (P := fun u : State => u.link = s.link) rfl rfl
    refine keeps_still (fun _ => outside) ?_ ?_ (fun ht => absurd ?_ ht) fun _ h ht => ?_
    · rw [startReadIfSensor_frame]; exact posed
    · rw [startReadIfSensor_frame]; exact pixels
    · rw [startReadIfSensor_frame]; rfl
    · rw [startReadIfSensor_frame] at ht
      have := h (link ▸ ht)
      rw [hp] at this; cases this
  · exact .refl s

theorem execWake_keeps (body : Bytes) : AnswersKept s (execWake body s) :=
  .next (keeps_csRise fun rx _ => by
    have wakes : ∀ p, s.power = .sleep ∨ s.power = .deep → p ≠ .run →
        Keeps s { s.setRx none with power := p } := fun p hp hrun => by
      have outside : s.power ≠ .run := by rcases hp with hp | hp <;> simp [hp]
      have never : ¬ s.power = .starting := by rcases hp with hp | hp <;> simp [hp]
      exact keeps_still (fun _ => outside) rfl (.inl rfl) (fun _ => ⟨rfl, fun _ h => by cases h⟩)
        fun _ h ht => absurd (h ht) never
    split
    · refine ite_holds ?_ (idle_setRx_none s).keeps
      split
      · rename_i hp; exact wakes _ (.inl hp) (by simp)
      · rename_i hp; exact wakes _ (.inr hp) (by simp)
      · exact (idle_setRx_none s).keeps
    · exact ((idle_setRx_none s).trans (idle_endUntaken ..)).keeps)

/-- With every slot FREE and no request pending no pass runs (R113, R118). -/
theorem PassWaits.noPass {s : State} (h : PassWaits s) (free : ∀ i, s.slot i = none)
    (requests : s.sched.requests = []) : s.sched.pass = none := by
  by_contra hp
  cases hl : s.latching with
  | false =>
    have := h.reading (Option.isSome_iff_ne_none.mpr hp) hl
    simp [State.examined, requests] at this
  | true =>
    unfold State.latching at hl
    split at hl
    · rename_i i todo hpass
      obtain ⟨sl, hs, -⟩ := h.walking i todo hpass
      rw [free i] at hs; cases hs
    · cases hl

/-- A SLEEP that is accepted finds nothing in progress (R148). -/
theorem keeps_withSleep {s : State} (option : Nat) {t : State}
    (asleep : s.intake.hold = .free → s.comp.draw = none → s.tableBusy = false → s.sleepBusy = false →
      KeepsInRun s t) : Keeps s (s.withSleep option t) := by
  have stays : KeepsInRun s s := (Keeps.refl s).inRun
  have refused : ∀ r, KeepsInRun s (s.refuseHead .sleep r) := fun _ => Serves.keepsInRun (.same rfl)
  unfold State.withSleep
  refine keepsInRun_withHead ?_
  rcases withHead_cases s .sleep _ with ⟨-, e⟩ | ⟨body, rest, ⟨-, hold, -⟩, e⟩ <;> rw [e]
  · exact stays
  · split
    · exact stays
    · rename_i hbusy
      obtain ⟨hdraw, htable⟩ := Bool.or_eq_false_iff.mp (Bool.eq_false_iff.mpr hbusy)
      refine ite_holds (refused _) (ite_holds (refused _) (ite_holds stays ?_))
      split
      · exact refused _
      · rename_i hs
        exact asleep hold (by simpa using hdraw) htable (Bool.eq_false_iff.mpr hs)

/-- A station with nothing in progress falls asleep quietly (R148). -/
theorem keepsInRun_fallAsleep {s t : State} (hold : s.intake.hold = .free) (hdraw : s.comp.draw = none)
    (htable : s.tableBusy = false) (hbusy : s.sleepBusy = false) (posed : t.posed = s.posed)
    (pixels : t.store.pixels = s.store.pixels ∨ t.store.pixels = []) (queue : t.intake.queue = [])
    (draw : t.comp.draw = s.comp.draw) (glyph : t.tables.glyphWrite = s.tables.glyphWrite)
    (sensor : t.temp.readInFlight = none ∧ t.temp.timer = none)
    (link : t.link = { s.link with rx := s.link.rx.map Rx.silence }) : KeepsInRun s t := by
  refine ⟨fun _ h hp => ?_, fun h => h.posed posed⟩
  obtain ⟨hslots, hrest⟩ := not_or.mp (mt sleepBusy_iff.mpr (Bool.eq_false_iff.mp hbusy))
  obtain ⟨hrequests, hrails⟩ := not_or.mp hrest
  have free : ∀ i, s.slot i = none := by simpa using hslots
  have requests : s.sched.requests = [] := by simpa using hrequests
  have state : s.rails.state = .off ∨ s.rails.state = .fault := by tauto
  have noPass := h.waits.noPass free requests
  have scan : s.scan = none := by
    by_contra hs
    obtain ⟨-, i, sl, hsl, -⟩ := h.rails.scanning (Option.isSome_iff_ne_none.mpr hs)
    rw [free i] at hsl; cases hsl
  have noWrite : s.tables.glyphWrite = none := by
    obtain ⟨htable, -⟩ := Bool.or_eq_false_iff.mp htable
    obtain ⟨htable, -⟩ := Bool.or_eq_false_iff.mp htable
    simpa using htable
  have fields := posed
  simp only [State.posed, Prod.mk.injEq] at fields
  obtain ⟨hsched, hhold, hscan, hr⟩ := fields
  refine h.still free hsched hscan hr pixels (fun _ => ?_) fun ha => ?_
  · refine ⟨?_, fun i => (State.slot_of_sched hsched i).trans (free i), ?_, ?_, ?_, sensor, fun rx hrx => ?_⟩
    · have : t.intake = ⟨t.intake.queue, t.intake.hold⟩ := rfl
      rw [this, queue, hhold, hold]
    · rw [hsched]; exact ⟨requests, noPass⟩
    · rw [draw, glyph]; exact ⟨hdraw, noWrite⟩
    · rw [hr, hscan]; exact ⟨state, scan⟩
    · rw [link] at hrx
      obtain ⟨r, -, rfl⟩ := Option.map_eq_some_iff.mp hrx
      rw [silence_eq]
      split
      · simp
      · rename_i hd
        exact not_or.mp hd
  · rw [link] at ha
    rw [h.asserted ha] at hp; cases hp

theorem execSleep_keeps : AnswersKept s (execSleep s) :=
  .next (keeps_withSleep 0 fun hold hdraw htable hbusy => by
    refine keepsInRun_fallAsleep hold hdraw htable hbusy ?_ (.inl ?_) ?_ ?_ ?_ ?_ ?_ <;> rw [fallAsleep_eq]
    · rfl
    · exact ⟨rfl, rfl⟩)

theorem execSleepDeep_keeps : AnswersKept s (execSleepDeep s) :=
  .next (keeps_withSleep 1 fun hold hdraw htable hbusy => by
    refine keepsInRun_fallAsleep hold hdraw htable hbusy ?_ (.inr rfl) ?_ ?_ ?_ ?_ ?_ <;> rw [fallAsleep_eq]
    · rfl
    · rfl
    · rfl
    · rfl
    · exact ⟨rfl, rfl⟩
    · rfl)

end Power

end Sys2Proof.Machine
end

section
/-! SUPPORT. Admission passes keep owners, slots, rails and themselves (R110, R112 to R115): a pass goes on from a state
in which no slot is LATCHING (`Between`) and a pass that is due can begin (`PassReady`). -/

namespace Sys2Proof.Machine

/-! ### A pass goes on, or ends -/

/-- What a pass that goes on leaves: pixels, slots, the scanner, the rails and the power state. -/
def State.ground (s : State) : List (Nat × PixelRec) × Vector (Option Slot) 16 × Option Nat × Rails × Power × Bool :=
  (s.store.pixels, s.sched.slots, s.scan, s.rails, s.power, s.link.resetAsserted)

/-- No latch pass runs, and a pass that runs examines a request (R113). -/
def PassReads (s : State) : Prop := s.sched.pass = none ∨ (s.latching = false ∧ s.examined.isSome = true)

/-- A triggered pass can begin, and one that an UPDATE waits for is triggered (R110, R112). -/
structure PassReady (s : State) : Prop where
  due : s.sched.passDue = true → s.rails.state ≠ .fault ∧ s.intake.hold ≠ .reinit
  waiting : s.intake.hold = .update false → s.sched.passDue = true

/-- In RUN, rails not in FAULT, between two latch passes: no slot is LATCHING. -/
structure Between (s : State) : Prop where
  power : s.power = .run
  released : s.link.resetAsserted ≠ true
  own : SlotsOwn s
  rails : RailsFollow s
  sound : s.rails.state ≠ .fault
  settled : ∀ i sl, s.slot i = some sl → sl.phase ≠ .latching

section Passes

variable {s t : State}

theorem PassLegal.ready (h : PassLegal s) : PassReady s := ⟨h.due, h.waiting⟩

theorem Lawful.released (h : Lawful s) (hp : s.power = .run) : s.link.resetAsserted ≠ true := fun ha => by
  rw [h.asserted ha] at hp; cases hp

theorem Lawful.between (h : Lawful s) (hp : s.power = .run) (sound : s.rails.state ≠ .fault)
    (reading : ∀ i todo, s.sched.pass ≠ some (.latching i todo)) : Between s := by
  refine ⟨hp, h.released hp, h.own, (railsLegal_iff.mp h.rails).1, sound, fun i sl hs hl => ?_⟩
  obtain ⟨todo, hpass⟩ := h.waits.latching i sl hs hl
  exact reading i todo hpass

/-- While a pass runs the rails are not in FAULT (R112). -/
theorem RailsLegal.sound (h : RailsLegal s) {p : Pass} (hp : s.sched.pass = some p) : s.rails.state ≠ .fault :=
  fun hf => by
    obtain ⟨none, -⟩ := h.fault hf
    rw [hp] at none; cases none

theorem Between.lawful (h : Between s) (e : t.ground = s.ground) (reads : PassReads t) : Lawful t := by
  simp only [State.ground, Prod.mk.injEq] at e
  obtain ⟨pixels, slots, scan, rails, power, asserted⟩ := e
  have slot := slot_of_slots slots
  have waits : PassWaits t := by
    refine ⟨fun i sl hs hl => absurd hl (h.settled i sl (slot i ▸ hs)), fun i todo hp => ?_, fun hp hl => ?_⟩
    · rcases reads with hn | ⟨hl, -⟩
      · rw [hn] at hp; cases hp
      · simp [State.latching, hp] at hl
    · rcases reads with hn | ⟨-, he⟩
      · rw [hn] at hp; cases hp
      · exact he
  exact .inRun (power.trans h.power) (asserted ▸ h.released) (h.own.congr pixels slots) waits
    (railsLegal_iff.mpr ⟨h.rails.congr rails scan (anySlot_of_slots slots _) (anySlot_of_slots slots _),
      fun hf => absurd (rails ▸ hf) h.sound⟩)

theorem endPass_ground (s : State) : s.endPass.ground = s.ground := by rw [endPass_frame]; rfl

theorem continuePass_ground (s : State) : s.continuePass.ground = s.ground := by rw [continuePass_frame]; rfl

theorem endPass_reads (s : State) : PassReads s.endPass := .inl (by rw [endPass_frame])

/-- A pass that begins to read a request examines it. -/
theorem setPass_reads {p : Pass} (hp : ∀ i todo, p ≠ .latching i todo) (he : s.examined.isSome = true) :
    PassReads (s.setPass (some p)) := by
  refine .inr ⟨?_, he⟩
  unfold State.latching
  split
  · rename_i i todo e; exact absurd (Option.some.inj e) (hp i todo)
  · rfl

theorem beginReads_reads {r : Request} (he : s.examined.isSome = true) : PassReads (s.beginReads r) := by
  rw [beginReads_eq]
  refine setPass_reads (fun i todo => ?_) he
  split <;> simp

theorem examine_reads (rest : List Request) : ∀ (s : State) (ahead : List Request),
    PassReads (s.examine ahead rest) := by
  induction rest with
  | nil => exact fun s ahead => endPass_reads _
  | cons r behind ih =>
    intro s ahead
    rw [State.examine]
    split
    · exact ih _ _
    · rename_i hdue
      refine ite_holds (ih _ _) (ite_holds (endPass_reads _) (ite_holds (ih _ _) (beginReads_reads ?_)))
      have due : r.due = true := by simpa using hdue
      simp [State.examined, State.setRequests, due]

theorem Between.continues (h : Between s) (e : t.ground = s.ground) : Lawful t.continuePass :=
  h.lawful ((continuePass_ground t).trans e) (examine_reads _ _ _)

theorem Between.ends (h : Between s) (e : t.ground = s.ground) : Lawful t.endPass :=
  h.lawful ((endPass_ground t).trans e) (endPass_reads t)

/-! ### A pass that is due -/

theorem PassReady.congr (h : PassReady s) (due : t.sched.passDue = s.sched.passDue)
    (hold : t.intake.hold = s.intake.hold) (state : t.rails.state = .fault → s.rails.state = .fault) :
    PassReady t := by
  refine ⟨?_, ?_⟩
  · rw [due, hold]; exact fun hd => ⟨mt state (h.due hd).1, (h.due hd).2⟩
  · rw [due, hold]; exact h.waiting

/-- A trigger starts no pass while passes are suspended. -/
theorem PassReady.trigger (h : PassReady s) : PassReady s.trigger := by
  refine ⟨fun hd => ?_, fun hh => ?_⟩
  · rcases (Bool.or_eq_true ..).mp hd with hd | hd
    · exact h.due hd
    · have hsusp : s.suspended ≠ true := by simpa using hd
      rw [Ne, suspended_eq_true] at hsusp
      exact ⟨fun e => hsusp (.inl e), fun e => hsusp (.inr (.inl e))⟩
  · exact (Bool.or_eq_true ..).mpr (.inl (h.waiting hh))

/-- A pass that is running is one an UPDATE can wait for. -/
theorem PassReady.runs (h : PassReady s) (hp : s.sched.pass.isSome = true) : PassLegal s :=
  ⟨h.due, h.waiting, fun _ => hp⟩

theorem Hold.afterPass_ne_begun (h : Hold) : h.afterPass ≠ .update true := by
  unfold Hold.afterPass
  split
  · simp
  · assumption

theorem Hold.afterPass_waiting {h : Hold} : h.afterPass = .update false ↔ h = .update false := by
  unfold Hold.afterPass
  split <;> simp

theorem Hold.afterPass_reinit {h : Hold} : h.afterPass = .reinit ↔ h = .reinit := by
  unfold Hold.afterPass
  split <;> simp

/-- A pass that ends frees the UPDATE that waited for it, and keeps the pass that one still waits for: that UPDATE
holds the Dispatcher, so no PANELSET suspends passes. -/
theorem PassReady.endPass (h : PassReady s) : PassLegal s.endPass := by
  rw [endPass_eq]
  refine ⟨fun hd => ?_, fun hh => ?_, fun hh => absurd hh s.intake.hold.afterPass_ne_begun⟩
  · obtain ⟨hf, hr⟩ := h.due ((Bool.and_eq_true ..).mp hd).1
    exact ⟨hf, mt Hold.afterPass_reinit.mp hr⟩
  · have hold := Hold.afterPass_waiting.mp hh
    have hdue := h.waiting hold
    have going : s.suspended ≠ true := by
      rw [Ne, suspended_eq_true]
      rintro (e | e | ⟨body, rest, p, hd, -⟩)
      · exact (h.due hdue).1 e
      · exact (h.due hdue).2 e
      · rw [hd.2.1] at hold; cases hold
    simp [hdue, going]

theorem examine_passLegal (rest : List Request) : ∀ {s : State} (ahead : List Request), PassReady s →
    PassLegal (s.examine ahead rest) := by
  induction rest with
  | nil => exact fun ahead h => (h.congr (t := State.setRequests _ ahead) rfl rfl id).endPass
  | cons r behind ih =>
    intro s ahead h
    rw [State.examine]
    have told : PassReady (s.notify r.notify (r.notice .empty none)) := by
      rw [notify_frame]; exact h.congr rfl rfl id
    have queued : PassReady (s.setRequests (ahead ++ r :: behind)) := h.congr rfl rfl id
    refine ite_holds (ih _ h) (ite_holds (ih _ told) (ite_holds queued.endPass (ite_holds (ih _ h) ?_)))
    rw [beginReads_eq]
    exact PassReady.runs (queued.congr rfl rfl id) rfl

theorem PassReady.continuePass (h : PassReady s) : PassLegal s.continuePass := examine_passLegal _ _ h

end Passes

/-! ### Admission (R99, R103, R115) -/

section Admission

variable {s t : State}

theorem anySlot_congr {p : Slot → Bool} (h : ∀ i, (t.slot i).any p = (s.slot i).any p) : t.anySlot p = s.anySlot p := by
  unfold State.anySlot
  exact congrArg slotIds.any (funext h)

theorem slot_of_freeSlot? {i : Fin 16} (h : s.freeSlot? = some i) : s.slot i = none := by
  have := List.find?_some h
  simpa using this

/-- A FREE slot becomes LATCHING with no pixel. -/
theorem SlotsOwn.enters (h : SlotsOwn s) (hw : Store.wf PixelRec.initial s.store.pixels) {i : Fin 16} {sl : Slot}
    (free : s.slot i = none) (hp : sl.phase = .latching) (htaken : sl.taken = 0)
    (pixels : t.store.pixels = s.store.pixels) (own : t.slot i = some sl) (other : ∀ j, j ≠ i → t.slot j = s.slot j) :
    SlotsOwn t := by
  have pixel : ∀ k, t.pixel k = s.pixel k := fun k => by unfold State.pixel; rw [pixels]
  have owned : ∀ j, t.owned j = s.owned j := fun j => by unfold State.owned; rw [pixels]
  have unowned : ∀ k, (s.pixel k).owner ≠ some i := fun k hk => by
    have := h.owners k i hk
    rw [free] at this; cases this
  refine ⟨fun k j hk => ?_, fun j sl' hs => ?_, fun j sl' hs hd => ?_, fun k j hk hn sl' hs => ?_⟩
  · rw [pixel] at hk
    rw [other j fun e => unowned k (e ▸ hk)]; exact h.owners k j hk
  · rw [owned]
    by_cases e : j = i
    · rw [e, own] at hs
      rw [e, ← Option.some.inj hs, htaken]; exact owned_eq_zero hw.1 unowned
    · exact h.taken j sl' (other j e ▸ hs)
  · by_cases e : j = i
    · rw [e, own] at hs
      exact absurd (Option.some.inj hs ▸ hp) hd
    · exact h.driving j sl' (other j e ▸ hs) hd
  · rw [pixel] at hk hn
    exact h.unknown k j hk hn sl' (other j (fun e => unowned k (e ▸ hk)) ▸ hs)

theorem Between.enters (h : Between s) (hw : Store.wf PixelRec.initial s.store.pixels) {i : Fin 16}
    (free : s.slot i = none) (r : Request) (m : Mode) (promoted : Bool) : Lawful (s.enterSlot r i m promoted) := by
  obtain ⟨sl, hp, htaken, e⟩ : ∃ sl : Slot, sl.phase = .latching ∧ sl.taken = 0 ∧ s.enterSlot r i m promoted =
      ((s.setRequests (dropFirstDue s.sched.requests)).setSlot i (some sl)).setPass
        (some (.latching i (s.effective r).keys)) := ⟨_, rfl, rfl, rfl⟩
  rw [e]
  generalize ht : ((s.setRequests (dropFirstDue s.sched.requests)).setSlot i (some sl)).setPass
    (some (.latching i (s.effective r).keys)) = t
  have own : t.slot i = some sl := ht ▸ State.setSlot_slot_same ..
  have other : ∀ j, j ≠ i → t.slot j = s.slot j := fun j hj => ht ▸ State.setSlot_slot_other (s.setRequests _) i j _ hj
  have pass : t.sched.pass = some (.latching i (s.effective r).keys) := ht ▸ rfl
  have drives : ∀ p : Slot → Bool, p sl = false → t.anySlot p = s.anySlot p := fun p hsl => anySlot_congr fun j => by
    by_cases e : j = i
    · rw [e, own, free]; exact hsl
    · rw [other j e]
  have rails : t.rails = s.rails := ht ▸ rfl
  refine .inRun (ht ▸ h.power) (ht ▸ h.released) (h.own.enters hw free hp htaken (ht ▸ rfl) own other) ?_
    (railsLegal_iff.mpr ⟨h.rails.congr rails (ht ▸ rfl) ?_ ?_, fun hf => absurd (rails ▸ hf) h.sound⟩)
  · refine ⟨fun j sl' hs hl => ?_, fun j todo hpass => ?_, fun _ hl => ?_⟩
    · by_cases e : j = i
      · exact ⟨_, e ▸ pass⟩
      · exact absurd hl (h.settled j sl' (other j e ▸ hs))
    · rw [pass] at hpass
      cases hpass
      exact ⟨sl, own, hp⟩
    · simp [State.latching, pass] at hl
  · exact drives _ (by simp [Slot.isArmed, hp])
  · exact drives _ (by simp [Slot.isRunning, hp])

theorem resolveAndAdmit_lawful (h : Between s) (hw : Store.wf PixelRec.initial s.store.pixels) (r : Request)
    (unknownSeen : Bool) : Lawful (s.resolveAndAdmit r unknownSeen) := by
  unfold State.resolveAndAdmit
  split
  · rename_i m promoted i _ hi
    exact h.enters hw (slot_of_freeSlot? hi) r m promoted
  · refine h.continues ?_
    rw [notify_frame]; rfl
  · exact h.ends rfl

theorem resolveAndAdmit_passLegal (h : PassReady s) (r : Request) (unknownSeen : Bool) :
    PassLegal (s.resolveAndAdmit r unknownSeen) := by
  unfold State.resolveAndAdmit
  split
  · exact PassReady.runs (h.congr rfl rfl id) rfl
  · refine PassReady.continuePass ?_
    rw [notify_frame]; exact h.congr rfl rfl id
  · exact h.endPass

theorem execResolutionPixelReadsEnd_keeps (s : State) : AnswersKept s (execResolutionPixelReadsEnd s) := by
  refine .next ?_
  have reading : ∀ {p}, s.sched.pass = some p → (∀ i todo, p ≠ .latching i todo) → Lawful s → s.power = .run →
      Between s := fun hp hn hl hrun =>
    hl.between hrun (hl.rails.sound hp) fun i todo e => hn i todo (Option.some.inj (hp.symm.trans e))
  split
  · rename_i todo found r hp he
    refine ite_holds (KeepsInRun.keeps ⟨fun _ hl hrun => ?_, fun hl => ?_⟩ fun hl => hl.run_of_pass hp)
      (KeepsInRun.keeps ⟨fun _ hl hrun => ?_, fun hl => ?_⟩ fun hl => hl.run_of_pass hp)
    · exact (reading hp (by simp) hl hrun).continues rfl
    · exact PassReady.continuePass (hl.ready.congr rfl rfl id)
    · exact (reading hp (by simp) hl hrun).lawful rfl (setPass_reads (by simp) (by simp [he]))
    · exact PassReady.runs (hl.ready.congr rfl rfl id) rfl
  · rename_i todo found r hp he
    refine KeepsInRun.keeps ⟨fun hw hl hrun => ?_, fun hl => ?_⟩ fun hl => hl.run_of_pass hp
    · exact resolveAndAdmit_lawful (reading hp (by simp) hl hrun) hw r _
    · exact resolveAndAdmit_passLegal hl.ready r _
  · exact .refl s

theorem beginPass_ground (s : State) : s.beginPass.ground = s.ground := by rw [beginPass_eq]; rfl

/-- A pass that begins is due no more, and every UPDATE that waited is in it. -/
theorem beginPass_ready (s : State) : PassReady s.beginPass := by
  rw [beginPass_eq]
  refine ⟨fun h => (by cases h), fun h => ?_⟩
  have : s.intake.hold.inPass = .update false := h
  cases hh : s.intake.hold <;> rw [hh] at this <;> cases this

/-- Outside RUN a pass finds no request and ends as it begins. -/
theorem Quiet.emptyPass (h : Quiet s) : s.beginPass.continuePass = { s with
    sched := { s.sched with passDue := false } } := by
  obtain ⟨hr, hp⟩ := h.requests
  have begun : s.beginPass = { s with sched := { s.sched with passDue := false } } := by
    rw [beginPass_eq]
    simp only [hr, h.intake, Hold.inPass, List.map_nil]
  have ends : ∀ u : State, u.sched.requests = [] → u.sched.pass = none → u.sched.passDue = false →
      u.intake.hold.afterPass = u.intake.hold → u.continuePass = u := by
    intro u hreq hpass hdue hhold
    unfold State.continuePass
    rw [hreq, State.examine, endPass_eq]
    obtain ⟨_, ⟨_, _⟩, _, _, _, _, _, _, _, ⟨_, _, _, _⟩, _, _, _, _, _⟩ := u
    simp_all [State.setRequests]
  rw [begun]
  exact ends _ hr hp rfl (by rw [h.intake]; rfl)

theorem execAdmissionPass_keeps (s : State) : AnswersKept s (execAdmissionPass s) := by
  refine .next ?_
  split
  · rename_i hguard
    obtain ⟨-, noPass, sound, -⟩ := hguard
    refine ⟨fun _ hl => ?_, fun _ => (beginPass_ready s).continuePass⟩
    by_cases hrun : s.power = .run
    · exact (hl.between hrun sound (by simp [noPass])).continues (beginPass_ground s)
    · have hq := hl.quiet hrun
      rw [hq.emptyPass]
      exact hl.sameScene rfl fun _ _ => ⟨hq.intake, hq.slots, hq.requests, hq.drawing, hq.rails, hq.sensor, hq.link⟩
  · exact .refl s

end Admission

end Sys2Proof.Machine
end

section
/-! SUPPORT. Walks, latch ends and frame ends keep owners, slots, rails and passes (R15, R113 to R123, R132, R135). -/

namespace Sys2Proof.Machine

/-! ### Walks (R15, R114, R118) -/

/-- The slot whose latch pass a pass waits on. -/
def Pass.latches : Pass → Option (Fin 16)
  | .latching i _ => some i
  | .deferRead _ _ => none
  | .resolveRead _ _ => none

/-- The slot is LATCHING. -/
def State.latchingAt (s : State) (i : Fin 16) : Prop := ∃ sl, s.slot i = some sl ∧ sl.phase = .latching

section Walks

variable {s t u : State}

theorem latches_eq_some {p : Option Pass} {i : Fin 16} :
    p.map Pass.latches = some (some i) ↔ ∃ todo, p = some (.latching i todo) := by
  cases p with
  | none => simp
  | some p => cases p <;> simp [Pass.latches]

theorem latching_eq (s : State) : s.latching = ((s.sched.pass.map Pass.latches).join).isSome := by
  unfold State.latching
  cases s.sched.pass with
  | none => rfl
  | some p => cases p <;> rfl

/-- A pass that waits on the same slot, over the same LATCHING slots, with a request still examined. -/
theorem PassWaits.walks (h : PassWaits s) (slots : ∀ i, t.latchingAt i ↔ s.latchingAt i)
    (pass : t.sched.pass.map Pass.latches = s.sched.pass.map Pass.latches)
    (examined : s.sched.pass.isSome = true → s.latching = false → s.examined.isSome = true →
      t.examined.isSome = true) : PassWaits t := by
  have isSome : t.sched.pass.isSome = s.sched.pass.isSome := by
    rw [← Option.isSome_map (f := Pass.latches), pass, Option.isSome_map]
  have latching : t.latching = s.latching := by rw [latching_eq, pass, ← latching_eq]
  refine ⟨fun i sl hs hp => ?_, fun i todo hp => ?_, fun hp hl => ?_⟩
  · obtain ⟨sl', hs', hp'⟩ := (slots i).mp ⟨sl, hs, hp⟩
    rw [← latches_eq_some, pass, latches_eq_some]
    exact h.latching i sl' hs' hp'
  · obtain ⟨todo', e⟩ := latches_eq_some.mp (pass ▸ latches_eq_some.mpr ⟨todo, hp⟩)
    exact (slots i).mpr (h.walking i todo' e)
  · rw [isSome] at hp
    rw [latching] at hl
    exact examined hp hl (h.reading hp hl)

theorem advancePass_latches (s : State) (n : Nat) :
    (s.advancePass n).sched.pass.map Pass.latches = s.sched.pass.map Pass.latches := by
  unfold State.advancePass
  cases hp : s.sched.pass with
  | none => simp [hp]
  | some p =>
    cases p with
    | deferRead todo found => rfl
    | resolveRead todo found => rfl
    | latching i todo =>
      dsimp only
      split
      · rw [hp]
      · rfl

/-- A walk leaves every slot in its phase. -/
theorem Walked.any (h : Walked s u) {p : Slot → Bool} (hp : ∀ sl sl' : Slot, sl'.phase = sl.phase → p sl' = p sl)
    (i : Fin 16) : (u.slot i).any p = (s.slot i).any p := by
  cases hs : s.slot i with
  | none => rw [h.free i hs]
  | some sl =>
    obtain ⟨taken, skipped, tiles, e⟩ := h.counted i sl hs
    rw [e]; exact hp _ _ rfl

theorem isArmed_phase (sl sl' : Slot) (h : sl'.phase = sl.phase) : sl'.isArmed = sl.isArmed := by
  unfold Slot.isArmed; rw [h]

theorem isRunning_phase (sl sl' : Slot) (h : sl'.phase = sl.phase) : sl'.isRunning = sl.isRunning := by
  unfold Slot.isRunning; rw [h]

theorem Walked.anyArmed (h : Walked s u) : u.anyArmed = s.anyArmed := anySlot_congr (h.any isArmed_phase)

theorem Walked.anyRunning (h : Walked s u) : u.anyRunning = s.anyRunning := anySlot_congr (h.any isRunning_phase)

theorem Walked.latchingAt (h : Walked s u) (i : Fin 16) : u.latchingAt i ↔ s.latchingAt i := by
  have e := h.any (p := fun sl => decide (sl.phase = .latching)) (fun _ _ hp => by rw [hp]) i
  rw [Bool.eq_iff_iff, Option.any_eq_true, Option.any_eq_true] at e
  simpa [State.latchingAt] using e

theorem examined_of_requests (h : t.sched.requests = s.sched.requests) : t.examined = s.examined := by
  unfold State.examined; rw [h]

theorem Lawful.advancePass (h : Lawful s) (hw : Store.wf PixelRec.initial s.store.pixels) (hp : s.power = .run)
    (n : Nat) : Lawful (s.advancePass n) := by
  have walked := advancePass_walked s n
  have own := h.own.advancePass hw n
  have pass := advancePass_latches s n
  have hf := advancePass_frame s n
  generalize s.advancePass n = t at walked own pass hf ⊢
  have rails : t.rails = s.rails := by rw [hf]
  obtain ⟨follow, fault⟩ := railsLegal_iff.mp h.rails
  refine .inRun (by rw [hf]; exact hp) (by rw [hf]; exact h.released hp) own
    (h.waits.walks walked.latchingAt pass fun _ _ he => ?_)
    (railsLegal_iff.mpr ⟨follow.congr rails (by rw [hf]) walked.anyArmed walked.anyRunning, fun e => ?_⟩)
  · rw [examined_of_requests (by rw [hf])]; exact he
  · obtain ⟨noPass, free⟩ := fault (rails ▸ e)
    refine ⟨?_, fun i => walked.free i (free i)⟩
    simpa [noPass] using pass

theorem Lawful.walkedOn (h : Lawful s) (hw : Store.wf PixelRec.initial s.store.pixels) (hp : s.power = .run)
    (hu : WalkedOn s u) : Lawful u := by
  obtain ⟨⟨n, e⟩, -, -⟩ := hu
  have hf := advancePass_frame s n
  have hl := h.advancePass hw hp n
  generalize s.advancePass n = v at e hf hl
  refine hl.sameScene ?_ fun hv => absurd (by rw [hf]; exact hp) hv
  rw [e, hf]; rfl

/-- What passes rest on is not the walks' to change. -/
theorem PassLegal.walkedOn (h : PassLegal s) (hu : WalkedOn s u) : PassLegal u := by
  obtain ⟨⟨n, e⟩, hold, -⟩ := hu
  have pass : u.sched.pass.isSome = s.sched.pass.isSome := by
    rw [← Option.isSome_map (f := Pass.latches), e]
    show ((s.advancePass n).sched.pass.map Pass.latches).isSome = _
    rw [advancePass_latches, Option.isSome_map]
  have due : u.sched.passDue = s.sched.passDue := by rw [e, advancePass_frame]
  have state : u.rails.state = s.rails.state := by rw [e]
  rcases hold.cases with hh | ⟨r, r', -, hh⟩
  · exact h.congr due pass hh state
  · exact h.apart due (by simp [Hold.apart, hh]) state

/-- A READ of PIXELS reads to its end and frees the Dispatcher (R15). -/
theorem execReadPixelsEnd_keeps (s : State) : AnswersKept s (execReadPixelsEnd s) := by
  refine .next ?_
  split
  · rename_i r hr
    obtain ⟨more, n, c, passed, e, -⟩ := readMany_reads hr
    dsimp only
    rw [e]
    refine KeepsInRun.keeps ⟨fun hw hl hp => ?_, fun hl => ?_⟩ fun hl => hl.run_of_hold (by simp [hr])
    · exact (hl.advancePass hw hp n).sameScene rfl fun hn => absurd (by rw [advancePass_frame]; exact hp) hn
    · refine hl.apart ?_ (by simp [State.withWalkers, Hold.apart]) ?_
      · show (s.advancePass n).sched.passDue = _
        rw [advancePass_frame]
      · show (s.advancePass n).rails.state = _
        rw [advancePass_frame]
  · exact .refl s

end Walks

/-! ### The latch end (R119) -/

section LatchEnd

variable {s t : State} {i : Fin 16} {sl : Slot}

/-- A LATCHING slot that is freed gives up its pixels. -/
theorem endOwned_keepsOwned (hw : Store.wf PixelRec.initial s.store.pixels) (ho : SlotsOwn s)
    (hp : t.store.pixels = mapOwned i PixelRec.released s.store.pixels) (own : t.slot i = none)
    (other : ∀ j, j ≠ i → t.slot j = s.slot j) : KeepsOwned s t := by
  have pixel : ∀ k, t.pixel k = if (s.pixel k).owner = some i then (s.pixel k).released else s.pixel k := fun k => by
    unfold State.pixel
    rw [hp]
    exact pixelAt_mapOwned hw.1 ..
  refine ⟨fun k j => ?_, fun k j hk => ?_, fun j sl' hs' => ?_⟩
  · by_cases e : (s.pixel k).owner = some i
    · rw [pixel, if_pos e, e]
      by_cases ej : j = i
      · simp [ej, own, PixelRec.released]
      · simp [PixelRec.released, Ne.symm ej]
    · rw [pixel, if_neg e]
      refine ⟨fun hk => ⟨hk, ?_⟩, fun hk => hk.1⟩
      rw [other j fun ej => e (ej ▸ hk)]; exact ho.owners k j hk
  · rw [pixel]
    split <;> rfl
  · have ej : j ≠ i := fun ej => by rw [ej, own] at hs'; cases hs'
    exact ⟨sl', other j ej ▸ hs', rfl, rfl, .inl⟩

/-- A slot that has pixels becomes ARMED. -/
theorem armed_keepsOwned (ho : SlotsOwn s) (hs : s.slot i = some sl) (htaken : sl.taken ≠ 0)
    (hp : t.store.pixels = s.store.pixels) (own : t.slot i = some { sl with phase := .armed })
    (other : ∀ j, j ≠ i → t.slot j = s.slot j) : KeepsOwned s t := by
  have pixel : ∀ k, t.pixel k = s.pixel k := fun k => by unfold State.pixel; rw [hp]
  refine ⟨fun k j => ?_, fun k _ _ => by rw [pixel], fun j sl' hs' => ?_⟩
  · rw [pixel]
    refine ⟨fun hk => ⟨hk, ?_⟩, fun hk => hk.1⟩
    by_cases ej : j = i
    · rw [ej, own]; rfl
    · rw [other j ej]; exact ho.owners k j hk
  · by_cases ej : j = i
    · subst ej
      rw [own] at hs'
      obtain rfl := Option.some.inj hs'
      exact ⟨sl, hs, rfl, rfl, fun _ => .inr htaken⟩
    · exact ⟨sl', other j ej ▸ hs', rfl, rfl, .inl⟩

theorem start_fields (sl : Slot) : sl.start.taken = sl.taken ∧ sl.start.mode = sl.mode := by
  by_cases h : sl.phase = .armed
  · rw [start_of_armed h]; exact ⟨rfl, rfl⟩
  · rw [start_of_not_armed h]; exact ⟨rfl, rfl⟩

/-- A frame that starts leaves owners and counts. -/
theorem SlotsOwn.starts (h : SlotsOwn s) (hw : Store.wf PixelRec.initial s.store.pixels)
    (hp : t.store.pixels = s.store.pixels) (slots : ∀ j, t.slot j = (s.slot j).map Slot.start) : SlotsOwn t := by
  have pixel : ∀ k, t.pixel k = s.pixel k := fun k => by unfold State.pixel; rw [hp]
  refine h.keeps hw.1 (hp ▸ hw.1) (h.keepsOwned (fun k => by rw [pixel]) (fun k => by rw [pixel]) slots fun sl => ?_)
  obtain ⟨taken, mode⟩ := start_fields sl
  exact ⟨taken, mode, mt start_phase_latching.mpr⟩

theorem SlotsOwn.onArmed (h : SlotsOwn s) (hw : Store.wf PixelRec.initial s.store.pixels) (ha : s.anyArmed = true) :
    SlotsOwn s.onArmed ∧ ∀ j, s.onArmed.latchingAt j ↔ s.latchingAt j := by
  have pixels : s.onArmed.store.pixels = s.store.pixels := by rw [onArmed_frame]
  by_cases hf : s.startsFrame
  · obtain ⟨-, slots⟩ := onArmed_started ha hf
    refine ⟨h.starts hw pixels slots, fun j => ?_⟩
    unfold State.latchingAt
    rw [slots]
    simp [start_phase_latching]
  · obtain ⟨-, sched⟩ := onArmed_not_started hf
    refine ⟨h.congr pixels (by rw [sched]), fun j => ?_⟩
    unfold State.latchingAt
    rw [State.slot_of_sched sched]

/-- The rails do not enter FAULT as a slot becomes ARMED. -/
theorem onArmed_sound (ha : s.anyArmed = true) (h : s.rails.state ≠ .fault) : s.onArmed.rails.state ≠ .fault := by
  rw [onArmed_rails ha]
  cases hr : s.rails.state with
  | off => cases s.rails.pgood <;> simp
  | fault => exact absurd hr h
  | rising | on | falling => simp [hr]

theorem Lawful.endLatch_freed (h : Lawful s) (hw : Store.wf PixelRec.initial s.store.pixels) (hp : s.power = .run)
    (sound : s.rails.state ≠ .fault) (hs : s.slot i = some sl) (hl : sl.phase = .latching)
    (others : ∀ j sl', j ≠ i → s.slot j = some sl' → sl'.phase ≠ .latching) (hf : sl.cancel = true ∨ sl.taken = 0) :
    Between (s.endLatch i) := by
  obtain ⟨e, he⟩ := freed_ending hf
  have ht := endLatch_freed_eq hs he
  generalize s.endLatch i = t at ht ⊢
  have rails : t.rails = s.rails := by rw [ht]
  have scan : t.scan = s.scan := by rw [ht]
  have slots : t.sched.slots = (s.setSlot i none).sched.slots := by rw [ht]; rfl
  have own : t.slot i = none := (slot_of_slots slots i).trans (State.setSlot_slot_same ..)
  have other : ∀ j, j ≠ i → t.slot j = s.slot j := fun j hj =>
    (slot_of_slots slots j).trans (State.setSlot_slot_other _ _ _ _ hj)
  have pixels : t.store.pixels = mapOwned i PixelRec.released s.store.pixels := by rw [ht]
  have drives : ∀ p : Slot → Bool, p sl = false → t.anySlot p = s.anySlot p := fun p hsl => anySlot_congr fun j => by
    by_cases ej : j = i
    · rw [ej, own, hs]; exact hsl.symm
    · rw [other j ej]
  refine ⟨by rw [ht]; exact hp, by rw [ht]; exact h.released hp,
    h.own.keeps hw.1 (pixels ▸ (mapOwned_wf hw.1 ..).1) (endOwned_keepsOwned hw h.own pixels own other),
    (railsLegal_iff.mp h.rails).1.congr rails scan (drives _ ?_) (drives _ ?_), rails ▸ sound, fun j sl' hs' => ?_⟩
  · simp [Slot.isArmed, hl]
  · simp [Slot.isRunning, hl]
  · have ej : j ≠ i := fun ej => by rw [ej, own] at hs'; cases hs'
    exact others j sl' ej (other j ej ▸ hs')

theorem Lawful.endLatch_armed (h : Lawful s) (hw : Store.wf PixelRec.initial s.store.pixels) (hp : s.power = .run)
    (sound : s.rails.state ≠ .fault) (hs : s.slot i = some sl) (hl : sl.phase = .latching)
    (others : ∀ j sl', j ≠ i → s.slot j = some sl' → sl'.phase ≠ .latching) (hc : sl.cancel = false)
    (htaken : sl.taken ≠ 0) : Between (s.endLatch i) := by
  rw [Machine.endLatch_armed hs hc htaken]
  generalize hu : (s.setFlagIf (decide (0 < sl.skipped)) .collide).setSlot i (some { sl with phase := .armed }) = u
  rw [setFlagIf_frame] at hu
  have own : u.slot i = some { sl with phase := .armed } := hu ▸ State.setSlot_slot_same ..
  have other : ∀ j, j ≠ i → u.slot j = s.slot j := fun j hj => hu ▸ State.setSlot_slot_other _ _ _ _ hj
  have pixels : u.store.pixels = s.store.pixels := hu ▸ rfl
  have rails : u.rails = s.rails := hu ▸ rfl
  have scan : u.scan = s.scan := hu ▸ rfl
  have armed : u.anyArmed = true := anySlot_iff.mpr ⟨i, _, own, rfl⟩
  have running : u.anyRunning = s.anyRunning := anySlot_congr fun j => by
    by_cases ej : j = i
    · rw [ej, own, hs]; simp [Slot.isRunning, hl]
    · rw [other j ej]
  have hown : SlotsOwn u := h.own.keeps hw.1 (pixels ▸ hw.1) (armed_keepsOwned h.own hs htaken pixels own other)
  obtain ⟨towner, tlatching⟩ := hown.onArmed (pixels ▸ hw) armed
  refine ⟨?_, ?_, towner, railsFollow_onArmed (railsLegal_iff.mp h.rails).1 rails scan running armed,
    onArmed_sound armed (rails ▸ sound), fun j sl' hs' hl' => ?_⟩
  · rw [onArmed_frame]; exact hu ▸ hp
  · rw [onArmed_frame]; exact hu ▸ h.released hp
  · obtain ⟨sl₁, hs₁, hl₁⟩ := (tlatching j).mp ⟨sl', hs', hl'⟩
    by_cases ej : j = i
    · rw [ej, own] at hs₁
      obtain rfl := Option.some.inj hs₁
      cases hl₁
    · exact others j sl₁ ej (other j ej ▸ hs₁) hl₁

/-- Once its latch pass has ended, no slot is LATCHING (R118, R119). -/
theorem Lawful.endLatch (h : Lawful s) (hw : Store.wf PixelRec.initial s.store.pixels) (hp : s.power = .run)
    {todo : List Nat} (hpass : s.sched.pass = some (.latching i todo)) : Between (s.endLatch i) := by
  obtain ⟨sl, hs, hl⟩ := h.waits.walking i todo hpass
  have others : ∀ j sl', j ≠ i → s.slot j = some sl' → sl'.phase ≠ .latching := fun j sl' hj hs' hl' => by
    obtain ⟨todo', e⟩ := h.waits.latching j sl' hs' hl'
    rw [hpass] at e
    cases e
    exact hj rfl
  by_cases hf : sl.cancel = true ∨ sl.taken = 0
  · exact h.endLatch_freed hw hp (h.rails.sound hpass) hs hl others hf
  · obtain ⟨hc, htaken⟩ := not_or.mp hf
    exact h.endLatch_armed hw hp (h.rails.sound hpass) hs hl others (by simpa using hc) htaken

theorem reachOn_no_fault (h : s.reachOn.rails.state = .fault) : False := by
  unfold State.reachOn at h
  dsimp only at h
  split at h
  · cases h
  · cases startHold_fault h

theorem enterRising_no_fault (h : s.enterRising.rails.state = .fault) : False := by
  unfold State.enterRising at h
  dsimp only at h
  split at h
  · exact reachOn_no_fault h
  · cases h

theorem onArmed_fault (h : s.onArmed.rails.state = .fault) : s.rails.state = .fault := by
  unfold State.onArmed at h
  split at h
  · exact (enterRising_no_fault h).elim
  · rename_i hr
    dsimp only at h
    split at h <;> exact absurd (hr.symm.trans h) (by simp)
  all_goals exact h

theorem PassReady.released (h : PassReady s) (e : Ending) : PassReady (s.releaseSlot i sl e) := by
  refine h.congr ?_ ?_ ?_ <;> unfold State.releaseSlot <;> rw [endSlot_frame]
  · rfl
  · rfl
  · exact id

theorem PassReady.endLatch (h : PassReady s) (i : Fin 16) : PassReady (s.endLatch i) := by
  unfold State.endLatch
  split
  · exact h
  · rename_i sl _
    dsimp only
    have flagged : PassReady (s.setFlagIf (decide (0 < sl.skipped)) .collide) := by
      rw [setFlagIf_frame]; exact h.congr rfl rfl id
    refine ite_holds (flagged.released _).trigger (ite_holds (flagged.released _).trigger ?_)
    refine flagged.congr ?_ ?_ fun hf => ?_
    · rw [onArmed_frame]; rfl
    · rw [onArmed_frame]; rfl
    · have armed := onArmed_fault hf
      exact armed

theorem execLatchEnd_keeps (s : State) : AnswersKept s (execLatchEnd s) := by
  by_cases h : ∃ i todo, s.sched.pass = some (.latching i todo) ∧ s.comp.draw = none
  · obtain ⟨i, todo, hp, hd⟩ := h
    obtain ⟨x, hexec, hx, hpass, -⟩ := latchEnd_exec hp hd
    rw [show execLatchEnd s = _ from hexec]
    refine .next (KeepsInRun.keeps ⟨fun hw hl hrun => ?_, fun hl => ?_⟩ fun hl => hl.run_of_pass hp)
    · have power : x.power = .run := by rw [hx.frame]; exact hrun
      exact ((hl.walkedOn hw hrun hx).endLatch (hx.walked.wf hw) power hpass).continues rfl
    · exact ((hl.walkedOn hx).ready.endLatch i).continuePass
  · refine .next ?_
    split
    · rename_i i todo hp
      split
      · exact .refl s
      · rename_i hd
        exact absurd ⟨i, todo, hp, by simpa using hd⟩ h
    · exact .refl s

end LatchEnd

/-! ### The frame end (R121 to R123, R132, R135) -/

section FrameEnd

variable {s : State}

theorem frameAction_frees {sl : Slot} (h : frameAction.next sl = none) (p : PixelRec) :
    (frameAction.pixel sl p).owner = none := by
  unfold frameAction at h ⊢
  cases hp : sl.phase with
  | latching | armed => simp [hp] at h
  | running index =>
    simp only [hp] at h ⊢
    split
    · rfl
    · rename_i hf
      rw [if_neg hf] at h
      split
      · rfl
      · rename_i hc; simp [hc] at h

theorem frameAction_leaves {sl sl' : Slot} (h : frameAction.next sl = some sl') :
    (∀ p, frameAction.pixel sl p = p) ∧ sl'.taken = sl.taken ∧ sl'.mode = sl.mode ∧
      (sl'.phase = .latching ↔ sl.phase = .latching) := by
  unfold frameAction at h ⊢
  cases hp : sl.phase with
  | latching | armed =>
    simp only [hp, Option.some.injEq] at h ⊢
    subst h
    simp [hp]
  | running index =>
    simp only [hp] at h ⊢
    split at h
    · cases h
    · rename_i hf
      split at h
      · cases h
      · rename_i hc
        cases h
        simp [hf, hc]

theorem latchingAt_bind {a : SlotAction} {f : State → Fin 16 → State} (hf : ActsBy a f) (s : State) (i : Fin 16)
    (keeps : ∀ sl, sl.phase = .latching → a.next sl ≠ none)
    (phase : ∀ sl sl', a.next sl = some sl' → (sl'.phase = .latching ↔ sl.phase = .latching)) :
    (slotIds.foldl f s).latchingAt i ↔ s.latchingAt i := by
  unfold State.latchingAt
  rw [hf.slot]
  constructor
  · rintro ⟨sl', hs, hp⟩
    obtain ⟨sl, hsl, hn⟩ := Option.bind_eq_some_iff.mp hs
    exact ⟨sl, hsl, (phase sl sl' hn).mp hp⟩
  · rintro ⟨sl, hs, hp⟩
    obtain ⟨sl', hn⟩ := Option.ne_none_iff_exists'.mp (keeps sl hp)
    exact ⟨sl', by rw [hs]; exact hn, (phase sl sl' hn).mpr hp⟩

theorem nextFrame_fault (h : s.nextFrame.rails.state = .fault) : s.rails.state = .fault := by
  cases drives : s.anyDriving
  · rw [nextFrame_idle drives] at h
    have before := startHold_fault h
    exact before
  · rw [nextFrame_driving drives] at h
    exact h

theorem Lawful.frameEnd (h : Lawful s) (hw : Store.wf PixelRec.initial s.store.pixels) (hp : s.power = .run)
    (hscan : s.scan.isSome = true) : Lawful (slotIds.foldl State.frameSlot s).trigger.nextFrame := by
  obtain ⟨on, -⟩ := h.rails.scanning hscan
  obtain ⟨follow, -⟩ := railsLegal_iff.mp h.rails
  have kept := frameSlot_acts.keepsOwned h.own hw (fun sl => frameAction_frees) fun sl sl' hn => by
    obtain ⟨pixel, taken, mode, phase⟩ := frameAction_leaves hn
    exact ⟨pixel, taken, mode, mt phase.mpr⟩
  have latching := fun i => latchingAt_bind frameSlot_acts s i (fun sl hl => by simp [frameAction, hl])
    fun sl sl' hn => by
      obtain ⟨-, -, -, phase⟩ := frameAction_leaves hn
      exact phase
  have wf := frameSlot_acts.wf_all hw
  have framed := frameSlotList_frame slotIds s
  have frame := frameEnd_frame s
  generalize slotIds.foldl State.frameSlot s = v at kept latching wf framed frame ⊢
  have own : SlotsOwn v := h.own.keeps hw.1 wf.1 kept
  have rails : v.trigger.rails = s.rails := by show v.rails = _; rw [framed]
  have noHold : s.rails.hold = none := by
    have running : s.anyRunning = true := follow.scanning ▸ hscan
    rw [← Option.not_isSome_iff_eq_none, follow.holding, anyDriving_eq, running]; simp
  have trailing : RailsFollow v.trigger.nextFrame :=
    railsFollow_nextFrame (by rw [rails]; exact on) (by rw [rails]; exact follow.noRise (by simp [on]))
      (by rw [rails]; exact follow.noFall (by simp [on])) (by rw [rails]; exact noHold)
  have slots : ∀ i, v.trigger.nextFrame.slot i = (v.slot i).map Slot.start := nextFrame_slot v.trigger
  have sound : v.trigger.nextFrame.rails.state ≠ .fault := mt nextFrame_fault (by rw [rails, on]; simp)
  generalize v.trigger.nextFrame = t at trailing slots sound frame ⊢
  have pixels : t.store.pixels = v.store.pixels := by rw [frame]
  refine .inRun (by rw [frame]; exact hp) (by rw [frame]; exact h.released hp) (own.starts wf pixels slots)
    (h.waits.walks (fun i => Iff.trans ?_ (latching i)) (by rw [frame]) fun _ _ he => ?_)
    (railsLegal_iff.mpr ⟨trailing, fun hf => absurd hf sound⟩)
  · unfold State.latchingAt
    rw [slots]
    simp [start_phase_latching]
  · rw [examined_of_requests (by rw [frame])]; exact he

theorem PassLegal.frameEnd (h : PassLegal s) : PassLegal (slotIds.foldl State.frameSlot s).trigger.nextFrame := by
  have framed := frameSlotList_frame slotIds s
  generalize slotIds.foldl State.frameSlot s = v at framed ⊢
  have ready : PassReady v := h.ready.congr (by rw [framed]) (by rw [framed]) (by rw [framed]; exact id)
  have pass : v.sched.pass = s.sched.pass := by rw [framed]
  have hold : v.intake.hold = s.intake.hold := by rw [framed]
  have moved := nextFrame_frame v.trigger
  have calm : v.trigger.nextFrame.rails.state = .fault → v.trigger.rails.state = .fault := nextFrame_fault
  generalize v.trigger.nextFrame = t at moved calm ⊢
  have due : t.sched.passDue = v.trigger.sched.passDue := by rw [moved]
  have thold : t.intake.hold = v.trigger.intake.hold := by rw [moved]
  have tpass : t.sched.pass = v.trigger.sched.pass := by rw [moved]
  obtain ⟨hdue, hwaiting⟩ := ready.trigger.congr due thold calm
  refine ⟨hdue, hwaiting, fun hh => ?_⟩
  rw [tpass]
  show v.sched.pass.isSome = true
  rw [pass]
  exact h.running (hold.symm.trans (thold.symm.trans hh))

theorem execFrameEnd_keeps (s : State) : AnswersKept s (execFrameEnd s) := by
  refine .next ?_
  split
  · rename_i hscan
    have hu := advanceWalks_walkedOn s
    refine KeepsInRun.keeps ⟨fun hw hl hp => ?_, fun hl => (hl.walkedOn hu).frameEnd⟩ fun hl => hl.run_of_scan hscan
    have scan : s.advanceWalks.scan = s.scan := by rw [hu.frame]
    have power : s.advanceWalks.power = s.power := by rw [hu.frame]
    exact (hl.walkedOn hw hp hu).frameEnd (hu.walked.wf hw) (power.trans hp) (scan ▸ hscan)
  · exact .refl s

end FrameEnd

end Sys2Proof.Machine
end

section
/-! SUPPORT. CANCEL, HALT, the entry to FAULT and the soft reset keep owners, slots, rails and passes (R124, R126, R127,
R144, R168). -/

namespace Sys2Proof.Machine

open Host (Outcome)

/-! ### CANCEL (R124) -/

section Cancel

variable {s : State} {tag : Byte}

theorem cancelAction_frees {sl : Slot} (h : (cancelAction tag).next sl = none) :
    sl.phase = .armed ∧ ∀ p, ((cancelAction tag).pixel sl p).owner = none := by
  unfold cancelAction at h ⊢
  by_cases ht : sl.tag = tag
  · by_cases ha : sl.phase = .armed
    · exact ⟨ha, fun p => by simp [ht, ha, PixelRec.released]⟩
    · simp [ht, ha] at h
  · simp [ht] at h

theorem cancelAction_leaves {sl sl' : Slot} (h : (cancelAction tag).next sl = some sl') :
    (∀ p, (cancelAction tag).pixel sl p = p) ∧ sl'.taken = sl.taken ∧ sl'.mode = sl.mode ∧ sl'.phase = sl.phase := by
  unfold cancelAction at h ⊢
  by_cases ht : sl.tag = tag
  · by_cases ha : sl.phase = .armed
    · simp [ht, ha] at h
    · simp only [ht, ha, ne_eq, not_true_eq_false, if_false, Option.some.injEq] at h
      subst h
      simp [ha]
  · simp only [ne_eq, ht, not_false_eq_true, if_true, Option.some.injEq] at h
    subst h
    simp [ht]

/-- A CANCEL frees ARMED slots only, and leaves the others in their phase. -/
theorem cancelSlots_any (u : State) {p : Slot → Bool} (hp : ∀ sl sl' : Slot, sl'.phase = sl.phase → p sl' = p sl)
    (i : Fin 16) : ((slotIds.foldl (State.cancelSlot tag) u).slot i).any p = true → (u.slot i).any p = true := by
  rw [(cancelSlot_acts tag).slot]
  cases u.slot i with
  | none => exact id
  | some sl =>
    intro h
    obtain ⟨sl', hn, hp'⟩ := (Option.any_eq_true ..).mp h
    obtain ⟨-, -, -, phase⟩ := cancelAction_leaves hn
    exact (hp sl sl' phase).symm.trans hp'

theorem cancelSlots_anyArmed (u : State) (h : (slotIds.foldl (State.cancelSlot tag) u).anyArmed = true) :
    u.anyArmed = true := by
  unfold State.anyArmed State.anySlot at h ⊢
  rw [List.any_eq_true] at h ⊢
  obtain ⟨i, hi, ha⟩ := h
  exact ⟨i, hi, cancelSlots_any u isArmed_phase i ha⟩

theorem cancelSlots_anyRunning (u : State) :
    (slotIds.foldl (State.cancelSlot tag) u).anyRunning = u.anyRunning := by
  refine anySlot_congr fun i => Bool.eq_iff_iff.mpr ⟨cancelSlots_any u isRunning_phase i, fun hr => ?_⟩
  rw [(cancelSlot_acts tag).slot]
  cases hs : u.slot i with
  | none => rw [hs] at hr; exact hr
  | some sl =>
    rw [hs] at hr
    cases hn : (cancelAction tag).next sl with
    | none =>
      obtain ⟨ha, -⟩ := cancelAction_frees hn
      simp [Slot.isRunning, ha] at hr
    | some sl' =>
      obtain ⟨-, -, -, phase⟩ := cancelAction_leaves hn
      rw [Option.bind_some, hn]
      exact (isRunning_phase sl sl' phase).trans hr

/-- What a CANCEL leaves of owners, slots and rails, before a pass goes on. -/
structure Cancelled (s t : State) : Prop where
  power : t.power = s.power
  asserted : t.link.resetAsserted = s.link.resetAsserted
  own : SlotsOwn t
  rails : RailsFollow t
  fault : t.rails.state = .fault → s.rails.state = .fault
  latching : ∀ i, t.latchingAt i ↔ s.latchingAt i
  pass : t.sched.pass.map Pass.latches = s.sched.pass.map Pass.latches
  free : ∀ i, s.slot i = none → t.slot i = none

theorem Lawful.cancelled (h : Lawful s) (hw : Store.wf PixelRec.initial s.store.pixels) (hp : s.power = .run)
    (tag : Byte) : Cancelled s (s.cancelled tag) := by
  have hu := cancelFrom_walkedOn s tag
  have hul := h.walkedOn hw hp hu
  have walked := hu.walked
  have frame := hu.frame
  have acted := cancelled_eq s tag
  unfold State.cancelActed at acted
  have passes : (s.cancelFrom tag).sched.pass.map Pass.latches = s.sched.pass.map Pass.latches := by
    obtain ⟨⟨n, e⟩, -⟩ := hu
    rw [e]; exact advancePass_latches s n
  generalize s.cancelFrom tag = u at hu hul walked frame acted passes
  have kept := (cancelSlot_acts tag).keepsOwned hul.own (walked.wf hw) (fun sl hn => (cancelAction_frees hn).2)
    fun sl sl' hn => by
      obtain ⟨pixel, taken, mode, phase⟩ := cancelAction_leaves hn
      exact ⟨pixel, taken, mode, phase ▸ id⟩
  have wf := (cancelSlot_acts tag).wf_all (walked.wf hw)
  have latching := fun i => latchingAt_bind (cancelSlot_acts tag) u i
    (fun sl hl hn => by rw [(cancelAction_frees hn).1] at hl; cases hl)
    fun sl sl' hn => by
      obtain ⟨-, -, -, phase⟩ := cancelAction_leaves hn
      rw [phase]
  have running := cancelSlots_anyRunning (tag := tag) u
  have armed := cancelSlots_anyArmed (tag := tag) u
  have free : ∀ i, u.slot i = none → (slotIds.foldl (State.cancelSlot tag) u).slot i = none := fun i hi => by
    rw [(cancelSlot_acts tag).slot, hi]; rfl
  generalize slotIds.foldl (State.cancelSlot tag) u = v at kept wf latching running armed free acted
  have own : SlotsOwn v := hul.own.keeps (walked.wf hw).1 wf.1 kept
  obtain ⟨follow, -⟩ := railsLegal_iff.mp hul.rails
  have driving : s.anyDriving = u.anyDriving := by
    rw [anyDriving_eq, anyDriving_eq, walked.anyArmed, walked.anyRunning]
  rw [driving] at acted
  generalize ht : s.cancelled tag = t at acted ⊢
  have rails : u.rails = s.rails := by rw [frame]
  have scan : u.scan = s.scan := by rw [frame]
  refine ⟨?_, ?_, ?_, ?_, fun hf => ?_, fun i => ?_, ?_, fun i hi => ?_⟩
  · rw [acted, holdIfLeft_frame]; show u.power = _; rw [frame]
  · rw [acted, holdIfLeft_frame]; show u.link.resetAsserted = _; rw [frame]
  · rw [acted, holdIfLeft_frame]; exact own.congr rfl rfl
  · rw [acted]
    exact railsFollow_holdIfLeft follow rfl (follow.scanning.trans running.symm) (fun hr => running.symm.trans hr)
      fun ha => ⟨armed ha, running⟩
  · rw [acted] at hf
    have before := holdIfLeft_fault _ hf
    exact rails ▸ before
  · rw [acted, holdIfLeft_frame]
    exact Iff.trans (latching i) (walked.latchingAt i)
  · rw [acted, holdIfLeft_frame]; exact passes
  · rw [acted, holdIfLeft_frame]
    exact free i (walked.free i hi)

/-- A trigger of a pass, as a CANCEL or a HALT makes one where it has ended something. -/
theorem PassReady.triggered {t : State} (h : PassReady s) {b : Bool}
    (due : t.sched.passDue = (s.sched.passDue || b && !s.suspended)) (hold : t.intake.hold = s.intake.hold)
    (state : t.rails.state = .fault → s.rails.state = .fault) : PassReady t := by
  cases b
  · exact h.congr (by simpa using due) hold state
  · exact h.trigger.congr due hold state

theorem PassLegal.cancelled (h : PassLegal s) (tag : Byte) : PassLegal (s.cancelled tag) := by
  have hu := cancelFrom_walkedOn s tag
  have hul := h.walkedOn hu
  have susp := hu.suspended
  have frame := hu.frame
  have acted := cancelled_eq s tag
  unfold State.cancelActed at acted
  generalize s.cancelFrom tag = u at hu hul susp frame acted
  have due : s.sched.passDue = u.sched.passDue := by rw [frame]
  rw [due, ← susp] at acted
  obtain ⟨b, hb⟩ : ∃ b, (s.cancelled tag).sched.passDue = (u.sched.passDue || b && !u.suspended) :=
    ⟨_, by rw [acted, holdIfLeft_frame]⟩
  have ready : PassReady (s.cancelled tag) := by
    refine hul.ready.triggered hb ?_ fun hf => ?_
    · rw [acted, holdIfLeft_frame]
    · rw [acted] at hf
      have before := holdIfLeft_fault _ hf
      exact before
  refine ⟨ready.due, ready.waiting, fun hh => ?_⟩
  rw [acted, holdIfLeft_frame] at hh ⊢
  exact hul.running hh

/-- A request that a CANCEL leaves is still examined. -/
theorem examined_cancelled {t : State} (hr : t.sched.requests = s.sched.requests.filter fun r => r.tag ≠ tag)
    {r : Request} (he : s.examined = some r) (ht : r.tag ≠ tag) : t.examined.isSome = true := by
  unfold State.examined at he ⊢
  rw [hr, List.find?_isSome]
  exact ⟨r, List.mem_filter.mpr ⟨List.mem_of_find?_eq_some he, by simpa using ht⟩, List.find?_some he⟩

theorem keepsInRun_cancelTag (s : State) (tag : Byte) : KeepsInRun s (s.cancelTag tag) := by
  refine ⟨fun hw hl hp => ?_, fun hl => ?_⟩
  · have facts := hl.cancelled hw hp tag
    have released : (s.cancelled tag).link.resetAsserted ≠ true := by rw [facts.asserted]; exact hl.released hp
    rw [cancelTag_eq]
    split
    · rename_i hx
      obtain ⟨⟨todo, found, hpass⟩, -⟩ := (examining_iff s tag).mp hx
      have reading : ∀ i todo, s.sched.pass ≠ some (.latching i todo) := by
        rcases hpass with e | e <;> simp [e]
      have sound : s.rails.state ≠ .fault := by
        rcases hpass with e | e <;> exact hl.rails.sound e
      refine Between.continues (s := s.cancelled tag) ⟨facts.power.trans hp, released, facts.own, facts.rails,
        fun hf => sound (facts.fault hf), fun i sl hs hlatch => ?_⟩ rfl
      obtain ⟨sl', hs', hl'⟩ := (facts.latching i).mp ⟨sl, hs, hlatch⟩
      obtain ⟨todo, e⟩ := hl.waits.latching i sl' hs' hl'
      exact reading i todo e
    · rename_i hx
      refine .inRun (facts.power.trans hp) released facts.own
        (hl.waits.walks facts.latching facts.pass fun hpass hlatch he => ?_)
        (railsLegal_iff.mpr ⟨facts.rails, fun hf => ?_⟩)
      · obtain ⟨r, hr⟩ := Option.isSome_iff_exists.mp he
        refine examined_cancelled (tag := tag) (by rw [cancelled_frame]; rfl) hr fun ht => hx ?_
        simp [hpass, hlatch, hr, ht]
      · obtain ⟨noPass, free⟩ := hl.rails.fault (facts.fault hf)
        exact ⟨by simpa [noPass] using facts.pass, fun i => facts.free i (free i)⟩
  · rw [cancelTag_eq]
    exact ite_holds (hl.cancelled tag).ready.continuePass (hl.cancelled tag)

theorem execCancel_keeps (s : State) (body : Bytes) : AnswersKept s (execCancel body s) :=
  .next (keeps_express fun u => ite_holds (Serves.keepsInRun (.same rfl)) (keepsInRun_cancelTag u _))

end Cancel

/-! ### HALT and FAULT (R126, R127, R144) -/

section Cut

variable {s : State}

theorem Lawful.ownersLegal (h : Lawful s) (hw : Store.wf PixelRec.initial s.store.pixels) : OwnersLegal s :=
  (ownersLegal_iff hw.1).mpr ⟨h.own, h.waits⟩

/-- With every slot FREE and every pixel given up no pass waits. -/
theorem Lawful.emptied {t : State} (power : t.power = .run) (released : t.link.resetAsserted ≠ true)
    (owner : ∀ k, (t.pixel k).owner = none) (free : ∀ i, t.slot i = none) (noPass : t.sched.pass = none)
    (rails : RailsFollow t) : Lawful t := by
  refine .inRun power released (slotsOwn_of_unowned owner free) ⟨fun i sl hs => ?_, fun i todo hp => ?_, fun hp => ?_⟩
    (railsLegal_iff.mpr ⟨rails, fun _ => ⟨noPass, free⟩⟩)
  · rw [free i] at hs; cases hs
  · rw [noPass] at hp; cases hp
  · rw [noPass] at hp; cases hp

theorem Lawful.haltAll (h : Lawful s) (hw : Store.wf PixelRec.initial s.store.pixels) (hp : s.power = .run) :
    Lawful s.haltAll := by
  have owner := (cutSlots_givenUp (h.ownersLegal hw) hw).owner
  have free := cutSlots_slot s
  have rails : s.cutSlots.rails = s.rails := by rw [cutSlots_frame]
  have link : s.cutSlots.link = s.link := by rw [cutSlots_frame]
  have power : s.cutSlots.power = s.power := by rw [cutSlots_frame]
  rw [haltAll_dismisses]
  generalize hc : ({ s.cutSlots with
    intake := { s.cutSlots.intake with hold := (atCut s).intake.hold.afterPass }
    ev := told (atCut s) (cutOutcomes (atCut s) ++ s.sched.requests.map fun r => requestOutcome r .cancelled)
    sched := { s.cutSlots.sched with
      requests := [], pass := none, passDue := (s.sched.passDue || s.anyBusy) && !s.suspended }
    scan := none } : State) = c
  have cfree : ∀ i, c.slot i = none := fun i => hc ▸ free i
  have crails : c.rails = s.rails := hc ▸ rails
  have cscan : c.scan = none := hc ▸ rfl
  have still : c.anyRunning = false := anySlot_of_free cfree _
  have unarmed : c.anyArmed = false := anySlot_of_free cfree _
  have follow : RailsFollow (c.holdIfLeft s.anyDriving) :=
    railsFollow_holdIfLeft (railsLegal_iff.mp h.rails).1 crails (by rw [cscan, still]; rfl) (by simp [still])
      (by simp [unarmed])
  refine .emptied ?_ ?_ (fun k => ?_) (fun i => ?_) ?_ follow
  · rw [holdIfLeft_frame]; exact hc ▸ power.trans hp
  · rw [holdIfLeft_frame]; exact hc ▸ link ▸ h.released hp
  · rw [holdIfLeft_frame]; exact hc ▸ owner k
  · rw [holdIfLeft_frame]; exact cfree i
  · rw [holdIfLeft_frame]; exact hc ▸ rfl

/-- Slots that are ended leave what passes rest on. -/
theorem PassReady.cutSlots (h : PassLegal s) : PassReady s.cutSlots := by
  have hu := h.walkedOn (atCut_walkedOn s)
  rw [cutSlots_eq, cutSlotList_frame]
  exact hu.ready.congr rfl rfl id

theorem PassLegal.haltAll (h : PassLegal s) : PassLegal s.haltAll := by
  have cut := PassReady.cutSlots h
  have triggered : PassReady (if s.anyBusy then s.cutSlots.trigger else s.cutSlots) := ite_holds cut.trigger cut
  unfold State.haltAll
  dsimp only
  generalize (if s.anyBusy then s.cutSlots.trigger else s.cutSlots) = c at triggered ⊢
  have told : PassReady { c.sched.requests.foldl (fun s r => s.notify r.notify (r.notice .cancelled none))
      (c.setRequests []) with scan := none } := by
    rw [tellRequests_eq]; exact triggered.congr rfl rfl id
  have ended := told.endPass
  generalize State.endPass _ = e at ended ⊢
  have fault := holdIfLeft_fault (s := e) s.anyDriving
  have held := holdIfLeft_frame e s.anyDriving
  generalize e.holdIfLeft s.anyDriving = t at fault held ⊢
  obtain ⟨hdue, hwaiting⟩ := ended.ready.congr (t := t) (by rw [held]) (by rw [held]) fault
  exact ⟨hdue, hwaiting, fun hh => by rw [held] at hh ⊢; exact ended.running hh⟩

theorem execHalt_keeps (s : State) (body : Bytes) : AnswersKept s (execHalt body s) :=
  .next (keeps_express fun _ => ite_holds (Serves.keepsInRun (.same rfl))
    ⟨fun hw hl hp => hl.haltAll hw hp, PassLegal.haltAll⟩)

theorem Hold.afterFault_ne_update (h : Hold) (begun : Bool) : h.afterFault ≠ .update begun := by
  unfold Hold.afterFault
  split
  · simp
  · rename_i hn; exact hn begun

/-- The entry to FAULT ends every slot and the pass, and frees an UPDATE (R112, R127, R144). -/
theorem keepsInRun_enterFault (s : State) : KeepsInRun s s.enterFault := by
  have frame := enterFault_frame s
  have built := (enterFault_eq s).trans (freeUpdate_always_eq _)
  refine ⟨fun hw hl hp => ?_, fun _ => ?_⟩
  · have legal : OwnersLegal s.failing :=
      (ownersLegal_iff (s := s.failing) hw.1).mpr ⟨hl.own.congr rfl rfl, hl.waits.congr rfl rfl rfl⟩
    have owner := (cutSlots_givenUp legal hw).owner
    have free := cutSlots_slot s.failing
    have towner : ∀ k, (s.enterFault.pixel k).owner = none := by rw [built]; exact owner
    have tfree : ∀ i, s.enterFault.slot i = none := by rw [built]; exact free
    generalize s.enterFault = t at frame towner tfree ⊢
    have rails := railsLegal_fault (s := t) (by rw [frame]) (by rw [frame]) (by rw [frame]) (by rw [frame])
      (by rw [frame]) (by rw [frame]) tfree
    exact .emptied (by rw [frame]; exact hp) (by rw [frame]; exact hl.released hp) towner tfree (by rw [frame])
      (railsLegal_iff.mp rails).1
  · have due : s.enterFault.sched.passDue = false := by rw [frame]
    have hold : ∀ begun, s.enterFault.intake.hold ≠ .update begun := by
      rw [built]; exact Hold.afterFault_ne_update _
    exact ⟨fun h => absurd (due.symm.trans h) (by simp), fun h => absurd h (hold _), fun h => absurd h (hold _)⟩

end Cut

/-! ### The soft reset (R168) -/

section Reset

variable {s : State}

theorem railsFollow_resetRails (h : RailsFollow s) {t : State} (hr : t.rails = s.resetRails.rails)
    (hs : t.scan = none) (free : ∀ i, t.slot i = none) : RailsFollow t := by
  have still : t.anyRunning = false := anySlot_of_free free _
  have unarmed : t.anyArmed = false := anySlot_of_free free _
  have driving : t.anyDriving = false := by rw [anyDriving_eq, still, unarmed]; rfl
  cases hstate : s.rails.state with
  | falling =>
    have kept : t.rails = s.rails := by rw [hr]; unfold State.resetRails; rw [hstate]
    obtain ⟨-, -, -, h4, h5, h6⟩ := h
    rw [← kept] at h4 h5 h6
    have down : t.rails.state = .falling := by rw [kept, hstate]
    exact ⟨by rw [hs, still]; rfl, by simp [still], by simp [unarmed], by simpa [down] using h4, h5, h6⟩
  | rising | on | off | fault =>
    refine ⟨?_, ?_, ?_, ?_, ?_, ?_⟩ <;>
      simp [hr, State.resetRails, hstate, hs, still, unarmed, driving, State.enterFalling]

theorem keepsInRun_softReset (s : State) (keep : Bool) : KeepsInRun s (s.softReset keep) := by
  obtain ⟨cut, n, -, e⟩ := softReset_blocks s keep
  generalize s.softReset keep = t at e ⊢
  have slots : t.sched.slots = State.reset.sched.slots := by rw [e]; rfl
  have free : ∀ i, t.slot i = none := fun i => (slot_of_slots slots i).trans (reset_slot i)
  have noPass : t.sched.pass = none := by rw [e]; rfl
  have due : t.sched.passDue = false := by rw [e]; rfl
  have hold : t.intake.hold = if s.intake.hold = .reinit then .reinit else .free := by rw [e]
  have never : ∀ begun, t.intake.hold ≠ .update begun := fun begun => by rw [hold]; split <;> simp
  refine ⟨fun hw hl hp => ?_, fun _ => ⟨fun h => absurd (due.symm.trans h) (by simp), fun h => absurd h (never _),
    fun h => absurd h (never _)⟩⟩
  obtain ⟨given, -⟩ := settlePixels_pixels (hl.ownersLegal hw) hw
  refine .emptied (by rw [e]; exact hp) (by rw [e]; exact hl.released hp) (fun k => ?_) free noPass
    (railsFollow_resetRails (railsLegal_iff.mp hl.rails).1 (by rw [e]) (by rw [e]) free)
  have pixel : t.pixel k = s.settlePixels.pixel k := by unfold State.pixel; rw [e]
  rw [pixel]; exact (given k).1

theorem resetRecord_keeps (s : State) (option : Nat) (keep : Bool) (body : Bytes) :
    Keeps s (s.resetRecord option keep body) :=
  ite_holds (.refl s) (keeps_express fun u => ite_holds (Serves.keepsInRun (.same rfl))
    (ite_holds (Serves.keepsInRun (.same rfl)) (keepsInRun_softReset u keep)))

end Reset

end Sys2Proof.Machine
end

section
/-! SUPPORT. The rails, the panel and UPDATE keep owners, slots, rails and passes (R7 to R9, R110, R138 to R145); and
with them every command. -/

namespace Sys2Proof.Machine

/-! ### The rails (R138 to R145) -/

section Rails

variable {s t : State}

/-- What a rail transition leaves: pixels, requests, the pass, the power state and the reset line. -/
def State.base (s : State) : List (Nat × PixelRec) × List Request × Option Pass × Power × Bool :=
  (s.store.pixels, s.sched.requests, s.sched.pass, s.power, s.link.resetAsserted)

/-- The rails move, and a frame may start, with the rails not in FAULT. -/
theorem Lawful.moveRails (h : Lawful s) (hw : Store.wf PixelRec.initial s.store.pixels) (hp : s.power = .run)
    (base : t.base = s.base)
    (slots : t.sched.slots = s.sched.slots ∨ ∀ i, t.slot i = (s.slot i).map Slot.start)
    (follow : RailsFollow t) (sound : t.rails.state ≠ .fault) : Lawful t := by
  simp only [State.base, Prod.mk.injEq] at base
  obtain ⟨pixels, requests, pass, power, asserted⟩ := base
  have own : SlotsOwn t := slots.elim (h.own.congr pixels) (h.own.starts hw pixels)
  have latching : ∀ i, t.latchingAt i ↔ s.latchingAt i := fun i => by
    unfold State.latchingAt
    rcases slots with e | e
    · rw [slot_of_slots e]
    · rw [e]; simp [start_phase_latching]
  exact .inRun (power.trans hp) (asserted ▸ h.released hp) own
    (h.waits.walks latching (by rw [pass]) fun _ _ he => by rw [examined_of_requests requests]; exact he)
    (railsLegal_iff.mpr ⟨follow, fun hf => absurd hf sound⟩)

/-- Rails that move, but not into FAULT, leave what passes rest on. -/
theorem PassLegal.moveRails (h : PassLegal s) (due : t.sched.passDue = s.sched.passDue)
    (pass : t.sched.pass = s.sched.pass) (hold : t.intake.hold = s.intake.hold)
    (sound : t.rails.state ≠ .fault) : PassLegal t := by
  obtain ⟨hdue, hwaiting⟩ := h.ready.congr due hold fun hf => absurd hf sound
  exact ⟨hdue, hwaiting, fun hh => by rw [pass]; exact h.running (hold ▸ hh)⟩

theorem reachOn_slots (s : State) :
    s.reachOn.sched.slots = s.sched.slots ∨ ∀ i, s.reachOn.slot i = (s.slot i).map Slot.start := by
  unfold State.reachOn
  dsimp only
  split
  · exact .inr (State.startFrame_slot _)
  · rw [startHold_eq]; exact .inl rfl

theorem enterRising_slots (s : State) :
    s.enterRising.sched.slots = s.sched.slots ∨ ∀ i, s.enterRising.slot i = (s.slot i).map Slot.start := by
  unfold State.enterRising
  dsimp only
  split
  · exact reachOn_slots _
  · exact .inl rfl

theorem setPgood_idle (s : State) (level : Bool) : Idle s (s.setPgood level) := .same rfl rfl rfl rfl

theorem execPgoodAsserted_keeps (s : State) : AnswersKept s (execPgoodAsserted s) := by
  refine .next ?_
  split
  · rename_i hr
    have sound : (s.setPgood true).reachOn.rails.state ≠ .fault := reachOn_no_fault
    refine KeepsInRun.keeps ⟨fun hw hl hp => ?_, fun hl => ?_⟩ fun hl => hl.run_of_rails (by simp [hr])
    · have follow := (railsLegal_iff.mp ((setPgood_idle s true).lawful hl).rails).1
      have rising : (s.setPgood true).rails.state = .rising := hr
      refine hl.moveRails hw hp ?_ (reachOn_slots (s.setPgood true))
        (railsFollow_reachOn (follow.unpowered (by rw [rising]; simp) (by rw [rising]; simp))) sound
      rw [reachOn_frame]; rfl
    · refine hl.moveRails ?_ ?_ ?_ sound <;> rw [reachOn_frame] <;> rfl
  · exact (setPgood_idle s true).keeps

theorem execPgoodLost_keeps (s : State) : AnswersKept s (execPgoodLost s) := by
  refine .next ?_
  have level := setPgood_idle s false
  split
  · rename_i hr
    have fault := keepsInRun_enterFault (s.setPgood false)
    exact ⟨fun hw hl => fault.order hw (level.lawful hl) (hl.run_of_rails (by simp [hr])),
      fun hl => fault.pass (level.passLegal hl)⟩
  · exact level.keeps

theorem execRiseTimerExpiry_keeps (s : State) : AnswersKept s (execRiseTimerExpiry s) := by
  refine .next ?_
  split
  · rename_i h
    exact (keepsInRun_enterFault s).keeps fun hl => hl.run_of_rails (by simp [h.1])
  · exact .refl s

/-- The rails fall where nothing drives; a record may leave the queue with it (R141, R145). -/
theorem keepsInRun_enterFalling (idle : RailsFollow s → s.anyRunning = false) (hc : t.kept = s.kept)
    (hslots : t.sched.slots = s.sched.slots) : KeepsInRun s t.enterFalling := by
  simp only [State.kept, State.scene, Prod.mk.injEq] at hc
  obtain ⟨⟨pixels, -, requests, pass, scan, -, -, -, -, power, asserted⟩, due, hold⟩ := hc
  have sound : t.enterFalling.rails.state ≠ .fault := by simp [State.enterFalling]
  refine ⟨fun hw hl hp => hl.moveRails hw hp ?_ (.inl hslots) ?_ sound, fun hl => hl.moveRails due pass hold sound⟩
  · simp only [State.base, Prod.mk.injEq]
    exact ⟨pixels, requests, pass, power, asserted⟩
  · obtain ⟨follow, -⟩ := railsLegal_iff.mp hl.rails
    have running := idle follow
    refine railsFollow_enterFalling (scan.trans ?_) ((anySlot_of_slots hslots _).trans running)
    rw [← Option.not_isSome_iff_eq_none, follow.scanning, running]; simp

theorem execHoldTimerExpiry_keeps (s : State) : AnswersKept s (execHoldTimerExpiry s) := by
  refine .next ?_
  split
  · rename_i h
    refine (keepsInRun_enterFalling (t := s) (fun follow => ?_) rfl rfl).keeps
      fun hl => hl.run_of_rails (by simp [h.1])
    have idle := (follow.holding.mp h.2).2
    rw [anyDriving_eq] at idle
    exact (Bool.or_eq_false_iff.mp idle).2
  · exact .refl s

theorem execFallTimerExpiry_keeps (s : State) : AnswersKept s (execFallTimerExpiry s) := by
  refine .next ?_
  split
  · rename_i h
    obtain ⟨hr, -⟩ := h
    dsimp only
    generalize hu : ({ s with rails := { s.rails with state := .off, fall := none } } : State) = u
    have base : u.base = s.base := hu ▸ rfl
    have slots : u.sched.slots = s.sched.slots := hu ▸ rfl
    have rails : u.rails = { s.rails with state := .off, fall := none } := hu ▸ rfl
    have down : u.rails.state ≠ .fault := by simp [rails]
    have rises : (u.enterRising).rails.state ≠ .fault := enterRising_no_fault
    refine KeepsInRun.keeps ⟨fun hw hl hp => ?_, fun hl => ite_holds ?_ ?_⟩
      fun hl => hl.run_of_rails (by simp [hr])
    · obtain ⟨follow, -⟩ := railsLegal_iff.mp hl.rails
      obtain ⟨scan, running, hold⟩ := follow.still (by simp [hr])
      have uscan : u.scan = none := hu ▸ scan
      have urunning : u.anyRunning = false := (anySlot_of_slots slots _).trans running
      split
      · refine hl.moveRails hw hp (.trans ?_ base) ?_
          (railsFollow_enterRising ⟨uscan, urunning, by rw [rails]; exact hold, by rw [rails]⟩) rises
        · rw [enterRising_frame]; rfl
        · refine (enterRising_slots u).imp (fun e => e.trans slots) fun e i => ?_
          rw [e, slot_of_slots slots]
      · rename_i unarmed
        have rise := follow.noRise (by simp [hr])
        refine hl.moveRails hw hp base (.inl slots) ⟨?_, ?_, ?_, ?_, ?_, ?_⟩ down <;>
          simp [uscan, urunning, unarmed, rails, hold, rise]
    · refine hl.moveRails ?_ ?_ ?_ rises <;> rw [enterRising_frame] <;> exact hu ▸ rfl
    · exact hl.moveRails (hu ▸ rfl) (hu ▸ rfl) (hu ▸ rfl) down
  · exact .refl s

/-- A RAILCTL is handed on only by a Dispatcher that is free (R158). -/
theorem keeps_withRailctl (action : Nat) (act : s.intake.hold = .free → KeepsInRun s t) :
    Keeps s (s.withRailctl action t) := by
  have stays : KeepsInRun s s := (Keeps.refl s).inRun
  have refused : ∀ r, KeepsInRun s (s.refuseHead .railctl r) := fun _ => Serves.keepsInRun (.same rfl)
  unfold State.withRailctl
  refine keepsInRun_withHead ?_
  rcases withHead_cases s .railctl _ with ⟨-, e⟩ | ⟨body, rest, ⟨-, hold, -⟩, e⟩ <;> rw [e]
  · exact stays
  · exact ite_holds (refused _) (ite_holds (refused _) (ite_holds stays (act hold)))

theorem execRailctlOff_keeps (s : State) : AnswersKept s (execRailctlOff s) :=
  .next (keeps_withRailctl 0 fun _ => by
    have popped : KeepsInRun s s.pop := Serves.keepsInRun (.same rfl)
    split
    · exact (Keeps.refl s).inRun
    · rename_i busy
      have free := anyBusy_eq_false_iff.mp (Bool.eq_false_iff.mpr busy)
      have falls : KeepsInRun s s.pop.enterFalling :=
        keepsInRun_enterFalling (fun _ => anySlot_of_free free _) rfl rfl
      split
      · exact falls
      · exact falls
      all_goals exact popped)

/-- Rails that leave FAULT are OFF, and a pass is triggered (R112, R144). -/
theorem execRailctlClear_keeps (s : State) : AnswersKept s (execRailctlClear s) :=
  .next (keeps_withRailctl 1 fun hold => by
    split
    · rename_i hr
      refine ⟨fun hw hl hp => ?_, fun hl => ⟨fun _ => ⟨by simp [State.endSuspension], ?_⟩, fun _ => ?_, fun h => ?_⟩⟩
      · obtain ⟨follow, -⟩ := railsLegal_iff.mp hl.rails
        obtain ⟨-, free⟩ := hl.rails.fault hr
        obtain ⟨scan, -, noHold, noFall⟩ := follow.unpowered (by simp [hr]) (by simp [hr])
        have noRise := follow.noRise (by simp [hr])
        refine hl.moveRails hw hp rfl (.inl rfl) (railsLegal_iff.mp ?_).1 (by simp [State.endSuspension])
        exact railsLegal_off rfl noRise noHold noFall scan free
      · show s.intake.hold ≠ _
        rw [hold]; simp
      · simp [State.endSuspension]
      · exact absurd (hold.symm.trans h) (by simp)
    · exact Serves.keepsInRun (.same rfl))

end Rails

/-! ### The panel and UPDATE (R7 to R9, R109, R110) -/

section Panel

variable {s : State}

/-- The end of a suspension triggers a pass, but none in FAULT (R112). -/
theorem PassLegal.endSuspension (h : PassLegal s) (hold : s.intake.hold = .free) : PassLegal s.endSuspension := by
  refine ⟨fun hd => ⟨?_, ?_⟩, fun hh => absurd (hold.symm.trans hh) (by simp),
    fun hh => absurd (hold.symm.trans hh) (by simp)⟩
  · rcases (Bool.or_eq_true ..).mp hd with hd | hd
    · exact (h.due hd).1
    · simpa using hd
  · show s.intake.hold ≠ _
    rw [hold]; simp

theorem execReinitEnd_keeps (s : State) : AnswersKept s (execReinitEnd s) := by
  refine .next ?_
  split
  · rename_i hh
    refine KeepsInRun.keeps ⟨fun _ hl hp => hl.sameScene rfl fun hn => absurd hp hn, fun hl => ?_⟩
      fun hl => hl.run_of_hold (by simp [hh])
    exact PassLegal.endSuspension (hl.apart (t := s.setHold .free) rfl (by simp [Hold.apart]) rfl) rfl
  · exact .refl s

/-- A geometry change finds no slot busy and no pass due, and clears every pixel (R9). -/
theorem keepsInRun_geometryChange (p : Panel) (free : ∀ i, s.slot i = none) (due : s.sched.passDue = false) :
    KeepsInRun s (s.pop.geometryChange p) := by
  refine ⟨fun _ hl hp => hl.still free rfl rfl rfl (.inr rfl) (fun hn => absurd hp hn) hl.asserted, fun _ => ?_⟩
  exact ⟨fun h => absurd (due.symm.trans h) (by simp), fun h => (by cases h), fun h => (by cases h)⟩

theorem execPanelset_keeps (s : State) : AnswersKept s (execPanelset s) := by
  have stays : KeepsInRun s s := (Keeps.refl s).inRun
  refine .next (keepsInRun_withHead ?_)
  rcases withHead_cases s .panelset _ with ⟨-, e⟩ | ⟨body, rest, ⟨-, hold, -⟩, e⟩ <;> rw [e]
  · exact stays
  · split
    · exact Serves.keepsInRun (.same rfl)
    · rename_i p _
      split
      · exact stays
      · rename_i hwait
        obtain ⟨hbusy, due⟩ := Bool.or_eq_false_iff.mp (Bool.eq_false_iff.mpr hwait)
        obtain ⟨hbusy, -⟩ := Bool.or_eq_false_iff.mp hbusy
        obtain ⟨hbusy, -⟩ := Bool.or_eq_false_iff.mp hbusy
        refine ite_holds ⟨fun _ hl hp => hl.sameScene rfl fun hn => absurd hp hn, fun hl => ?_⟩
          (keepsInRun_geometryChange p (anyBusy_eq_false_iff.mp hbusy) due)
        exact PassLegal.endSuspension (hl.congr (t := s.pop.setPanel p) rfl rfl rfl rfl) hold

/-- An UPDATE that joins leaves the request that a pass examines, and triggers the pass it waits for (R110, R112). -/
theorem keepsInRun_joinRequest (r : Request) : KeepsInRun s (s.pop.joinRequest r) := by
  refine ⟨fun _ hl hp => .inRun hp (hl.released hp) (hl.own.congr rfl rfl)
    (hl.waits.walks (fun _ => Iff.rfl) rfl fun _ _ he => ?_) (hl.rails.congr rfl rfl rfl rfl rfl rfl fun _ => rfl),
    fun hl => ?_⟩
  · have joined : (s.pop.joinRequest r).examined = (s.sched.requests ++ [r]).find? Request.due := rfl
    rw [joined, List.find?_append]
    exact Option.isSome_or.trans (by rw [show List.find? Request.due s.sched.requests = s.examined from rfl, he]; rfl)
  · have held : (s.pop.joinRequest r).intake.hold = s.updateHold := rfl
    have rails : (s.pop.joinRequest r).rails = s.rails := rfl
    have hold : s.updateHold = if s.rails.state = .fault then .free else .update false := rfl
    generalize hq : ({ s.pop with sched := { s.sched with requests := s.sched.requests ++ [r] } } : State).setHold
      s.updateHold = q
    have trigger : s.pop.joinRequest r = q.trigger := hq ▸ rfl
    have qdue : q.sched.passDue = s.sched.passDue := hq ▸ rfl
    have qhold : q.intake.hold = s.updateHold := hq ▸ rfl
    have qrails : q.rails = s.rails := hq ▸ rfl
    have due : (s.pop.joinRequest r).sched.passDue = (s.sched.passDue || !q.suspended) := by rw [trigger, ← qdue]; rfl
    have never : ∀ begun, s.updateHold = .update begun → begun = false ∧ s.rails.state ≠ .fault := by
      intro begun h
      rw [hold] at h
      split at h
      · cases h
      · rename_i sound
        cases h
        exact ⟨rfl, sound⟩
    refine ⟨fun hd => ?_, fun hh => ?_, fun hh => absurd (never _ (held ▸ hh)).1 (by simp)⟩
    · rw [due, Bool.or_eq_true] at hd
      refine ⟨?_, ?_⟩
      · rw [rails]
        rcases hd with hd | hd
        · exact (hl.due hd).1
        · have going : q.suspended ≠ true := by simpa using hd
          rw [Ne, suspended_eq_true] at going
          exact fun e => going (.inl (qrails ▸ e))
      · rw [held, hold]; split <;> simp
    · obtain ⟨-, sound⟩ := never _ (held ▸ hh)
      have waiting : q.intake.hold = .update false := qhold.trans (held ▸ hh)
      have going : q.suspended ≠ true := by
        rw [Ne, suspended_eq_true]
        rintro (e | e | ⟨body, rest, p, ⟨-, free, -⟩, -⟩)
        · exact sound (qrails ▸ e)
        · rw [waiting] at e; cases e
        · rw [waiting] at free; cases free
      rw [due, Bool.eq_false_iff.mpr going]; simp

theorem execUpdate_keeps (s : State) : AnswersKept s (execUpdate s) := by
  have stays : KeepsInRun s s := (Keeps.refl s).inRun
  refine .next (keepsInRun_withHead (withHead_holds ⟨stays, fun _ _ => Serves.keepsInRun (.same rfl)⟩ fun _ => ?_))
  split
  · exact Serves.keepsInRun (.same rfl)
  · exact ite_holds (Serves.keepsInRun (.same (notify_kept s.pop ..))) (ite_holds stays (keepsInRun_joinRequest _))

end Panel

/-! ### Every command -/

theorem exec_keeps (c : Instr) (s : State) : AnswersKept s (exec c s) := by
  cases c with
  | pinReset => exact execPinReset_keeps s
  | resetNRelease a0 a1 => exact execResetNRelease_keeps s a0 a1
  | startingEnd => exact execStartingEnd_keeps s
  | headerDecode counted target kind length => exact execHeaderDecode_keeps s counted target kind length
  | recordReceived body => exact execRecordReceived_keeps s body
  | framingError cut => exact execFramingError_keeps s cut
  | unknownKind => exact execUnknownKind_keeps s
  | fill => exact execFill_keeps s
  | text => exact execText_keeps s
  | hilite => exact execHilite_keeps s
  | copy => exact execCopy_keeps s
  | clippush => exact execClippush_keeps s
  | clippop => exact execClippop_keeps s
  | clipreset => exact execClipreset_keeps s
  | drawEnd => exact execDrawEnd_keeps s
  | fontdef => exact keeps_withTable s fun _ => by split <;> rfl
  | fontdrop => exact keeps_withTable s fun _ => by split <;> rfl
  | glyphput => exact keeps_withTable s fun _ => by split <;> rfl
  | glyphWriteEnd => exact execGlyphWriteEnd_keeps s
  | glyphdrop => exact keeps_withTable s fun _ => by split <;> rfl
  | kernload => exact keeps_withTable s fun _ => by split <;> rfl
  | styleset => exact keeps_withTable s fun _ => by split <;> rfl
  | wavebegin => exact execWavebegin_keeps s
  | waveput => exact execWaveput_keeps s
  | wavecommit => exact execWavecommit_keeps s
  | update => exact execUpdate_keeps s
  | admissionPass => exact execAdmissionPass_keeps s
  | latchEnd => exact execLatchEnd_keeps s
  | frameEnd => exact execFrameEnd_keeps s
  | cancel body => exact execCancel_keeps s body
  | halt body => exact execHalt_keeps s body
  | panelset => exact execPanelset_keeps s
  | reinitEnd => exact execReinitEnd_keeps s
  | railctlOff => exact execRailctlOff_keeps s
  | railctlClear => exact execRailctlClear_keeps s
  | pgoodAsserted => exact execPgoodAsserted_keeps s
  | pgoodLost => exact execPgoodLost_keeps s
  | riseTimerExpiry => exact execRiseTimerExpiry_keeps s
  | holdTimerExpiry => exact execHoldTimerExpiry_keeps s
  | fallTimerExpiry => exact execFallTimerExpiry_keeps s
  | tempsetFixed => exact execTempsetFixed_keeps s
  | tempsetSensor => exact execTempsetSensor_keeps s
  | sampleIntervalExpiry => exact execSampleIntervalExpiry_keeps s
  | sensorReadEnd raw => exact keeps_sensor s (recomputeBand_kept _)
  | sensorNoAck => exact keeps_sensor s (failRead_kept s _)
  | sensorReadTimeout => exact keeps_sensor s (failRead_kept s.useFree _)
  | evmask => exact execEvmask_keeps s
  | evclear => exact execEvclear_keeps s
  | readGlyph => exact execReadGlyph_keeps s
  | readGlyphEnd => exact execReadGlyphEnd_keeps s
  | readKern => exact execReadKern_keeps s
  | readStyle => exact execReadStyle_keeps s
  | readWave => exact execReadWave_keeps s
  | readResidue => exact execReadResidue_keeps s
  | readPixels => exact execReadPixels_keeps s
  | readPixelsEnd => exact execReadPixelsEnd_keeps s
  | sleep => exact execSleep_keeps s
  | sleepDeep => exact execSleepDeep_keeps s
  | wake body => exact execWake_keeps s body
  | wakingEnd => exact execWakingEnd_keeps s
  | reset body => exact .next (resetRecord_keeps s 0 false body)
  | resetKeepTables body => exact .next (resetRecord_keeps s 1 true body)
  | fetchlive => exact execFetchlive_keeps s
  | fetchqueue => exact execFetchqueue_keeps s
  | resolutionPixelReadsEnd => exact execResolutionPixelReadsEnd_keeps s

theorem step_keeps {s t : State} (h : step s = .next t) : Keeps s t := by
  unfold step at h
  split at h
  · injection h with h
    exact h ▸ .refl s
  · rename_i i rest _
    have waiting : Idle s { s with pending := rest } := .same rfl rfl rfl rfl
    have keeps := exec_keeps i { s with pending := rest } t h
    exact ⟨fun hw hl => keeps.order hw (waiting.lawful hl), fun hl => keeps.pass (waiting.passLegal hl)⟩

/-- Settles O57: owners and slots agree pixel by pixel (`SlotsOwn`), the rails follow the slots that drive
(`RailsFollow`), outside RUN nothing is in progress, and a pass that is due can begin (`PassReady`); every command keeps
them together (`exec_keeps`). -/
theorem stepKeepsOwnersAndRails : Obligations.StepKeepsOwnersAndRails := by
  refine ⟨fun s t hl h => (step_keeps h).pass hl, fun s t stores owners rails quiet asserted h => ?_⟩
  have canonical := (step_preserves h).stores stores
  obtain ⟨own, waits⟩ := (ownersLegal_iff stores.pixels.1).mp owners
  have lawful := (step_keeps h).order stores.pixels ⟨own, waits, rails, quiet, asserted⟩
  exact ⟨(ownersLegal_iff canonical.pixels.1).mpr ⟨lawful.own, lawful.waits⟩, lawful.rails, lawful.quiet,
    lawful.asserted⟩

end Sys2Proof.Machine
end

section
/-! SUPPORT. The capacities of the intake, reply and request queues (R111, R156, R161), as a relation of the states
before and after a command (`StaysWithin`): only header decode, a notice, a READ and an UPDATE add to a queue, each
where it has room. -/

namespace Sys2Proof.Machine

open Host (Outcome)

/-! ### What the capacities bound -/

/-- Intake bytes used or reserved, replies queued or reserved, and pending requests. -/
def State.backlog (s : State) : Nat × Nat × Nat :=
  (s.intakeUsed, s.ev.replies.length + s.reserved, s.sched.requests.length)

/-- `t` is within the capacities where `s` is. -/
def StaysWithin (s t : State) : Prop := QueuesBounded s → QueuesBounded t

/-- The intake bytes that a record in reception has reserved (R156). -/
def Rx.space (rx : Rx) : Nat := if rx.disp = .reserved then 4 + rx.length else 0

theorem intakeUsed_eq (s : State) : s.intakeUsed =
    (s.intake.queue.map fun r => 4 + r.body.length).sum + (s.link.rx.map Rx.space).getD 0 := by
  unfold State.intakeUsed
  generalize s.link.rx = rx
  rcases rx with _ | ⟨_, _, _, _, disp⟩
  · rfl
  · cases disp <;> rfl

theorem queuesBounded_iff {s : State} : QueuesBounded s ↔ s.backlog ≤ (16384, 16, 24) :=
  ⟨fun ⟨intake, replies, requests⟩ => ⟨intake, replies, requests⟩,
    fun ⟨intake, replies, requests⟩ => ⟨intake, replies, requests⟩⟩

section Relation

variable {s t u : State}

theorem StaysWithin.of_le (h : t.backlog ≤ s.backlog) : StaysWithin s t := fun hs =>
  queuesBounded_iff.mpr (h.trans (queuesBounded_iff.mp hs))

theorem StaysWithin.same (h : t.backlog = s.backlog) : StaysWithin s t := .of_le h.le

theorem StaysWithin.trans (h : StaysWithin s t) (h' : StaysWithin t u) : StaysWithin s u := h' ∘ h

/-- A change that leaves the queues may come first. -/
theorem StaysWithin.after {s' : State} (h : StaysWithin s' t) (e : s'.backlog = s.backlog) : StaysWithin s t :=
  (StaysWithin.same e).trans h

/-- A change that leaves the queues may come last. -/
theorem StaysWithin.andThen (h : StaysWithin s t) (e : u.backlog = t.backlog) : StaysWithin s u := h.trans (.same e)

/-- What each step of a fold keeps, the fold does. -/
theorem StaysWithin.foldl {α : Type} {f : State → α → State} (h : ∀ s a, StaysWithin s (f s a)) (as : List α)
    (s : State) : StaysWithin s (as.foldl f s) := by
  induction as generalizing s with
  | nil => exact id
  | cons a as ih => exact (h s a).trans (ih _)

theorem backlog_congr (queue : t.intake.queue = s.intake.queue) (rx : t.link.rx = s.link.rx)
    (replies : t.ev.replies = s.ev.replies) (reserved : t.reserved = s.reserved)
    (requests : t.sched.requests.length = s.sched.requests.length) : t.backlog = s.backlog := by
  simp only [State.backlog, intakeUsed_eq, queue, rx, replies, reserved, requests]

/-! ### Records that leave, and transactions that end -/

/-- A record that leaves the intake queue frees its bytes (R156). -/
theorem pop_within (s : State) : StaysWithin s s.pop := by
  refine .of_le ⟨?_, le_rfl⟩
  simp only [State.backlog, intakeUsed_eq, State.pop_intake, State.pop_link]
  cases s.intake.queue <;> simp

/-- The head record has left, and nothing has joined a queue. -/
theorem StaysWithin.popped (h : t.backlog = s.pop.backlog) : StaysWithin s t := (pop_within s).andThen h

theorem unmoved_within (s : State) : Unmoved s (StaysWithin s) := ⟨.same rfl, fun _ _ => .popped rfl⟩

/-- A transaction that ends frees the space it has reserved (R153, R156). -/
theorem received_within (s : State) : StaysWithin s (s.setRx none) := by
  refine .of_le ⟨?_, le_rfl⟩
  simp only [State.backlog, intakeUsed_eq]
  exact Nat.add_le_add_left (Nat.zero_le _) _

theorem StaysWithin.received (h : t.backlog = (s.setRx none).backlog) : StaysWithin s t :=
  (received_within s).andThen h

theorem setFlagIf_backlog (s : State) (c : Bool) (f : Flag) : (s.setFlagIf c f).backlog = s.backlog := by
  cases c <;> rfl

theorem endUntaken_backlog (s : State) (rx : Rx) : (s.endUntaken rx).backlog = s.backlog := by
  unfold State.endUntaken
  split <;> rfl

theorem csRise_within {isKind : Byte → Bool} {body : Bytes} {f : Rx → State → State}
    (act : ∀ rx, s.link.rx = some rx → body.length = rx.length → StaysWithin s (f rx (s.setRx none))) :
    StaysWithin s (s.csRise isKind body f) := by
  rcases csRise_cases s isKind body f with e | ⟨rx, hrx, -, ⟨-, e⟩ | ⟨hl, e⟩⟩
  · rw [e]; exact .same rfl
  · rw [e]; exact .received (setFlagIf_backlog ..)
  · rw [e]; exact act rx hrx hl

theorem express_within {k : RecordKind} {body : Bytes} {f : State → State} (act : ∀ u, StaysWithin u (f u)) :
    StaysWithin s (s.express k body f) :=
  csRise_within fun rx _ _ => by
    split
    · exact (received_within s).trans (act _)
    · exact .received (endUntaken_backlog ..)

end Relation

/-! ### Notices (R130) -/

section Operations

variable (s : State)

theorem notify_intakeUsed (w : Bool) (n : Notice) : (s.notify w n).intakeUsed = s.intakeUsed := by
  rw [notify_frame]; rfl

theorem notify_reserved (w : Bool) (n : Notice) : (s.notify w n).reserved = s.reserved := by rw [notify_frame]; rfl

/-- A notice is queued only where the queue has room. -/
theorem notify_within (w : Bool) (n : Notice) : StaysWithin s (s.notify w n) := by
  rintro ⟨intake, replies, requests⟩
  refine ⟨(notify_intakeUsed s w n).trans_le intake, ?_, by rwa [State.notify_sched]⟩
  rw [notify_reserved, State.notify_ev]
  split
  · exact replies
  · split
    · exact replies
    · rename_i hroom
      have room : s.ev.replies.length + s.reserved < 16 := by
        rw [State.repliesFull, decide_eq_true_eq] at hroom
        exact not_le.mp hroom
      rw [List.length_append, List.length_singleton]
      omega

theorem told_within (os : List (Bool × Notice)) : StaysWithin s { s with ev := told s os } := by
  rw [← tell_eq]
  exact .foldl (fun s o => notify_within s o.1 o.2) os s

/-! ### The ends of slots (R122, R123) -/

theorem endSlot_within (i : Fin 16) (sl : Slot) (e : Ending) : StaysWithin s (s.endSlot i sl e) :=
  (notify_within (s.setSlot i none) _ _).after rfl

theorem abortSlot_within (i : Fin 16) (sl : Slot) : StaysWithin s (s.abortSlot i sl) :=
  (endSlot_within (s.setPixels _) i sl _).after rfl

theorem releaseSlot_within (i : Fin 16) (sl : Slot) (e : Ending) : StaysWithin s (s.releaseSlot i sl e) :=
  (endSlot_within (s.setPixels _) i sl _).after rfl

theorem completeSlot_within (i : Fin 16) (sl : Slot) : StaysWithin s (s.completeSlot i sl) :=
  (endSlot_within { s.setPixels _ with residue := _ } i sl _).after rfl

theorem cutSlot_within (i : Fin 16) : StaysWithin s (s.cutSlot i) := by
  unfold State.cutSlot
  split
  · exact .same rfl
  · exact ite_holds (abortSlot_within s i _) (releaseSlot_within s i _ _)

theorem frameSlot_within (i : Fin 16) : StaysWithin s (s.frameSlot i) := by
  unfold State.frameSlot
  split
  · exact .same rfl
  · split
    · exact .same rfl
    · exact .same rfl
    · exact ite_holds (completeSlot_within s i _) (ite_holds (abortSlot_within s i _) (.same rfl))

theorem cancelSlot_within (tag : Byte) (i : Fin 16) : StaysWithin s (s.cancelSlot tag i) := by
  unfold State.cancelSlot
  split
  · exact .same rfl
  · exact ite_holds (.same rfl) (ite_holds ((releaseSlot_within s i _ _).andThen rfl) (.same rfl))

/-! ### Walks (R15, R114, R118) -/

theorem ReadOn.reserved {s u : State} (h : ReadOn s u.intake.hold) : u.reserved = s.reserved := by
  unfold State.reserved
  rcases h.cases with e | ⟨r, r', e, e'⟩
  · rw [e]
  · rw [e, e']

theorem WalkedOn.backlog {s u : State} (h : WalkedOn s u) : u.backlog = s.backlog := by
  refine backlog_congr ?_ ?_ ?_ h.reserved ?_ <;> rw [h.frame]

theorem freeAdvanceRead_backlog : s.freeAdvanceRead.backlog = s.backlog := by
  obtain ⟨-, hr⟩ := freeAdvanceRead_on s
  refine backlog_congr ?_ ?_ ?_ hr.reserved ?_ <;> rw [freeAdvanceRead_frame]

theorem advancePass_backlog (n : Nat) : (s.advancePass n).backlog = s.backlog := by rw [advancePass_frame]; rfl

theorem cutSlots_within : StaysWithin s s.cutSlots := by
  rw [cutSlots_eq]
  exact (StaysWithin.foldl cutSlot_within slotIds _).after (atCut_walkedOn s).backlog

/-! ### Passes and requests (R110 to R115) -/

theorem endPass_backlog : s.endPass.backlog = s.backlog := by
  have places : s.endPass.reserved = s.reserved := by
    unfold State.reserved
    rw [endPass_eq]
    cases s.intake.hold with
    | update begun => cases begun <;> rfl
    | _ => rfl
  refine backlog_congr ?_ ?_ ?_ places ?_ <;> rw [endPass_eq]
  exact List.length_map ..

theorem freeUpdate_backlog (always : Bool) : (s.freeUpdate always).backlog = s.backlog := by
  unfold State.freeUpdate
  split
  · rename_i begun hh
    split
    · refine backlog_congr rfl rfl rfl ?_ rfl
      exact (reserved_of_free rfl).trans (by rw [State.reserved, hh])
    · rfl
  · rfl

theorem dropPass_backlog : s.dropPass.backlog = s.backlog :=
  backlog_congr rfl rfl rfl rfl (List.length_map ..)

/-- Fewer requests are pending. -/
theorem setRequests_within {rs rs' : List Request} (h : rs'.length ≤ rs.length) :
    StaysWithin (s.setRequests rs) (s.setRequests rs') := .of_le ⟨le_rfl, le_rfl, h⟩

theorem notify_setRequests (rs : List Request) (w : Bool) (n : Notice) :
    (s.setRequests rs).notify w n = (s.notify w n).setRequests rs := by
  rw [notify_frame, notify_frame s, notify_ev_congr (s := s) (t := s.setRequests rs) rfl rfl]; rfl

theorem examine_within (rest : List Request) : ∀ (s : State) (ahead : List Request),
    StaysWithin (s.setRequests (ahead ++ rest)) (s.examine ahead rest) := by
  induction rest with
  | nil => intro s ahead; exact .same ((endPass_backlog _).trans (by rw [List.append_nil]))
  | cons r behind ih =>
    intro s ahead
    have stands : ∀ q, StaysWithin (s.setRequests (ahead ++ r :: behind)) (s.setRequests (ahead ++ [q] ++ behind)) :=
      fun q => setRequests_within s (by simp)
    have leaves : StaysWithin (s.setRequests (ahead ++ r :: behind)) (s.setRequests (ahead ++ behind)) :=
      setRequests_within s (by simp)
    rw [State.examine]
    refine ite_holds ((stands r).trans (ih s _)) (ite_holds ?_ (ite_holds ?_ (ite_holds ?_ ?_)))
    · refine (leaves.trans (notify_within _ r.notify (r.notice .empty none))).trans ?_
      rw [notify_setRequests]
      exact ih _ ahead
    · exact .same (endPass_backlog _)
    · exact (stands _).trans (ih s _)
    · rw [beginReads_eq]; exact .same rfl

theorem continuePass_within : StaysWithin s s.continuePass := examine_within s.sched.requests s []

theorem dropFirstDue_length (rs : List Request) : (dropFirstDue rs).length ≤ rs.length := by
  induction rs with
  | nil => exact le_rfl
  | cons r rest ih =>
    unfold dropFirstDue
    split
    · exact Nat.le_succ _
    · exact Nat.succ_le_succ ih

theorem leaveFirstDue_length (rs : List Request) : (leaveFirstDue rs).length = rs.length := by
  induction rs with
  | nil => rfl
  | cons r rest ih =>
    unfold leaveFirstDue
    split
    · rfl
    · exact congrArg Nat.succ ih

theorem resolveAndAdmit_within (r : Request) (unknownSeen : Bool) :
    StaysWithin s (s.resolveAndAdmit r unknownSeen) := by
  have leaves : StaysWithin s (s.setRequests (dropFirstDue s.sched.requests)) :=
    setRequests_within s (dropFirstDue_length _)
  unfold State.resolveAndAdmit
  split
  · exact leaves.andThen rfl
  · exact (leaves.trans (notify_within _ _ _)).trans (continuePass_within _)
  · exact .same (endPass_backlog s)

/-- An UPDATE joins a queue that has room; the Dispatcher waits with no reply place reserved (R110). -/
theorem joinRequest_within {s : State} (hold : s.intake.hold = .free) (room : s.sched.requests.length < 24)
    (r : Request) : StaysWithin s (s.joinRequest r) := by
  rintro ⟨intake, replies, -⟩
  have places : (s.joinRequest r).reserved = s.reserved := by
    have held : (s.joinRequest r).intake.hold = s.updateHold := rfl
    rw [reserved_of_free hold]
    by_cases hf : s.rails.state = .fault <;> simp [State.reserved, held, State.updateHold, hf]
  refine ⟨intake, places ▸ replies, ?_⟩
  exact (List.length_append ..).trans_le room

/-! ### The latch end, CANCEL, HALT and FAULT (R119, R124, R126, R144) -/

theorem endLatch_within (i : Fin 16) : StaysWithin s (s.endLatch i) := by
  unfold State.endLatch
  split
  · exact .same rfl
  · rename_i sl _
    refine StaysWithin.after ?_ (setFlagIf_backlog s (decide (0 < sl.skipped)) .collide)
    refine ite_holds ((releaseSlot_within _ i _ _).andThen rfl)
      (ite_holds ((releaseSlot_within _ i _ _).andThen rfl) (.same ?_))
    rw [onArmed_frame]; rfl

theorem cancelRequests_within (tag : Byte) : StaysWithin s (s.cancelRequests tag) := by
  rw [cancelRequests_eq]
  exact (told_within s _).trans (.of_le ⟨le_rfl, le_rfl, List.length_filter_le ..⟩)

theorem holdIfLeft_backlog (before : Bool) : (s.holdIfLeft before).backlog = s.backlog := by
  rw [holdIfLeft_frame]; rfl

theorem cancelTag_within (tag : Byte) : StaysWithin s (s.cancelTag tag) := by
  have acted : StaysWithin s (s.cancelled tag) :=
    (((StaysWithin.foldl (cancelSlot_within · tag) slotIds _).after (cancelFrom_walkedOn s tag).backlog).trans
      (cancelRequests_within _ tag)).andThen (holdIfLeft_backlog _ _)
  rw [cancelTag_eq]
  exact ite_holds (acted.trans (continuePass_within _)) acted

theorem haltAll_within : StaysWithin s s.haltAll := by
  have triggered : StaysWithin s (if s.anyBusy then s.cutSlots.trigger else s.cutSlots) :=
    ite_holds ((cutSlots_within s).andThen rfl) (cutSlots_within s)
  refine (triggered.trans ?_).andThen (holdIfLeft_backlog _ _)
  generalize (if s.anyBusy then s.cutSlots.trigger else s.cutSlots) = u
  have emptied : StaysWithin u (u.setRequests []) := setRequests_within u (Nat.zero_le u.sched.requests.length)
  exact (emptied.trans (.foldl (fun s r => notify_within s _ _) u.sched.requests _)).andThen (endPass_backlog _)

theorem enterFault_within : StaysWithin s s.enterFault := by
  have cut : StaysWithin s s.failing.cutSlots := (cutSlots_within s.failing).after rfl
  rw [enterFault_eq]
  exact cut.andThen ((freeUpdate_backlog _ _).trans (dropPass_backlog _))

end Operations

/-! ### The commands -/

/-- Whatever state a command answers stays within the capacities. -/
def AnswersWithin (s : State) (o : Outcome State Fault Refusal) : Prop := ∀ t, o = .next t → StaysWithin s t

theorem AnswersWithin.next {s t : State} (h : StaysWithin s t) : AnswersWithin s (.next t) := fun u e => by
  injection e with e; exact e ▸ h

section Commands

variable (s : State)

/-! #### The Link Port (09) -/

/-- An in-order record is let in only where it finds room (R156). -/
theorem disposition_reserved {s : State} {kind : Byte} {n : Nat} (h : s.disposition kind n = some .reserved) :
    4 + n ≤ s.intakeFree := by
  unfold State.disposition at h
  cases hp : s.power with
  | run =>
    simp only [hp] at h
    split at h <;> simp at h
    exact h
  | starting | waking | sleep | deep =>
    simp only [hp] at h
    split at h <;> cases h

/-- A header that is taken reserves the space of an in-order record and no other (R156). -/
theorem setRx_within {s : State} (idle : s.link.rx = none) {kind target : Byte} {n : Nat} {d : Disposition}
    (h : s.disposition kind n = some d) (flagged : Bool) :
    StaysWithin s (s.setRx (some ⟨kind, target, n, flagged, d⟩)) := by
  rintro ⟨intake, replies, requests⟩
  refine ⟨?_, replies, requests⟩
  have used : (s.setRx (some ⟨kind, target, n, flagged, d⟩)).intakeUsed =
      s.intakeUsed + Rx.space ⟨kind, target, n, flagged, d⟩ := by
    rw [intakeUsed_eq, intakeUsed_eq, idle]; rfl
  rw [used, Rx.space]
  split
  · rename_i hd
    cases hd
    have room : 4 + n ≤ 16384 - s.intakeUsed := disposition_reserved h
    dsimp only
    omega
  · exact intake

theorem freeMisses_replies : s.freeMisses.ev.replies = s.ev.replies := by
  unfold State.freeMisses
  split
  · rfl
  · unfold State.findMisses
    split
    · cases (!(List.take _ _).isEmpty) <;> rfl
    · rfl

theorem freeMisses_backlog : s.freeMisses.backlog = s.backlog := by
  refine backlog_congr ?_ ?_ (freeMisses_replies s) ?_ ?_ <;> rw [freeMisses_frame]
  rfl

theorem advanceShown_backlog : s.advanceShown.backlog = s.backlog := by
  refine Eq.trans ?_ (freeMisses_backlog s)
  rw [State.advanceShown, freeRebuild_frame]; rfl

theorem decodeHeader_within (idle : s.link.rx = none) (target kind : Byte) (n : Nat) :
    StaysWithin s (s.decodeHeader target kind n) := by
  unfold State.decodeHeader
  dsimp only
  refine ite_holds (.same rfl) (ite_holds (.same (setFlagIf_backlog ..)) ?_)
  have shown : (if kind = RecordKind.fetchlive.code then (s.setMiso []).advanceShown else s.setMiso []).backlog =
        s.backlog ∧
      (if kind = RecordKind.fetchlive.code then (s.setMiso []).advanceShown else s.setMiso []).link.rx = none := by
    refine ite_holds (P := fun u : State => u.backlog = s.backlog ∧ u.link.rx = none)
      ⟨advanceShown_backlog _, ?_⟩ ⟨rfl, idle⟩
    rw [advanceShown_frame]; exact idle
  generalize (if kind = RecordKind.fetchlive.code then (s.setMiso []).advanceShown else s.setMiso []) = u at shown ⊢
  obtain ⟨same, none⟩ := shown
  split
  · exact .same same
  · rename_i d hd
    exact (setRx_within none hd _).after same

theorem execHeaderDecode_within (counted : Bool) (target kind : Byte) (length : BitVec 16) :
    AnswersWithin s (execHeaderDecode counted target kind length s) := by
  refine .next ?_
  split
  · exact .same rfl
  · rename_i h
    obtain ⟨-, busy⟩ := Bool.or_eq_false_iff.mp (Bool.eq_false_iff.mpr h)
    exact decodeHeader_within s (by simpa using busy) target kind length.toNat

/-- A record joins the tail in the space it has reserved (R156). -/
theorem joinTail_within {s : State} {rx : Rx} (hrx : s.link.rx = some rx) (hd : rx.disp = .reserved) {body : Bytes}
    (hl : body.length = rx.length) : StaysWithin s { s.setRx none with
      intake := { s.intake with queue := s.intake.queue ++ [⟨rx.kind, body⟩] } } := by
  refine .same (Prod.ext ?_ rfl)
  simp [State.backlog, intakeUsed_eq, hrx, Rx.space, hd, hl, State.setRx]

theorem execRecordReceived_within (body : Bytes) : AnswersWithin s (execRecordReceived body s) :=
  .next (csRise_within fun rx hrx hl => by
    split
    · rename_i hd
      exact joinTail_within hrx hd hl
    · exact .received (endUntaken_backlog ..))

theorem execFramingError_within (cut : FramingCut) : AnswersWithin s (execFramingError cut s) := by
  refine .next ?_
  split
  · exact ite_holds (.same rfl) (ite_holds (.same (setFlagIf_backlog ..)) (.same rfl))
  · split
    · exact .same rfl
    · exact .received (setFlagIf_backlog ..)

theorem execUnknownKind_within : AnswersWithin s (execUnknownKind s) := by
  refine .next (ite_holds ?_ (.same rfl))
  split
  · exact .same rfl
  · exact ite_holds (.same rfl) (.popped rfl)

theorem execFetchlive_within : AnswersWithin s (execFetchlive s) := by
  refine .next ?_
  split
  · exact .same rfl
  · split
    · exact .received rfl
    · exact .same rfl

/-- A reply that was fetched whole frees its place (R162). -/
theorem dropReply_within : StaysWithin s s.dropReply := by
  refine .of_le ⟨le_rfl, Nat.add_le_add_right ?_ _, le_rfl⟩
  show s.ev.replies.tail.length ≤ s.ev.replies.length
  rw [List.length_tail]; exact Nat.sub_le _ 1

theorem execFetchqueue_within : AnswersWithin s (execFetchqueue s) := by
  refine .next ?_
  split
  · exact .same rfl
  · split
    · exact .received rfl
    · exact ite_holds ((received_within s).trans ((dropReply_within _).after rfl)) (.received rfl)
    · exact ite_holds (.received (endUntaken_backlog ..)) (.same rfl)

/-! #### Drawing (03, 04) -/

theorem startText_backlog (x : TextRec) : (s.startText x).backlog = s.backlog := by
  unfold State.startText
  split
  · rfl
  · exact freeMisses_backlog _

theorem execHilite_within : AnswersWithin s (execHilite s) :=
  .next (withDraw_holds (unmoved_within s) fun _ => by
    split
    · exact .popped rfl
    · exact ite_holds (.popped rfl) (.popped rfl))

theorem execText_within : AnswersWithin s (execText s) :=
  .next (withDraw_holds (unmoved_within s) fun _ => by
    split
    · exact .popped rfl
    · exact ite_holds (.popped rfl) (.popped (startText_backlog s.pop _)))

theorem execClippush_within : AnswersWithin s (execClippush s) :=
  .next (withDraw_holds (unmoved_within s) fun _ => by
    split
    · exact .popped rfl
    · exact .popped (setFlagIf_backlog ..))

theorem execClippop_within : AnswersWithin s (execClippop s) :=
  .next (withDraw_holds (unmoved_within s) fun _ => by
    split
    · exact .popped rfl
    · exact .popped (setFlagIf_backlog ..))

theorem execDrawEnd_within : AnswersWithin s (execDrawEnd s) := by
  refine .next ?_
  split
  · dsimp only
    split
    · exact .same (setFlagIf_backlog ..)
    all_goals exact .same rfl
  · exact .same rfl

/-! #### The Table Store (02) -/

/-- A record of the Table Store changes the tables alone. -/
theorem withTable_within {k : RecordKind} {f : Bytes → State} (h : ∀ body, (f body).backlog = s.pop.backlog) :
    AnswersWithin s (.next (s.withTable k f)) :=
  .next (withTable_holds (unmoved_within s) fun body => .popped (h body))

theorem execGlyphWriteEnd_within : AnswersWithin s (execGlyphWriteEnd s) := by
  refine .next ?_
  split
  · exact .same rfl
  · dsimp only
    split
    · exact .same (startText_backlog ..)
    · exact .same rfl
    · exact .same rfl

/-! #### Waveforms and temperature (05, 06) -/

theorem setBank_backlog (b : BankId) (v : Bank) : (s.setBank b v).backlog = s.backlog := by cases b <;> rfl

theorem recomputeBand_backlog : s.recomputeBand.backlog = s.backlog := by
  unfold State.recomputeBand
  split
  · rfl
  · exact setFlagIf_backlog ..

theorem commitBank_backlog (b : BankId) : (s.commitBank b).backlog = s.backlog := by
  unfold State.commitBank
  rw [recomputeBand_backlog, setBank_backlog]
  split
  · rfl
  · exact setBank_backlog ..

theorem tempset_backlog (source : Source) : (s.tempset source).backlog = s.backlog := by
  unfold State.tempset
  rw [abandonRead_eq]; rfl

theorem startReadIfSensor_backlog (lead : List WireEvent) : (s.startReadIfSensor lead).backlog = s.backlog := by
  rw [startReadIfSensor_frame]; rfl

theorem execWavebegin_within : AnswersWithin s (execWavebegin s) :=
  .next (withHead_holds (unmoved_within s) fun _ => by
    split
    · exact .popped rfl
    · exact ite_holds (.same rfl) (.popped (setBank_backlog ..)))

theorem execWaveput_within : AnswersWithin s (execWaveput s) :=
  .next (withHead_holds (unmoved_within s) fun _ => by
    split
    · exact .popped rfl
    · split
      · exact .same rfl
      · exact .popped (setBank_backlog ..))

theorem execWavecommit_within : AnswersWithin s (execWavecommit s) :=
  .next (withHead_holds (unmoved_within s) fun _ => by
    split
    · exact .popped rfl
    · split
      · exact .popped rfl
      · exact ite_holds (.popped rfl) (.popped (commitBank_backlog ..)))

/-- The end of a sensor read (R92, R93). -/
theorem sensor_within {t : State} (h : t.backlog = s.backlog) :
    AnswersWithin s (.next (if s.temp.readInFlight.isSome then t else s)) := .next (ite_holds (.same h) (.same rfl))

/-! #### Updates (07) -/

theorem execUpdate_within : AnswersWithin s (execUpdate s) := by
  refine .next ?_
  rcases withHead_cases s .update _ with ⟨-, e⟩ | ⟨body, rest, ⟨-, hold, -⟩, e⟩ <;> rw [e]
  · exact .same rfl
  · split
    · exact .popped rfl
    · refine ite_holds ((pop_within s).trans (notify_within s.pop _ _)) ?_
      split
      · exact .same rfl
      · rename_i hroom
        exact (pop_within s).trans (joinRequest_within (s := s.pop) hold (not_le.mp hroom) _)

theorem execAdmissionPass_within : AnswersWithin s (execAdmissionPass s) := by
  refine .next (ite_holds ((continuePass_within s.beginPass).after ?_) (.same rfl))
  have places : s.beginPass.reserved = s.reserved := by
    unfold State.reserved
    rw [beginPass_eq]
    cases s.intake.hold <;> rfl
  refine backlog_congr ?_ ?_ ?_ places ?_ <;> rw [beginPass_eq]
  exact List.length_map ..

theorem execResolutionPixelReadsEnd_within : AnswersWithin s (execResolutionPixelReadsEnd s) := by
  refine .next ?_
  split
  · refine ite_holds ?_ (.same rfl)
    exact (setRequests_within s (leaveFirstDue_length s.sched.requests).le).trans (continuePass_within _)
  · exact resolveAndAdmit_within s _ _
  · exact .same rfl

theorem execLatchEnd_within : AnswersWithin s (execLatchEnd s) := by
  refine .next ?_
  split
  · refine ite_holds (.same rfl) (StaysWithin.after ?_ (freeAdvanceRead_backlog s))
    dsimp only
    split
    · exact ((endLatch_within _ _).trans (continuePass_within _)).after (advancePass_backlog _ _)
    · exact .same rfl
  · exact .same rfl

theorem frameGoesOn_backlog : s.trigger.nextFrame.backlog = s.backlog := by rw [nextFrame_frame]; rfl

theorem execFrameEnd_within : AnswersWithin s (execFrameEnd s) := by
  have slots := (StaysWithin.foldl frameSlot_within slotIds _).after (advanceWalks_walkedOn s).backlog
  exact .next (ite_holds (slots.andThen (frameGoesOn_backlog _)) (.same rfl))

/-! #### The panel and the rails (01, 08) -/

theorem reachOn_backlog : s.reachOn.backlog = s.backlog := by rw [reachOn_frame]; rfl

theorem enterRising_backlog : s.enterRising.backlog = s.backlog := by rw [enterRising_frame]; rfl

/-- A Dispatcher that is free, and stays held on no READ, reserves no reply place (R161). -/
theorem hold_backlog {s t : State} (hs : s.reserved = 0) (ht : t.reserved = 0) (queue : t.intake.queue = s.intake.queue)
    (rx : t.link.rx = s.link.rx) (ev : t.ev = s.ev) (sched : t.sched.requests = s.sched.requests) :
    t.backlog = s.backlog :=
  backlog_congr queue rx (by rw [ev]) (ht.trans hs.symm) (by rw [sched])

theorem execPanelset_within : AnswersWithin s (execPanelset s) := by
  refine .next ?_
  rcases withHead_cases s .panelset _ with ⟨-, e⟩ | ⟨body, rest, ⟨-, hold, -⟩, e⟩ <;> rw [e]
  · exact .same rfl
  · split
    · exact .popped rfl
    · exact ite_holds (.same rfl) (ite_holds (.popped rfl)
        (.popped (hold_backlog (reserved_of_free (s := s.pop) hold) rfl rfl rfl rfl rfl)))

theorem execReinitEnd_within : AnswersWithin s (execReinitEnd s) := by
  refine .next ?_
  split
  · rename_i hh
    exact .same (hold_backlog (by rw [State.reserved, hh]) rfl rfl rfl rfl rfl)
  · exact .same rfl

/-! #### The Event and Reply Unit (09) -/

theorem execEvclear_within : AnswersWithin s (execEvclear s) :=
  .next (withHead_holds (unmoved_within s) fun _ => by
    split
    · exact .popped rfl
    · exact ((StaysWithin.same (freeMisses_backlog s)).trans (pop_within _)).andThen rfl)

/-- A READ is taken only where the reply queue has room for one more reply, queued or reserved (R161, R164). -/
theorem read_within {s : State} {area : Area} {f : Bytes → State}
    (act : s.intake.hold = .free → ∀ body, StaysWithin s (f body)) : StaysWithin s (s.withRead area f) := by
  have h := unmoved_within s
  unfold State.withRead
  rcases withHead_cases s .read _ with ⟨-, e⟩ | ⟨body, rest, ⟨-, hold, -⟩, e⟩ <;> rw [e]
  · exact h.stay
  · exact ite_holds (h.refused _ _) (ite_holds (h.refused _ _)
      (ite_holds h.stay (ite_holds (h.refused _ _) (act hold body))))

/-- A reply place that was free is taken or reserved. -/
theorem ifRoom_within {s t : State} (intake : t.intakeUsed = s.pop.intakeUsed)
    (replies : t.ev.replies.length + t.reserved = s.ev.replies.length + s.reserved + 1)
    (requests : t.sched.requests = s.sched.requests) : StaysWithin s (s.ifRoom t) := by
  unfold State.ifRoom
  split
  · exact .popped rfl
  · rename_i hfull
    rw [State.repliesFull, decide_eq_true_eq] at hfull
    intro hs
    obtain ⟨popped, -, pending⟩ := pop_within s hs
    exact ⟨intake.trans_le popped, replies.trans_le (not_le.mp hfull), requests ▸ pending⟩

theorem answer_within (area : Area) (payload : Bytes) : StaysWithin s (s.ifRoom (s.answer area payload)) := by
  refine ifRoom_within rfl ?_ rfl
  have places : (s.answer area payload).reserved = s.reserved := rfl
  rw [places, State.answer, State.putReply_ev, List.length_append, List.length_singleton, State.pop_ev]
  omega

/-- A READ that holds the Dispatcher reserves the place of its reply (R14, R32). -/
theorem reserve_within {s : State} (hold : s.intake.hold = .free) {h : Hold} (one : (s.pop.setHold h).reserved = 1) :
    StaysWithin s (s.ifRoom (s.pop.setHold h)) :=
  ifRoom_within rfl (by rw [one, reserved_of_free hold]; rfl) rfl

theorem execReadGlyph_within : AnswersWithin s (execReadGlyph s) :=
  .next (read_within fun hold _ => ite_holds (.same rfl) (ite_holds (.popped rfl) (by
    split
    · exact answer_within s _ _
    · exact reserve_within hold rfl)))

theorem execReadKern_within : AnswersWithin s (execReadKern s) :=
  .next (read_within fun _ _ => ite_holds (.same rfl) (ite_holds (.popped rfl) (answer_within s _ _)))

theorem execReadStyle_within : AnswersWithin s (execReadStyle s) :=
  .next (read_within fun _ _ => ite_holds (.same rfl) (answer_within s _ _))

theorem execReadWave_within : AnswersWithin s (execReadWave s) :=
  .next (read_within fun _ _ => ite_holds (.popped rfl) (answer_within s _ _))

theorem execReadResidue_within : AnswersWithin s (execReadResidue s) :=
  .next (read_within fun _ _ => answer_within s _ _)

theorem execReadPixels_within : AnswersWithin s (execReadPixels s) :=
  .next (read_within fun hold _ => ite_holds (.same rfl) (by
    split
    · exact .popped rfl
    · exact reserve_within hold rfl))

/-- The readback takes the place that was reserved for it (R161). -/
theorem fillPlace_within {s : State} (one : s.reserved = 1) (r : Reply) :
    StaysWithin s ((s.setHold .free).putReply r) := by
  refine .same (Prod.ext rfl (Prod.ext ?_ rfl))
  show (s.ev.replies ++ [r]).length + 0 = s.ev.replies.length + s.reserved
  rw [one, List.length_append]; rfl

theorem execReadGlyphEnd_within : AnswersWithin s (execReadGlyphEnd s) := by
  refine .next ?_
  split
  · rename_i hh
    exact fillPlace_within (by rw [State.reserved, hh]) _
  · exact .same rfl

theorem execReadPixelsEnd_within : AnswersWithin s (execReadPixelsEnd s) := by
  refine .next ?_
  split
  · rename_i r hh
    obtain ⟨more, n, c, -, hread, -⟩ := readMany_reads hh
    have read : (State.readMany r.todo.length s).backlog = s.backlog := by
      have places : (s.advancePass n).reserved = 1 := by rw [advancePass_frame]; simp [State.reserved, hh]
      rw [hread, ← advancePass_backlog s n]
      exact backlog_congr rfl rfl rfl places.symm rfl
    refine StaysWithin.after ?_ read
    dsimp only
    split
    · rename_i hh'
      exact fillPlace_within (by rw [State.reserved, hh']) _
    · exact .same rfl
  · exact .same rfl

/-! #### Power states and resets (09) -/

theorem silence_space (rx : Rx) : rx.silence.space ≤ rx.space := by
  rw [silence_eq, Rx.space]
  split
  · exact Nat.zero_le _
  · exact le_rfl

/-- The entry to SLEEP or DEEP empties the intake queue and discards a record in reception (R148, R170). -/
theorem fallAsleep_within (p : Power) : StaysWithin s (s.fallAsleep p) := by
  rw [fallAsleep_eq]
  refine .of_le ⟨?_, le_rfl⟩
  simp only [State.backlog, intakeUsed_eq]
  cases s.link.rx with
  | none => exact Nat.zero_le _
  | some rx => exact (Nat.zero_add _).trans_le ((silence_space rx).trans (Nat.le_add_left _ _))

theorem execWake_within (body : Bytes) : AnswersWithin s (execWake body s) :=
  .next (csRise_within fun rx _ _ => by
    split
    · refine ite_holds ?_ (.received rfl)
      split <;> exact .received rfl
    · exact .received (endUntaken_backlog ..))

theorem execPinReset_within : AnswersWithin s (execPinReset s) :=
  .next (.of_le ⟨Nat.zero_le _, Nat.zero_le _, Nat.zero_le _⟩)

theorem execResetNRelease_within (a0 a1 : Bool) : AnswersWithin s (execResetNRelease a0 a1 s) :=
  .next (ite_holds (.of_le ⟨Nat.zero_le _, Nat.zero_le _, le_rfl⟩) (.same rfl))

theorem execStartingEnd_within : AnswersWithin s (execStartingEnd s) :=
  .next (ite_holds (.same (startReadIfSensor_backlog _ [])) (.same rfl))

theorem execWakingEnd_within : AnswersWithin s (execWakingEnd s) := by
  refine .next ?_
  split
  · rename_i fromDeep _
    refine .same ((startReadIfSensor_backlog _ []).trans ?_)
    cases fromDeep <;> rfl
  · exact .same rfl

/-- A soft reset empties the three queues (R168). -/
theorem softReset_within (keep : Bool) : StaysWithin s (s.softReset keep) := by
  obtain ⟨cut, n, -, e⟩ := softReset_blocks s keep
  rw [e]
  refine .of_le ⟨?_, ?_, Nat.zero_le _⟩
  · simp only [State.backlog, intakeUsed_eq]
    exact Nat.add_le_add_right (Nat.zero_le _) _
  · by_cases hh : s.intake.hold = .reinit <;> simp [State.backlog, State.reserved, Events.initial, hh]

theorem resetRecord_within (option : Nat) (keep : Bool) (body : Bytes) :
    AnswersWithin s (.next (s.resetRecord option keep body)) :=
  .next (ite_holds (.same rfl)
    (express_within fun u => ite_holds (.same rfl) (ite_holds (.same rfl) (softReset_within u keep))))

end Commands

/-- Every command stays within the capacities. -/
theorem exec_within (c : Instr) (s : State) : AnswersWithin s (exec c s) := by
  have h := unmoved_within s
  cases c with
  | pinReset => exact execPinReset_within s
  | resetNRelease a0 a1 => exact execResetNRelease_within s a0 a1
  | startingEnd => exact execStartingEnd_within s
  | headerDecode counted target kind length => exact execHeaderDecode_within s counted target kind length
  | recordReceived body => exact execRecordReceived_within s body
  | framingError cut => exact execFramingError_within s cut
  | unknownKind => exact execUnknownKind_within s
  | fill => exact .next (withDraw_holds h fun _ => by split <;> exact .popped rfl)
  | text => exact execText_within s
  | hilite => exact execHilite_within s
  | copy => exact .next (withDraw_holds h fun _ => by split <;> exact .popped rfl)
  | clippush => exact execClippush_within s
  | clippop => exact execClippop_within s
  | clipreset => exact .next (withDraw_holds h fun _ => by split <;> exact .popped rfl)
  | drawEnd => exact execDrawEnd_within s
  | fontdef => exact withTable_within s fun _ => by split <;> rfl
  | fontdrop => exact withTable_within s fun _ => by split <;> rfl
  | glyphput => exact withTable_within s fun _ => by split <;> rfl
  | glyphWriteEnd => exact execGlyphWriteEnd_within s
  | glyphdrop => exact withTable_within s fun _ => by split <;> rfl
  | kernload => exact withTable_within s fun _ => by split <;> rfl
  | styleset => exact withTable_within s fun _ => by split <;> rfl
  | wavebegin => exact execWavebegin_within s
  | waveput => exact execWaveput_within s
  | wavecommit => exact execWavecommit_within s
  | update => exact execUpdate_within s
  | admissionPass => exact execAdmissionPass_within s
  | latchEnd => exact execLatchEnd_within s
  | frameEnd => exact execFrameEnd_within s
  | cancel body => exact .next (express_within fun u => ite_holds (.same rfl) (cancelTag_within u _))
  | halt body => exact .next (express_within fun u => ite_holds (.same rfl) (haltAll_within u))
  | panelset => exact execPanelset_within s
  | reinitEnd => exact execReinitEnd_within s
  | railctlOff =>
    exact .next (withRailctl_holds h (ite_holds h.stay (by split <;> exact .popped rfl)))
  | railctlClear => exact .next (withRailctl_holds h (ite_holds (.popped rfl) (.popped rfl)))
  | pgoodAsserted => exact .next (ite_holds (.same (reachOn_backlog _)) (.same rfl))
  | pgoodLost => exact .next (ite_holds ((enterFault_within _).after rfl) (.same rfl))
  | riseTimerExpiry => exact .next (ite_holds (enterFault_within s) h.stay)
  | holdTimerExpiry => exact .next (ite_holds (.same rfl) h.stay)
  | fallTimerExpiry => exact .next (ite_holds (ite_holds (.same (enterRising_backlog _)) (.same rfl)) h.stay)
  | tempsetFixed =>
    exact .next (withTempset_holds h fun _ => .popped ((recomputeBand_backlog _).trans (tempset_backlog s.pop .fixed)))
  | tempsetSensor => exact .next (withTempset_holds h fun _ => .popped (tempset_backlog s.pop .sensor))
  | sampleIntervalExpiry => exact .next (ite_holds (.same rfl) h.stay)
  | sensorReadEnd raw => exact sensor_within s (recomputeBand_backlog _)
  | sensorNoAck => exact sensor_within s (setFlagIf_backlog ..)
  | sensorReadTimeout => exact sensor_within s (setFlagIf_backlog ..)
  | evmask => exact .next (withHead_holds h fun _ => by split <;> exact .popped rfl)
  | evclear => exact execEvclear_within s
  | readGlyph => exact execReadGlyph_within s
  | readGlyphEnd => exact execReadGlyphEnd_within s
  | readKern => exact execReadKern_within s
  | readStyle => exact execReadStyle_within s
  | readWave => exact execReadWave_within s
  | readResidue => exact execReadResidue_within s
  | readPixels => exact execReadPixels_within s
  | readPixelsEnd => exact execReadPixelsEnd_within s
  | sleep => exact .next (withSleep_holds h (fallAsleep_within s .sleep))
  | sleepDeep => exact .next (withSleep_holds h ((fallAsleep_within s .deep).andThen rfl))
  | wake body => exact execWake_within s body
  | wakingEnd => exact execWakingEnd_within s
  | reset body => exact resetRecord_within s 0 false body
  | resetKeepTables body => exact resetRecord_within s 1 true body
  | fetchlive => exact execFetchlive_within s
  | fetchqueue => exact execFetchqueue_within s
  | resolutionPixelReadsEnd => exact execResolutionPixelReadsEnd_within s

/-- Settles O55: every command adds to a queue only where it has room (`exec_within`). -/
theorem stepKeepsQueuesBounded : Obligations.StepKeepsQueuesBounded := by
  intro s t hs h
  unfold step at h
  split at h
  · injection h with h; exact h ▸ hs
  · rename_i i rest _
    exact exec_within i { s with pending := rest } t h (StaysWithin.same (s := s) rfl hs)

end Sys2Proof.Machine
end

section
/-! SUPPORT. Notices (R129, R130, R173), UPDATE at the intake head (R109, R110) and the end of a DEFER read (R113,
R114). -/

namespace Sys2Proof.Machine

open Host (Outcome)

/-! ### Notices -/

theorem repliesFull_iff {s : State} : s.repliesFull = true ↔ 16 ≤ s.ev.replies.length + s.reserved :=
  decide_eq_true_iff

/-- A notice joins the tail where a reply place is free (R130). -/
theorem told_queued {s : State} (n : Notice) (h : s.ev.replies.length + s.reserved < 16) :
    told s [(true, n)] = { s.ev with flags := s.ev.flags ||| 0x001, replies := s.ev.replies ++ [.notice n] } := by
  refine (State.notify_ev s true n).trans ?_
  rw [if_neg (by decide), if_neg (mt repliesFull_iff.mp (not_le.mpr h))]
  rfl

/-- A notice is lost where all reply places are taken (R130). -/
theorem told_dropped {s : State} (n : Notice) (h : 16 ≤ s.ev.replies.length + s.reserved) :
    told s [(true, n)] = { s.ev with flags := s.ev.flags ||| 0x400 } := by
  refine (State.notify_ev s true n).trans ?_
  rw [if_neg (by decide), if_pos (repliesFull_iff.mpr h)]
  rfl

/-- A code of a notice that may be missing stands as its byte, or as 0xFF (R173). -/
theorem orNone_toNat {o : Option Nat} (h : ∀ v, o = some v → v < 256) :
    (BitVec.ofNat 8 (orNone o)).toNat = o.getD 0xFF := by
  cases o with
  | none => rfl
  | some v => exact byte_toNat (h v rfl)

/-- Settles O26: `told_queued` and `told_dropped`, and each field of the notice read back from its bytes. -/
theorem noticesQueueAndEncode : Obligations.NoticesQueueAndEncode := by
  refine ⟨fun s n => ⟨rfl, told_queued n, told_dropped n, told_append s⟩, fun n band taken skipped => ?_⟩
  have length : u16 (Reply.notice n).bytes 2 = 16 := u16_be16 (n := 16) (by decide)
  refine ⟨rfl, rfl, rfl, length, rfl, ?_, ?_, ?_, u32_be32 taken, u16_be16 (by omega), ?_, rfl⟩
  · show (BitVec.ofNat 8 n.ending.code).toNat = _
    cases n.ending <;> rfl
  · show (BitVec.ofNat 8 (orNone (n.mode.map Mode.code))).toNat = _
    rcases n.mode with _ | m
    · rfl
    · cases m <;> rfl
  · exact orNone_toNat fun b hb => (band b hb).trans (by decide)
  · show (BitVec.ofNat 8 (if n.promoted = true then 1 else 0)).toNat = _
    cases n.promoted <;> rfl

/-! ### UPDATE (R109, R110) -/

/-- Checks 2 to 4 of R109. -/
def UpdateLegal (body : Bytes) : Prop := 1 ≤ u8 body 9 ∧ u8 body 9 ≤ 31 ∧ u8 body 10 ≤ 1 ∧ u8 body 11 ≤ 3

theorem parseUpdate_refuses {body : Bytes} (hl : body.length = 12) (h : ¬ UpdateLegal body) :
    parseUpdate body = .refuse .field := by
  unfold parseUpdate
  rw [if_neg (not_not.mpr hl)]
  split
  · rfl
  · split
    · rfl
    · split
      · rfl
      · exact absurd ⟨by omega, by omega, by omega, by omega⟩ h

/-- The fields of an UPDATE that passes its checks. -/
theorem parseUpdate_takes {body : Bytes} (hl : body.length = 12) (h : UpdateLegal body) : parseUpdate body =
    .ok ⟨body.getD 0 0, rectAt body 1,
      [Mode.clean, .tone16, .tone4, .bilevel, .stroke].filter fun m => (u8 body 9).testBit m.code,
      decide (u8 body 10 = 1), (u8 body 11).testBit 0, (u8 body 11).testBit 1⟩ := by
  obtain ⟨hpos, hmodes, hskip, hflags⟩ := h
  unfold parseUpdate
  rw [if_neg (not_not.mpr hl), if_neg (by omega), if_neg (by omega), if_neg (by omega)]
  simp only [Nat.testBit_eq_decide_div_mod_eq, pow_zero, Nat.div_one, pow_one]
  rfl

/-- An UPDATE that joins waits for a pass, which it triggers itself, but not in FAULT (R110, R112). -/
theorem joinRequest_eq (s : State) (r : Request) : s.joinRequest r = { s with
    intake := { s.intake with hold := if s.rails.state = .fault then .free else .update false }
    sched := { s.sched with
      requests := s.sched.requests ++ [r], passDue := s.sched.passDue || decide (s.rails.state ≠ .fault) } } := by
  have triggered : ∀ q : State, q.rails = s.rails → q.intake.hold = s.updateHold → q.trigger = { q with
      sched := { q.sched with passDue := q.sched.passDue || decide (s.rails.state ≠ .fault) } } := by
    intro q rails hold
    have going : (!q.suspended) = decide (s.rails.state ≠ .fault) := by
      by_cases hf : s.rails.state = .fault
      · rw [suspended_eq_true.mpr (.inl (rails ▸ hf))]; simp [hf]
      · rw [State.updateHold, if_neg hf] at hold
        simp [State.suspended, State.panelsetWaits, State.headBody, rails, hold, hf]
    rw [State.trigger, going]
  exact triggered _ rfl rfl

/-- What an UPDATE that passes its checks comes to (R110). -/
theorem update_eq {s : State} {body : Bytes} {rest : List Record} (hd : Dispatches s .update body rest) {u : UpdateRec}
    (hu : parseUpdate body = .ok u) {r : Request} (hr : u.request = r) : exec .update s = .next
      (if (s.effective r).isEmpty then (taken s rest).notify r.notify (r.notice .empty none)
        else if 24 ≤ s.sched.requests.length then s else (taken s rest).joinRequest r) := by
  subst hr
  rw [← pop_eq_taken hd]
  refine congrArg Outcome.next ((withHead_of_dispatches hd _).trans ?_)
  rw [hu]; rfl

/-- Settles O25: the checks by `parseUpdate_refuses` and `parseUpdate_takes`, the three ways on by `update_eq`; a
request joins as `joinRequest_eq` says. -/
theorem updateJoinsOrEndsEmpty : Obligations.UpdateJoinsOrEndsEmpty := by
  intro s body rest hd hl legal r
  have empty : (s.effective r).isEmpty = true ↔ ¬ meetsWindow s r.rect := effective_isEmpty_iff
  have ⟨_, free, _⟩ := hd
  have reserved : (taken s rest).reserved = s.reserved := (reserved_of_free free).symm
  refine ⟨fun h => withHead_refuses hd (by rw [parseUpdate_refuses hl h]), fun h hm => ?_, fun h hm hfull => ?_,
    fun h hm hroom => ?_⟩ <;> rw [update_eq hd (parseUpdate_takes hl h) (r := r) rfl]
  · rw [if_pos (empty.mpr hm), notify_frame, notify_ev_congr (s := s) (t := taken s rest) rfl reserved]
    rfl
  · rw [if_neg (mt empty.mp (not_not.mpr hm)), if_pos hfull]
  · rw [if_neg (mt empty.mp (not_not.mpr hm)), if_neg (not_le.mpr hroom), joinRequest_eq]
    rfl

/-! ### The end of a DEFER read (R113, R114) -/

theorem leaveFirstDue_append {before : List Request} (hb : ∀ q ∈ before, q.due = false) {r : Request}
    (hr : r.due = true) (behind : List Request) :
    leaveFirstDue (before ++ r :: behind) = before ++ { r with due := false } :: behind := by
  induction before with
  | nil => simp only [List.nil_append, leaveFirstDue, hr, if_true]
  | cons q before ih =>
    obtain ⟨hq, hb⟩ := List.forall_mem_cons.mp hb
    simp only [List.cons_append, leaveFirstDue, hq, Bool.false_eq_true, if_false, ih hb]

/-- The pixels a DEFER read looks at (R114). -/
theorem mem_deferKeys {s : State} {r : Rect} {k : Nat} : k ∈ s.deferKeys r ↔
    k ∈ r.keys ∧ ∃ i sl, s.slot i = some sl ∧ sl.rect.hasKey k = true := by
  simp [State.deferKeys, State.anySlot, slotIds, Option.any_eq_true]

/-- What the end of a DEFER read comes to. -/
theorem deferReadsEnd_eq {s : State} {r : Request} {todo : List Nat} {found : Bool}
    (hp : s.sched.pass = some (.deferRead todo found)) (he : s.examined = some r) :
    exec .resolutionPixelReadsEnd s = .next (if (found || todo.any fun k => (s.pixel k).owner.isSome) = true then
      (s.setRequests (leaveFirstDue s.sched.requests)).continuePass else s.beginResolve (s.effective r)) := by
  change execResolutionPixelReadsEnd s = _
  simp only [execResolutionPixelReadsEnd, hp, he]

/-- Settles O28: `mem_deferKeys` for the pixels read, `deferReadsEnd_eq` for the end of the read. -/
theorem deferHoldsOwnedRequest : Obligations.DeferHoldsOwnedRequest := by
  refine ⟨fun s n => ⟨fun hp => advancePass_none hp n, fun todo found hp => ?_⟩, fun s r k => mem_deferKeys,
    fun s before behind r todo found hp hq hb hr => ?_⟩
  · simp only [State.advancePass, hp]; rfl
  · rw [deferReadsEnd_eq hp (examined_eq hq hb hr)]
    refine ⟨fun h => ?_, fun hf hk => ?_⟩
    · rw [if_pos (by simpa using h), hq, leaveFirstDue_append hb hr]; rfl
    · rw [if_neg (by simpa [hf] using hk)]; rfl

end Sys2Proof.Machine
end

section
/-! SUPPORT. RAILCTL at the intake head, and the hold and fall timers (R139 to R145). -/

namespace Sys2Proof.Machine

open Host (Outcome)

/-! ### RAILCTL at the intake head (R145) -/

section Railctl

variable {s : State} {body : Bytes} {rest : List Record} {action : Nat} {f : State}

theorem railctl_refuses_length (hd : Dispatches s .railctl body rest) (hl : body.length ≠ 1) :
    (.next (s.withRailctl action f) : Outcome State Fault Refusal) = .next (refusedAt s .railctl .length rest) :=
  withHead_refuses hd (if_pos hl)

theorem railctl_refuses_field (hd : Dispatches s .railctl body rest) (hl : body.length = 1) (hf : 1 < u8 body 0) :
    (.next (s.withRailctl action f) : Outcome State Fault Refusal) = .next (refusedAt s .railctl .field rest) :=
  withHead_refuses hd (by rw [if_neg (not_not.mpr hl), if_pos hf])

theorem railctl_acts (hd : Dispatches s .railctl body rest) (hl : body.length = 1) (ha : u8 body 0 = action)
    (h : action ≤ 1) : s.withRailctl action f = f := by
  rw [State.withRailctl, withHead_of_dispatches hd, if_neg (not_not.mpr hl), if_neg (by omega),
    if_neg (not_not.mpr ha)]

end Railctl

/-- A RAILCTL OFF lowers the rails where they are up, with every slot FREE (R145). -/
theorem railctlOff_free {s : State} {body : Bytes} {rest : List Record} (hd : Dispatches s .railctl body rest)
    (hl : body.length = 1) (ha : u8 body 0 = 0) (free : ∀ i, s.slot i = none) : exec .railctlOff s =
      .next (if s.rails.state = .on ∨ s.rails.state = .rising then (taken s rest).enterFalling else taken s rest) := by
  have idle : ¬ s.anyBusy = true := Bool.eq_false_iff.mp (anyBusy_eq_false_iff.mpr free)
  refine congrArg Outcome.next ((railctl_acts hd hl ha (Nat.zero_le 1)).trans ((if_neg idle).trans ?_))
  rw [pop_eq_taken hd]
  cases s.rails.state <;> rfl

/-- What a RAILCTL CLEAR in FAULT leaves (R144). -/
def cleared (s : State) (rest : List Record) : State :=
  { taken s rest with rails := { s.rails with state := .off }, sched := { s.sched with passDue := true } }

theorem railctlClear_fault {s : State} {body : Bytes} {rest : List Record} (hd : Dispatches s .railctl body rest)
    (hl : body.length = 1) (ha : u8 body 0 = 1) (hf : s.rails.state = .fault) :
    exec .railctlClear s = .next (cleared s rest) := by
  refine congrArg Outcome.next ((railctl_acts hd hl ha le_rfl).trans ?_)
  rw [if_pos hf, pop_eq_taken hd, State.endSuspension]
  simp only [ne_eq, reduceCtorEq, not_false_eq_true, decide_true, Bool.or_true]
  rfl

/-- A PANELSET behind a RAILCTL CLEAR waits for the pass that the end of FAULT triggered (R112; log 20). -/
theorem panelset_waitsForPass {t : State} {body : Bytes} {rest : List Record} {p : Panel}
    (hd : Dispatches t .panelset body rest) (hp : parsePanelset body = .ok p) (due : t.sched.passDue = true) :
    exec .panelset t = .next t := by
  refine congrArg Outcome.next ((withHead_of_dispatches hd _).trans ?_)
  rw [hp]
  exact if_pos (by rw [due, Bool.or_true])

/-- A pass that was triggered begins, though a PANELSET has come to the head (R112; log 20). -/
theorem admissionPass_begins {t : State} (free : t.intake.hold = .free) (due : t.sched.passDue = true)
    (pass : t.sched.pass = none) (state : t.rails.state ≠ .fault) : exec .admissionPass t =
      .next (State.continuePass { t with sched := { t.sched with
        passDue := false, requests := t.sched.requests.map fun q : Request => { q with due := true } } }) := by
  refine congrArg Outcome.next ((if_pos ⟨due, pass, state, by rw [free]; simp⟩).trans ?_)
  have held : t.intake.hold.inPass = t.intake.hold := by rw [free]; rfl
  rw [beginPass_eq, held]

/-! ### The fall timer (R143) -/

/-- The rails as the fall timer expires. -/
def fallen (s : State) : State := { s with rails := { s.rails with state := .off, fall := none } }

theorem fallTimer_eq {s : State} (hr : s.rails.state = .falling) (hf : s.rails.fall.isSome = true) :
    exec .fallTimerExpiry s = .next (if s.anyArmed then (fallen s).enterRising else fallen s) :=
  congrArg Outcome.next (if_pos ⟨hr, hf⟩)

/-- Rails that rise with PGOOD low wait for it with the rise timer (R139). -/
theorem enterRising_waits {s : State} (hp : s.rails.pgood = false) : s.enterRising =
    { s with rails := { s.rails with state := .rising, rise := some s.store.panel.riseLimit } } :=
  if_neg (by simp [hp])

/-- Rails that rise with PGOOD asserted and a slot ARMED are ON at once, with a frame (R140, R143). -/
theorem enterRising_starts {s : State} (ha : s.anyArmed = true) (hp : s.rails.pgood = true) : s.enterRising =
    State.startFrame { s with rails := { s.rails with state := .on, rise := none } } :=
  (if_pos hp).trans (reachOn_armed ha)

/-- Settles O39: RAILCTL by `railctl_acts` and its refusals, a CLEAR in FAULT by `railctlClear_fault` with the PANELSET
behind it by `panelset_waitsForPass`, and the fall timer by `fallTimer_eq`. -/
theorem railsFallAndClear : Obligations.RailsFallAndClear := by
  intro s body rest down
  refine ⟨fun hr hh => ?hold, fun hd hl => ⟨railctl_refuses_length hd hl, railctl_refuses_length hd hl⟩,
    fun hd hl hf => ⟨railctl_refuses_field hd hl hf, railctl_refuses_field hd hl hf⟩, fun hd hl ha hbusy => ?busy,
    fun hd hl ha hfree => ?off, fun hd hl ha => ⟨railctlClear_fault hd hl ha, ?panelset, fun hr => ?clear⟩,
    fun hr hf => ?fall⟩
  case hold => exact congrArg Outcome.next (if_pos ⟨hr, hh⟩)
  case busy =>
    exact congrArg Outcome.next ((railctl_acts hd hl ha (Nat.zero_le 1)).trans (if_pos (anyBusy_iff.mpr hbusy)))
  case off =>
    rw [railctlOff_free hd hl ha hfree]
    exact ⟨fun hup => by rw [if_pos hup]; rfl, fun hon hrising => by rw [if_neg (not_or.mpr ⟨hon, hrising⟩)]⟩
  case panelset =>
    intro p next behind hr hpass hrest hp
    have ⟨run, _, _⟩ := hd
    have head : Dispatches (cleared s rest) .panelset next behind := ⟨run, rfl, hrest⟩
    exact ⟨_, railctlClear_fault hd hl ha hr, head, panelset_waitsForPass head hp rfl,
      admissionPass_begins rfl rfl hpass (by simp [cleared])⟩
  case clear =>
    refine congrArg Outcome.next ((railctl_acts hd hl ha le_rfl).trans ?_)
    rw [if_neg hr, pop_eq_taken hd]
  case fall =>
    rw [fallTimer_eq hr hf]
    refine ⟨fun ha => ?_, fun ha hp => ?_, fun ha hp => ?_⟩
    · rw [if_neg (by simp [ha])]; rfl
    · rw [if_pos ha, enterRising_waits (s := fallen s) hp]; rfl
    · rw [if_pos ha, enterRising_starts (s := fallen s) ha hp]
      exact ⟨_, rfl, rfl, rfl, fun i sl => startFrame_slot_armed (s := s), fun i => startFrame_slot_other (s := s), rfl⟩

end Sys2Proof.Machine
end

section
/-! SUPPORT. Pin reset, start-up and the wake from SLEEP and DEEP (R11, R147, R150, R151, R169). -/

namespace Sys2Proof.Machine

open Host (Outcome)

/-! ### The sensor as RUN begins (R94) -/

/-- As RUN begins, a sensor read begins with its interval in SENSOR, and nothing in FIXED. -/
theorem startReadIfSensor_temp (s : State) :
    (s.temp.source = .sensor → (s.startReadIfSensor []).temp = { s.temp with
      readInFlight := some s.store.panel.sensorAddress, timer := some s.store.panel.sampleInterval
      wire := [.start, .address s.store.panel.sensorAddress] }) ∧
    (s.temp.source = .fixed → (s.startReadIfSensor []).temp = s.temp) := by
  refine ⟨fun h => ?_, fun h => ?_⟩
  · rw [State.startReadIfSensor, if_pos h]; rfl
  · rw [State.startReadIfSensor, if_neg (by simp [h])]

theorem startReadIfSensor_eq (s : State) (lead : List WireEvent) :
    s.startReadIfSensor lead = { s with temp := (s.startReadIfSensor lead).temp } := by
  rw [startReadIfSensor_frame]

/-! ### Pin reset and the end of STARTING (R147, R169) -/

/-- The station as RESET_N is released: every block at its pin-reset values, but for the strapped address, the end of
an abandoned sensor read, and what the reset does not touch. -/
def releasedFrom (s : State) (addr0 addr1 : Bool) : State :=
  { State.reset with
    link := { State.reset.link with address := strapAddress addr0 addr1 }
    tables := Tables.emptied s.tables.pool
    temp := { Thermal.initial with wire := s.abandonEvents }
    rails := { State.reset.rails with pgood := s.rails.pgood }
    freeCount := s.abandonRead.freeCount
    pending := s.pending }

/-- A RESET_N asserted and released again (R147, R169). -/
theorem pinReset_release (s : State) (addr0 addr1 : Bool) : ∃ t, exec .pinReset s = .next t ∧
    exec (.resetNRelease addr0 addr1) t = .next (releasedFrom s addr0 addr1) ∧
    t.link.resetAsserted = true ∧ t.link.rx = none ∧ t.rails.state = .off :=
  ⟨_, rfl, rfl, rfl, rfl, rfl⟩

/-- While RESET_N is asserted the station asserts HOLD and releases ATTN (R169). -/
theorem lines_of_resetAsserted {s : State} (h : s.link.resetAsserted = true) :
    s.holdLine = true ∧ s.attnLine = false := by
  simp [State.holdLine, State.attnLine, h]

theorem strapAddress_val (addr0 addr1 : Bool) :
    (strapAddress addr0 addr1).val = (if addr0 then 1 else 0) + (if addr1 then 2 else 0) := by
  cases addr0 <;> cases addr1 <;> rfl

theorem slot_of_initial {s : State} (h : s.sched = Sched.initial) (i : Fin 16) : s.slot i = none := by
  simp [State.slot, h, Sched.initial]

theorem pins_of_free {s : State} (h : ∀ i, s.slot i = none) (b : BankId) : s.pins b = 0 := by
  simp [State.pins, State.countSlots, h]

/-- The end of STARTING in a station whose RESET_N is released (R147). -/
theorem startingEnd_eq {s : State} (hp : s.power = .starting) (hr : s.link.resetAsserted = false) :
    exec .startingEnd s = .next (State.startReadIfSensor { s.setPixels [] with power := .run } []) :=
  congrArg Outcome.next (if_pos ⟨hp, hr⟩)

/-- Settles O2: `pinReset_release` gives the station at the release of RESET_N, block by block, and `startingEnd_eq`
with the two lemmas about the sensor the entry to RUN. -/
theorem pinResetAndStartSetEveryBlock : Obligations.PinResetAndStartSetEveryBlock := by
  refine ⟨fun s a0 a1 => ?reset, fun s hp hr => ?start⟩
  case reset =>
    obtain ⟨t, assert, release, asserted, rx, off⟩ := pinReset_release s a0 a1
    obtain ⟨hold, attn⟩ := lines_of_resetAsserted asserted
    have free : ∀ i, (releasedFrom s a0 a1).slot i = none := slot_of_initial rfl
    have banks : ∀ b, (releasedFrom s a0 a1).bank b = ⟨.empty, [], 0, []⟩ := fun b => by cases b <;> rfl
    exact ⟨t, releasedFrom s a0 a1, s.abandonEvents, assert, release, abandonEvents_cutOff s,
      asserted, rx, hold, attn, by rw [State.railEn, off], strapAddress_val a0 a1,
      rfl, rfl, rfl, rfl, rfl, emptied_font _, rfl, rfl, emptied_style _, rfl,
      rfl, rfl, fun b => ⟨banks b, pins_of_free free b⟩, rfl, fun _ => rfl, rfl, free, rfl, rfl, rfl, rfl⟩
  case start =>
    obtain ⟨sensor, fixed⟩ := startReadIfSensor_temp { s.setPixels [] with power := .run }
    refine ⟨_, startingEnd_eq hp hr, fun k => ?_, sensor, fixed, ?_⟩
    · rw [startReadIfSensor_eq]; rfl
    · rw [startReadIfSensor_eq]; rfl

/-! ### The wake pattern and the end of WAKING (R150, R151) -/

/-- The wake pattern with its complements as differences from 255 (R150). -/
theorem wakePattern_eq (a : Byte) : wakePattern a =
    let c := BitVec.ofNat 8 (255 - a.toNat)
    [a, c, a, c, a, c, a, c] := by
  have complement : ~~~a = BitVec.ofNat 8 (255 - a.toNat) := by bv_omega
  rw [wakePattern, complement]

/-- A whole WAKE for the wake matcher meets it as CS_N rises (R150, R154). -/
theorem wake_matched {s : State} {target : Byte} {flagged : Bool} {body : Bytes}
    (h : s.link.rx = some ⟨0x71, target, body.length, flagged, .wakeMatch⟩) :
    exec (.wake body) s = .next ((received s).matchWake target body) := by
  refine congrArg Outcome.next ?_
  rw [State.csRise, h]
  exact if_neg (not_not.mpr rfl)

theorem matchWake_other {s : State} {target : Byte} {body : Bytes} (h : body ≠ wakePattern target) :
    s.matchWake target body = s := if_neg h

/-- The pattern begins WAKING in a station asleep (R151). -/
theorem matchWake_pattern {s : State} {deep : Bool} (hp : s.power = if deep then .deep else .sleep) (target : Byte) :
    s.matchWake target (wakePattern target) = { s with power := .waking deep } := by
  rw [State.matchWake, if_pos rfl, hp]
  cases deep <;> rfl

theorem holdLine_of_waking {s : State} {deep : Bool} (h : s.power = .waking deep) : s.holdLine = true := by
  simp [State.holdLine, h]

/-- The station as WAKING ends, before its sensor read begins (R151). -/
def woken (s : State) (deep : Bool) : State :=
  State.setFlag { (if deep then s.rebuildAfterDeep else s) with power := .run } .wake

theorem wakingEnd_eq {s : State} {deep : Bool} (h : s.power = .waking deep) :
    exec .wakingEnd s = .next ((woken s deep).startReadIfSensor []) := by
  change execWakingEnd s = _
  rw [execWakingEnd, h]; rfl

/-- A wake from SLEEP keeps every block's state (R151). -/
theorem woken_fromSleep (s : State) :
    woken s false = { s with power := .run, ev := (s.setFlag .wake).ev } := rfl

/-- A wake from DEEP rebuilds the pixel records, the tables but the styles, and the clip state (R11, R151). -/
theorem woken_fromDeep (s : State) : woken s true = { s with
    power := .run
    ev := (s.setFlag .wake).ev
    store := { s.store with pixels := [] }
    tables := { Tables.emptied s.tables.pool with styles := s.tables.styles }
    comp := Compose.initial s.window } := rfl

/-- Settles O48: `wake_matched` and the two lemmas about the wake matcher for the pattern, `wakingEnd_eq` with
`woken_fromSleep` and `woken_fromDeep` for the end of WAKING. -/
theorem wakePatternEndsSleep : Obligations.WakePatternEndsSleep := by
  refine ⟨fun s target flagged body deep hp hrx => ⟨fun hb => ?pattern, fun hb => ?other⟩, fun s deep hp => ?waking⟩
  case pattern =>
    rw [wake_matched hrx, hb, ← wakePattern_eq, matchWake_pattern (s := received s) hp]
    exact ⟨_, rfl, rfl, holdLine_of_waking rfl⟩
  case other =>
    rw [wake_matched hrx, matchWake_other]
    rwa [wakePattern_eq]
  case waking =>
    obtain ⟨sensor, fixed⟩ := startReadIfSensor_temp (woken s deep)
    refine ⟨_, wakingEnd_eq hp, ?_⟩
    rw [startReadIfSensor_eq]
    generalize ((woken s deep).startReadIfSensor []).temp = temp at sensor fixed ⊢
    cases deep with
    | false =>
      rw [woken_fromSleep] at sensor fixed ⊢
      exact ⟨rfl, rfl, sensor, fixed, fun _ => rfl, nofun⟩
    | true =>
      rw [woken_fromDeep] at sensor fixed ⊢
      exact ⟨rfl, rfl, sensor, fixed, nofun, fun _ =>
        ⟨fun _ => rfl, emptied_font s.tables.pool, rfl, rfl, rfl, rfl, rfl, rfl, rfl⟩⟩

end Sys2Proof.Machine
end

section
/-! SUPPORT. The fetches FETCHLIVE and FETCHQUEUE (R162, R163): the bytes that MISO carries, and the layout of the live
status (R175, 10.6). -/

namespace Sys2Proof.Machine

open Host (Outcome)

/-! ### The bytes on MISO (R162, R163) -/

theorem misoBytes_length (served : Bytes) (n : Nat) : (misoBytes served n).length = n := by
  simp only [misoBytes, List.length_append, List.length_take, List.length_replicate]
  omega

/-- The bytes served come first, then 0x00. -/
theorem misoBytes_getElem? (served : Bytes) {n i : Nat} (h : i < n) :
    (misoBytes served n)[i]? = some (served.getD i 0) := by
  rw [misoBytes, List.getElem?_append, List.length_take, List.getD_eq_getElem?_getD]
  by_cases hi : i < served.length
  · rw [if_pos (by omega), List.getElem?_take_of_lt h, List.getElem?_eq_getElem hi, Option.getD_some]
  · rw [if_neg (by omega), List.getElem?_replicate, if_pos (by omega), List.getElem?_eq_none (by omega),
      Option.getD_none]

/-! ### The parts of the live status (10.6) -/

/-- Power and rails, the intake bytes and the pending requests. -/
def State.statusQueues (s : State) : Bytes :=
  be8 s.power.code ++ (be8 s.rails.state.code ++ (be16 s.intakeUsed ++ be8 s.sched.requests.length))

/-- The slots in each state, and the two busy bits. -/
def State.statusSlots (s : State) : Bytes :=
  be8 (16 - s.countSlots fun _ => true) ++ (be8 (s.countSlots fun sl => sl.phase = .latching) ++
    (be8 (s.countSlots Slot.isArmed) ++ (be8 (s.countSlots Slot.isRunning) ++
      be8 (bitNat s.comp.draw.isSome + 2 * bitNat s.tableBusy))))

/-- The banks, their pins and the ACTIVE one. -/
def State.statusBanks (s : State) : Bytes :=
  be8 s.wave.bankA.state.code ++ (be8 (s.pins .bankA) ++ (be8 s.wave.bankB.state.code ++ (be8 (s.pins .bankB) ++
    be8 (orNone (s.activeBank.map BankId.code)))))

/-- The Temperature Unit. -/
def State.statusTemperature (s : State) : Bytes :=
  be8 s.temp.source.code ++ (be16 (unsigned 65536 s.temp.current) ++ (be8 (orNone s.temp.band) ++ be8 s.temp.failures))

/-- The flags and the mask. -/
def State.statusFlags (s : State) : Bytes := be16 s.ev.flags.toNat ++ be16 s.ev.mask.toNat

/-- The last refusal, 0 and 0 where there was none. -/
def State.statusRefusal (s : State) : Bytes :=
  match s.ev.lastRefusal with
  | none => be8 0 ++ be8 0
  | some (kind, r) => [kind, r.code]

/-- The clip state and the pen. -/
def State.statusCompose (s : State) : Bytes :=
  be8 s.comp.clipStack.length ++ (be8 s.comp.excess ++ be32 (unsigned 4294967296 s.comp.pen))

/-- The replies, the address and the window. -/
def State.statusStation (s : State) : Bytes :=
  be8 s.ev.replies.length ++ (be8 s.link.address.val ++
    (be16 s.store.panel.x0 ++ (be16 s.store.panel.w ++ be16 s.store.panel.h)))

/-- The parts of the live status, in order. -/
def State.statusParts (s : State) : List Bytes :=
  [s.statusQueues, s.statusSlots, s.statusBanks, s.statusTemperature, s.statusFlags, s.statusRefusal, s.statusCompose,
    s.statusStation]

theorem liveStatus_eq (s : State) : s.liveStatus = s.statusParts.flatten := by
  unfold State.liveStatus State.statusParts State.statusRefusal
  cases s.ev.lastRefusal <;>
    simp only [State.statusQueues, State.statusSlots, State.statusBanks, State.statusTemperature, State.statusFlags,
      State.statusCompose, State.statusStation, List.flatten_cons, List.flatten_nil, List.append_nil, List.append_assoc]

theorem statusRefusal_length (s : State) : s.statusRefusal.length = 2 := by
  unfold State.statusRefusal
  split <;> rfl

theorem statusParts_lengths (s : State) : s.statusParts.map List.length = [5, 5, 5, 5, 4, 2, 6, 8] := by
  simp only [State.statusParts, List.map_cons, List.map_nil, statusRefusal_length]
  rfl

theorem liveStatus_length (s : State) : s.liveStatus.length = 40 := by
  rw [liveStatus_eq, List.length_flatten, statusParts_lengths]; rfl

/-- A part of a list of bytes stands behind the parts before it. -/
theorem standsAt_part {parts : List Bytes} {lengths : List Nat} (hl : parts.map List.length = lengths) {j : Nat}
    {part : Bytes} (hj : parts[j]? = some part) : StandsAt parts.flatten (lengths.take j).sum part part.length := by
  intro k hk
  have split : parts.flatten = (parts.take j).flatten ++ (part ++ (parts.drop (j + 1)).flatten) := by
    obtain ⟨hlt, rfl⟩ := List.getElem?_eq_some_iff.mp hj
    rw [← List.flatten_cons, List.getElem_cons_drop, ← List.flatten_append, List.take_append_drop]
  have length : (parts.take j).flatten.length = (lengths.take j).sum := by
    rw [List.length_flatten, List.map_take, hl]
  rw [split, u8_behind length, u8, u8, List.getD_append _ _ _ _ hk]

/-- A part of the live status stands behind the parts before it. -/
theorem liveStatus_part {s : State} {j : Nat} {part : Bytes} (hj : s.statusParts[j]? = some part) :
    StandsAt s.liveStatus (([5, 5, 5, 5, 4, 2, 6, 8] : List Nat).take j).sum part part.length :=
  liveStatus_eq s ▸ standsAt_part (statusParts_lengths s) hj

theorem StandsAt.s32 {b c : Bytes} {i n : Nat} (h : StandsAt b i c n) {k : Nat} (hk : k + 3 < n) :
    s32 b (i + k) = s32 c k := by
  rw [Machine.s32, Machine.s32, u32, u32, h.u16 (by omega), Nat.add_assoc, h.u16 (by omega)]

theorem liveStatus_queues {s : State} (used : s.intakeUsed < 65536) (requests : s.sched.requests.length < 256) :
    u8 s.liveStatus 0 = s.power.code ∧ u8 s.liveStatus 1 = s.rails.state.code ∧ u16 s.liveStatus 2 = s.intakeUsed ∧
    u8 s.liveStatus 4 = s.sched.requests.length := by
  have part : StandsAt s.liveStatus 0 s.statusQueues 5 := liveStatus_part (j := 0) rfl
  refine ⟨(part 0 (by decide)).trans ?_, (part 1 (by decide)).trans ?_, (part.u16 (k := 2) (by decide)).trans ?_,
    (part 4 (by decide)).trans (byte_toNat requests)⟩
  · show (BitVec.ofNat 8 s.power.code).toNat = _
    cases s.power <;> rfl
  · show (BitVec.ofNat 8 s.rails.state.code).toNat = _
    cases s.rails.state <;> rfl
  · exact u16_be16 used

/-- At most 16 slots satisfy a condition. -/
theorem countSlots_le (s : State) (p : Slot → Bool) : s.countSlots p ≤ 16 :=
  (List.length_filter_le ..).trans (by decide)

/-- The slots that are FREE are the others than the slots that are not. -/
theorem freeSlots_count (s : State) :
    16 - s.countSlots (fun _ => true) = (slotIds.filter fun i => (s.slot i).isNone).length := by
  have total := List.length_eq_length_filter_add (l := slotIds) fun i => (s.slot i).any fun _ => true
  have free : (slotIds.filter fun i => !(s.slot i).any fun _ => true) = slotIds.filter fun i => (s.slot i).isNone :=
    List.filter_congr fun i _ => by cases s.slot i <;> rfl
  have sixteen : slotIds.length = 16 := rfl
  rw [free, sixteen] at total
  unfold State.countSlots
  omega

theorem liveStatus_slots (s : State) :
    u8 s.liveStatus 5 = (slotIds.filter fun i => (s.slot i).isNone).length ∧
    u8 s.liveStatus 6 = s.countSlots (fun sl => sl.phase = .latching) ∧
    u8 s.liveStatus 7 = s.countSlots Slot.isArmed ∧ u8 s.liveStatus 8 = s.countSlots Slot.isRunning ∧
    u8 s.liveStatus 9 = (if s.comp.draw.isSome then 1 else 0) + (if s.tableBusy = true then 2 else 0) := by
  have part : StandsAt s.liveStatus 5 s.statusSlots 5 := liveStatus_part (j := 1) rfl
  have count : ∀ p, s.countSlots p < 256 := fun p => (countSlots_le s p).trans_lt (by decide)
  refine ⟨(part 0 (by decide)).trans ?_, (part 1 (by decide)).trans (byte_toNat (count _)),
    (part 2 (by decide)).trans (byte_toNat (count _)), (part 3 (by decide)).trans (byte_toNat (count _)),
    (part 4 (by decide)).trans ?_⟩
  · rw [← freeSlots_count]
    exact byte_toNat ((Nat.sub_le ..).trans_lt (by decide))
  · show (BitVec.ofNat 8 (bitNat s.comp.draw.isSome + 2 * bitNat s.tableBusy)).toNat = _
    cases s.comp.draw.isSome <;> cases s.tableBusy <;> rfl

theorem liveStatus_banks (s : State) :
    u8 s.liveStatus 10 = s.wave.bankA.state.code ∧ u8 s.liveStatus 11 = s.pins .bankA ∧
    u8 s.liveStatus 12 = s.wave.bankB.state.code ∧ u8 s.liveStatus 13 = s.pins .bankB ∧
    u8 s.liveStatus 14 = orNone (s.activeBank.map BankId.code) := by
  have part : StandsAt s.liveStatus 10 s.statusBanks 5 := liveStatus_part (j := 2) rfl
  have state : ∀ st : BankState, (BitVec.ofNat 8 st.code).toNat = st.code := fun st => by cases st <;> rfl
  have pins : ∀ b, s.pins b < 256 := fun b => (pins_le s b).trans_lt (by decide)
  refine ⟨(part 0 (by decide)).trans (state _), (part 1 (by decide)).trans (byte_toNat (pins _)),
    (part 2 (by decide)).trans (state _), (part 3 (by decide)).trans (byte_toNat (pins _)),
    (part 4 (by decide)).trans ?_⟩
  show (BitVec.ofNat 8 (orNone (s.activeBank.map BankId.code))).toNat = _
  rcases s.activeBank with _ | b
  · rfl
  · cases b <;> rfl

theorem liveStatus_temperature {s : State} (h : TemperatureLegal s) :
    u8 s.liveStatus 15 = s.temp.source.code ∧ s16 s.liveStatus 16 = s.temp.current ∧
    u8 s.liveStatus 18 = s.temp.band.getD 0xFF ∧ u8 s.liveStatus 19 = s.temp.failures := by
  have part : StandsAt s.liveStatus 15 s.statusTemperature 5 := liveStatus_part (j := 3) rfl
  obtain ⟨low, high⟩ := h.current
  refine ⟨(part 0 (by decide)).trans ?_, ?_,
    (part 3 (by decide)).trans (orNone_toNat fun b hb => (h.band b hb).trans (by decide)),
    (part 4 (by decide)).trans (byte_toNat (Nat.lt_succ_of_le h.failures))⟩
  · show (BitVec.ofNat 8 s.temp.source.code).toNat = _
    cases s.temp.source <;> rfl
  · exact (congrArg (signed 65536) (part.u16 (k := 1) (by decide))).trans (s16_be16 (by omega) (by omega))

theorem liveStatus_flags (s : State) :
    u16 s.liveStatus 20 = s.ev.flags.toNat ∧ u16 s.liveStatus 22 = s.ev.mask.toNat := by
  have part : StandsAt s.liveStatus 20 s.statusFlags 4 := liveStatus_part (j := 4) rfl
  have small : ∀ x : BitVec 12, x.toNat < 65536 := fun x => x.isLt.trans (by decide)
  exact ⟨(part.u16 (k := 0) (by decide)).trans (u16_be16 (small _)),
    (part.u16 (k := 2) (by decide)).trans (u16_be16 (small _))⟩

/-- The code of a refusal reason is its place in the list of 9.4, counted from 1. -/
theorem reason_listed (r : Reason) : 1 ≤ r.code.toNat ∧
    [Reason.length, .field, .noFont, .storeFull, .order, .emptyBank, .state, .busy, .replyFull,
      .unknownKind][r.code.toNat - 1]? = some r := by
  cases r <;> decide

theorem liveStatus_refusal (s : State) :
    (s.ev.lastRefusal = none → u8 s.liveStatus 24 = 0 ∧ u8 s.liveStatus 25 = 0) ∧
    ∀ kind r, s.ev.lastRefusal = some (kind, r) →
      u8 s.liveStatus 24 = kind.toNat ∧ u8 s.liveStatus 25 = r.code.toNat := by
  have part : StandsAt s.liveStatus 24 s.statusRefusal 2 := statusRefusal_length s ▸ liveStatus_part (j := 5) rfl
  rw [part 0 (by decide), part 1 (by decide)]
  unfold State.statusRefusal
  refine ⟨fun h => ?_, fun kind r h => ?_⟩ <;> rw [h] <;> exact ⟨rfl, rfl⟩

theorem liveStatus_compose {s : State} (clip : ClipLegal s) (pen : penRange s.comp.pen) :
    u8 s.liveStatus 26 = s.comp.clipStack.length ∧ u8 s.liveStatus 27 = s.comp.excess ∧
    s32 s.liveStatus 28 = s.comp.pen := by
  have part : StandsAt s.liveStatus 26 s.statusCompose 6 := liveStatus_part (j := 6) rfl
  obtain ⟨low, high⟩ := pen
  exact ⟨(part 0 (by decide)).trans (byte_toNat (clip.depth.trans_lt (by decide))),
    (part 1 (by decide)).trans (byte_toNat (Nat.lt_succ_of_le clip.excess)),
    (part.s32 (k := 2) (by decide)).trans (s32_be32 (by omega) (by omega))⟩

theorem liveStatus_station {s : State} (panel : PanelLegal s.store.panel) (replies : s.ev.replies.length ≤ 16) :
    u8 s.liveStatus 32 = s.ev.replies.length ∧ u8 s.liveStatus 33 = s.link.address.val ∧
    u16 s.liveStatus 34 = s.store.panel.x0 ∧ u16 s.liveStatus 36 = s.store.panel.w ∧
    u16 s.liveStatus 38 = s.store.panel.h := by
  have part : StandsAt s.liveStatus 32 s.statusStation 8 := liveStatus_part (j := 7) rfl
  obtain ⟨origin, -⟩ := panel.origin
  obtain ⟨-, width, -⟩ := panel.width
  obtain ⟨-, height⟩ := panel.height
  exact ⟨(part 0 (by decide)).trans (byte_toNat (by omega)), (part 1 (by decide)).trans (byte_toNat (by omega)),
    (part.u16 (k := 2) (by decide)).trans (u16_be16 (by omega)),
    (part.u16 (k := 4) (by decide)).trans (u16_be16 (by omega)),
    (part.u16 (k := 6) (by decide)).trans (u16_be16 (by omega))⟩

/-! ### FETCHLIVE and FETCHQUEUE (R162, R163) -/

/-- `s` once a fetch that was served `bytes` has been clocked out for `n` bytes. -/
def served (s : State) (bytes : Bytes) (n : Nat) : State :=
  { s with link := { s.link with rx := none, miso := misoBytes bytes n } }

theorem fetchlive_eq {s : State} {rx : Rx} {snapshot : Bytes} (h : s.link.rx = some rx)
    (hd : rx.disp = .fetchLive snapshot) : exec .fetchlive s = .next (served s snapshot rx.length) := by
  change execFetchlive s = _
  simp only [execFetchlive, h, hd]
  rfl

theorem fetchqueue_empty {s : State} {rx : Rx} (h : s.link.rx = some rx) (hd : rx.disp = .fetchQueue none) :
    exec .fetchqueue s = .next (served s [0x00, 0x00, 0x00, 0x04] rx.length) := by
  change execFetchqueue s = _
  simp only [execFetchqueue, h, hd]
  rfl

theorem fetchqueue_reply {s : State} {rx : Rx} {r : Reply} (h : s.link.rx = some rx)
    (hd : rx.disp = .fetchQueue (some r)) : exec .fetchqueue s = .next
      (if r.bytes.length ≤ rx.length then (served s r.bytes rx.length).dropReply else served s r.bytes rx.length) := by
  change execFetchqueue s = _
  simp only [execFetchqueue, h, hd]
  rfl

/-- Settles O50: MISO by `misoBytes_getElem?`, the live status part by part, the removal by `fetchqueue_reply`. -/
theorem fetchesDriveMiso : Obligations.FetchesDriveMiso := by
  refine ⟨fun s kind target n flagged snapshot h => ?live, fun s hs => ?layout,
    fun s target n flagged head more h hq => ?reply, fun s target n flagged h => ?empty⟩
  case live =>
    exact ⟨_, fetchlive_eq h rfl, rfl, misoBytes_length .., fun i hi => misoBytes_getElem? snapshot hi⟩
  case layout =>
    obtain ⟨used, replies, requests⟩ := hs.queues
    obtain ⟨power, rails, intake, pending⟩ := liveStatus_queues (s := s) (by omega) (by omega)
    obtain ⟨free, latching, armed, running, busy⟩ := liveStatus_slots s
    obtain ⟨stateA, pinsA, stateB, pinsB, active⟩ := liveStatus_banks s
    obtain ⟨source, current, band, failures⟩ := liveStatus_temperature hs.temperature
    obtain ⟨flags, mask⟩ := liveStatus_flags s
    obtain ⟨unrefused, refused⟩ := liveStatus_refusal s
    obtain ⟨depth, excess, pen⟩ := liveStatus_compose hs.clip hs.pen.register
    obtain ⟨queued, address, origin, width, height⟩ := liveStatus_station hs.panel (by omega)
    have refusal : ∀ kind r, s.ev.lastRefusal = some (kind, r) →
        u8 s.liveStatus 24 = kind.toNat ∧ 1 ≤ u8 s.liveStatus 25 ∧
          [Reason.length, .field, .noFont, .storeFull, .order, .emptyBank, .state, .busy, .replyFull,
            .unknownKind][u8 s.liveStatus 25 - 1]? = some r := fun kind r h => by
      obtain ⟨first, second⟩ := refused kind r h
      rw [second]
      exact ⟨first, reason_listed r⟩
    refine ⟨liveStatus_length s, power.trans ?_, rails.trans ?_, intake, pending, free, latching, armed, running, busy,
      stateA.trans ?_, pinsA, stateB.trans ?_, pinsB, active.trans ?_, source.trans ?_, current, band, failures, flags,
      mask, unrefused, refusal, depth, excess, pen, queued, address, origin, width, height⟩
    · cases s.power <;> rfl
    · cases s.rails.state <;> rfl
    · cases s.wave.bankA.state <;> rfl
    · cases s.wave.bankB.state <;> rfl
    · rcases s.activeBank with _ | b
      · rfl
      · cases b <;> rfl
    · cases s.temp.source <;> rfl
  case reply =>
    refine ⟨_, fetchqueue_reply h rfl, ?_⟩
    split
    · exact ⟨by simp [State.dropReply, served, hq], rfl, fun i hi => misoBytes_getElem? head.bytes hi⟩
    · exact ⟨hq, rfl, fun i hi => misoBytes_getElem? head.bytes hi⟩
  case empty =>
    exact ⟨_, fetchqueue_empty h rfl, rfl, fun i hi => misoBytes_getElem? _ hi⟩

end Sys2Proof.Machine
end

section
/-! SUPPORT. The head records that wait (R159): each guard leaves the state as it is while its owner is busy. -/

namespace Sys2Proof.Machine

open Host (Outcome)

section Waiting

variable {s : State} {k : RecordKind} {body : Bytes} {rest : List Record}

/-- A draw record waits while a draw record is in progress or a latch pass runs (R55). -/
theorem withDraw_waits (hd : Dispatches s k body rest) (busy : s.comp.draw.isSome = true ∨ s.latching = true)
    (f : Bytes → State) : (.next (s.withDraw k f) : Outcome State Fault Refusal) = .next s :=
  congrArg _ ((withHead_of_dispatches hd _).trans (if_pos (Bool.or_eq_true _ _ ▸ busy)))

/-- A table record waits while the Table Store is busy (R16). -/
theorem withTable_waits (hd : Dispatches s k body rest) (busy : s.tableBusy = true) (f : Bytes → State) :
    (.next (s.withTable k f) : Outcome State Fault Refusal) = .next s :=
  congrArg _ ((withHead_of_dispatches hd _).trans (if_pos busy))

/-- A SLEEP waits while a draw record is in progress or the Table Store is busy (R148). -/
theorem withSleep_waits (hd : Dispatches s .sleep body rest) (busy : s.comp.draw.isSome = true ∨ s.tableBusy = true)
    (option : Nat) (t : State) : (.next (s.withSleep option t) : Outcome State Fault Refusal) = .next s :=
  congrArg _ ((withHead_of_dispatches hd _).trans (if_pos (Bool.or_eq_true _ _ ▸ busy)))

/-- A READ past the checks of R164 stays where its owner's arm leaves the state. -/
theorem withRead_waits (hd : Dispatches s .read body rest) {area : Area} (hl : body.length = area.bodyLength)
    (ha : u8 body 0 = area.code) {f : Bytes → State} (wait : f body = s) :
    (.next (s.withRead area f) : Outcome State Fault Refusal) = .next s :=
  congrArg _ ((withRead_of_dispatches hd ha hl f).trans wait)

/-- An UPDATE that meets the window waits for a place in the request queue (R110). -/
theorem update_waits (hd : Dispatches s .update body rest) {u : UpdateRec} (hu : parseUpdate body = .ok u)
    (meets : meetsWindow s u.rect) (full : 24 ≤ s.sched.requests.length) : exec .update s = .next s := by
  have shown : ¬ (s.effective u.request).isEmpty = true := fun h => effective_isEmpty_iff.mp h meets
  rw [update_eq hd hu rfl, if_neg shown, if_pos full]

/-- A checked PANELSET waits for the slots, the draw record and the admission pass (R7; logs 9, 20). -/
theorem panelset_waits (hd : Dispatches s .panelset body rest) {p : Panel} (hp : parsePanelset body = .ok p)
    (busy : s.anyBusy = true ∨ s.comp.draw.isSome = true ∨ s.sched.pass.isSome = true ∨ s.sched.passDue = true) :
    exec .panelset s = .next s := by
  refine congrArg Outcome.next ((withHead_of_dispatches hd _).trans ?_)
  rw [hp]
  exact if_pos (by simpa only [Bool.or_eq_true, or_assoc] using busy)

end Waiting

/-- Settles O7: each record by the lemma about the wait of its guard. -/
theorem waitingHeadsStay : Obligations.WaitingHeadsStay := by
  refine fun s body rest => ⟨fun e he hd busy => ?draw, fun e he hd busy => ?table, fun hd busy => ?tableRead,
    fun hd busy hl ha => ?pixels, fun u hd hu meets full => update_waits hd hu meets full,
    fun h hd hp retired pinned => ?bank, fun p hd hp busy => panelset_waits hd hp busy, fun hd hl ha busy => ?rails,
    fun hd busy => ?sleep⟩
  case draw =>
    simp only [List.mem_cons, List.not_mem_nil, or_false] at he
    rcases he with rfl | rfl | rfl | rfl | rfl | rfl | rfl <;> exact withDraw_waits hd busy _
  case table =>
    simp only [List.mem_cons, List.not_mem_nil, or_false] at he
    rcases he with rfl | rfl | rfl | rfl | rfl | rfl <;> exact withTable_waits hd busy _
  case tableRead =>
    exact ⟨fun hl ha => withRead_waits (area := .glyph) hd hl ha (if_pos busy),
      fun hl ha => withRead_waits (area := .kern) hd hl ha (if_pos busy),
      fun hl ha => withRead_waits (area := .style) hd hl ha (if_pos busy)⟩
  case pixels => exact withRead_waits (area := .pixels) hd hl ha (if_pos busy)
  case bank => rw [wavebegin_checked hd hp, if_pos ⟨retired, pinned⟩]
  case rails => exact congrArg Outcome.next ((railctl_acts hd hl ha (Nat.zero_le 1)).trans (if_pos busy))
  case sleep => exact ⟨withSleep_waits hd busy _ _, withSleep_waits hd busy _ _⟩

end Sys2Proof.Machine
end

section
/-! SUPPORT. The end of a transaction: the rise of CS_N on a whole record (R154, R156, R170) and the transactions that
break off (R153). -/

namespace Sys2Proof.Machine

open Host (Outcome)

/-! ### Kinds by their paths (R155, R158) -/

theorem code_of_ofCode {c : Byte} {k : RecordKind} (h : RecordKind.ofCode c = some k) : k.code = c := by
  have found := List.find?_some (p := fun k : RecordKind => decide (k.code = c)) h
  exact of_decide_eq_true found

/-- Every code but the six of the express kinds, the fetches and WAKE travels the in-order path. -/
theorem inOrder_of_ne {kind : Byte} (h : ¬ (kind = 0x41 ∨ kind = 0x42 ∨ kind = 0x71 ∨ kind = 0x72 ∨ kind = 0x7E ∨
    kind = 0x7F)) : inOrder kind = true := by
  unfold inOrder
  split
  case h_7 => rfl
  all_goals
    rename_i hk
    exact absurd (code_of_ofCode hk ▸ by decide) h

/-! ### The rise of CS_N -/

section Rise

variable {s : State} {rx : Rx} {body : Bytes}

/-- CS_N rises on a whole record of the kind. -/
theorem csRise_whole (hrx : s.link.rx = some rx) {isKind : Byte → Bool} (hk : isKind rx.kind = true)
    (hl : body.length = rx.length) (f : Rx → State → State) : s.csRise isKind body f = f rx (received s) := by
  rw [State.csRise, hrx]
  simp only [hk, hl, Bool.not_true, Bool.false_eq_true, if_false, ne_eq, not_true]
  rfl

/-- A whole express record that is not taken ends as its header decode decided (R154). -/
theorem express_untaken {k : RecordKind} (hrx : s.link.rx = some rx) (hk : rx.kind = k.code)
    (hl : body.length = rx.length) (hd : rx.disp ≠ .express) (f : State → State) :
    s.express k body f = (received s).endUntaken rx := by
  rw [State.express, csRise_whole hrx (decide_eq_true hk) hl]
  split
  · rename_i he
    exact absurd he hd
  · rfl

theorem endUntaken_overrun (hd : rx.disp = .overrun) : s.endUntaken rx = s.setFlag .overrun := by
  rw [State.endUntaken, hd]

theorem endUntaken_quiet (hd : rx.disp = .silent ∨ rx.disp = .ignored) : s.endUntaken rx = s := by
  rcases hd with hd | hd <;> rw [State.endUntaken, hd]

end Rise

/-- The space a record in reception has reserved is free once the transaction is over (R153). -/
theorem received_intakeUsed {s : State} {rx : Rx} (hrx : s.link.rx = some rx) (hd : rx.disp = .reserved) :
    (received s).intakeUsed + (4 + rx.length) = s.intakeUsed := by
  rw [intakeUsed_eq, intakeUsed_eq, hrx]
  simp [received, Rx.space, hd]

/-- A record that joins the tail takes its bytes there (R156). -/
theorem intakeUsed_joined (s : State) (r : Record) :
    State.intakeUsed { s with intake := { s.intake with queue := s.intake.queue ++ [r] } } =
      s.intakeUsed + (4 + r.body.length) := by
  simp only [intakeUsed_eq, List.map_append, List.map_cons, List.map_nil, List.sum_append, List.sum_singleton]
  omega

/-- A RESET body with the other row's option, in the form of R168. -/
theorem eq_option_of {body : Bytes} {option : Nat} (h : body.length = 1 ∧ u8 body 0 ≤ 1 ∧ u8 body 0 ≠ option) :
    (option = 0 → body = [1]) ∧ (option = 1 → body = [0]) := by
  obtain ⟨hl, hle, hne⟩ := h
  obtain ⟨b, rfl⟩ := List.length_eq_one_iff.mp hl
  change b.toNat ≤ 1 at hle
  change b.toNat ≠ option at hne
  have is : ∀ n, b.toNat = n → [b] = [BitVec.ofNat 8 n] := fun n hb => by
    rw [← hb, BitVec.ofNat_toNat, BitVec.setWidth_eq]
  exact ⟨fun ho => is 1 (by omega), fun ho => is 0 (by omega)⟩

/-- A whole CANCEL, HALT, RESET or WAKE that is not taken, at the row it belongs to (R154; log 13). -/
theorem untaken_eq {s : State} {rx : Rx} {body : Bytes} {c : Instr}
    (hc : (c, rx.kind) ∈ ([(.cancel body, 0x41), (.halt body, 0x42), (.reset body, 0x72), (.resetKeepTables body, 0x72),
      (.wake body, 0x71)] : List (Instr × Byte)))
    (reset : c = .reset body → body ≠ [1]) (keep : c = .resetKeepTables body → body ≠ [0])
    (hrx : s.link.rx = some rx) (hl : body.length = rx.length) (hd : rx.disp ≠ .express) (hw : rx.disp ≠ .wakeMatch) :
    exec c s = .next ((received s).endUntaken rx) := by
  simp only [List.mem_cons, Prod.mk.injEq, List.not_mem_nil, or_false] at hc
  rcases hc with ⟨rfl, hk⟩ | ⟨rfl, hk⟩ | ⟨rfl, hk⟩ | ⟨rfl, hk⟩ | ⟨rfl, hk⟩
  case inl => exact congrArg Outcome.next (express_untaken (k := .cancel) hrx hk hl hd _)
  case inr.inl => exact congrArg Outcome.next (express_untaken (k := .halt) hrx hk hl hd _)
  case inr.inr.inl =>
    exact congrArg Outcome.next ((if_neg fun h => reset rfl ((eq_option_of h).1 rfl)).trans
      (express_untaken (k := .reset) hrx hk hl hd _))
  case inr.inr.inr.inl =>
    exact congrArg Outcome.next ((if_neg fun h => keep rfl ((eq_option_of h).2 rfl)).trans
      (express_untaken (k := .reset) hrx hk hl hd _))
  case inr.inr.inr.inr =>
    refine congrArg Outcome.next ((csRise_whole hrx (decide_eq_true hk) hl _).trans ?_)
    split
    · rename_i he
      exact absurd he hw
    · rfl

/-- Settles O4: a whole record by `csRise_whole`, whose bytes `received_intakeUsed` and `intakeUsed_joined` count; an
untaken one by `untaken_eq`. -/
theorem recordReceivedJoinsTail : Obligations.RecordReceivedJoinsTail := by
  refine ⟨fun s kind target flagged d body hrx hk => ?queued,
    fun s kind target flagged d body c hc reset keep hrx => ?untaken, fun s target n flagged hrx => ?fetch⟩
  case queued =>
    have rise := csRise_whole hrx (inOrder_of_ne hk) rfl
    refine ⟨?_, ?_, ?_⟩ <;> rintro rfl
    · refine ⟨_, congrArg Outcome.next (rise _), rfl, ?_⟩
      exact (intakeUsed_joined (received s) _).trans (received_intakeUsed hrx rfl)
    · exact congrArg Outcome.next ((rise _).trans (endUntaken_overrun rfl))
    · exact congrArg Outcome.next ((rise _).trans (endUntaken_quiet (.inl rfl)))
  case untaken =>
    refine ⟨fun hd => ?_, fun hd => ?_⟩
    · rw [untaken_eq hc reset keep hrx rfl (by simp [hd]) (by simp [hd]), endUntaken_overrun hd]
    · rw [untaken_eq hc reset keep hrx rfl (by rcases hd with rfl | rfl <;> simp)
        (by rcases hd with rfl | rfl <;> simp), endUntaken_quiet hd]
  case fetch =>
    change execFetchqueue s = _
    simp only [execFetchqueue, hrx]
    rfl

/-! ### Transactions that break off (R153) -/

/-- A framing error sets its flag where the header allowed it and the station is awake (R154; log 11). -/
theorem framing_eq (s : State) (allowed : Bool) : s.framing allowed = { s with
    ev := if allowed = true ∧ s.power ≠ .sleep ∧ s.power ≠ .deep then (s.setFlag .framing).ev else s.ev } := by
  have awake : (allowed && !s.power.asleep) = decide (allowed = true ∧ s.power ≠ .sleep ∧ s.power ≠ .deep) := by
    simp [Power.asleep]
  rw [State.framing, awake, setFlagIf_frame, setFlagIf_ev]
  simp only [decide_eq_true_eq]

/-- A first byte addresses the station by its own address or by broadcast (R152). -/
theorem addressed_iff {s : State} {target : Byte} :
    s.addressed target = true ↔ target.toNat = s.link.address.val ∨ target = 0x0F := by
  have own : target = BitVec.ofNat 8 s.link.address.val ↔ target.toNat = s.link.address.val := by
    have := s.link.address.isLt
    bv_omega
  simp only [State.addressed, Bool.or_eq_true, decide_eq_true_eq, own]
  rfl

theorem framingError_afterHeader {s : State} {rx : Rx} (hrx : s.link.rx = some rx) (clocked : Nat) :
    exec (.framingError (.afterHeader clocked)) s =
      .next (((received s).setMiso (rx.cutMiso clocked)).framing rx.flagged) := by
  change execFramingError (.afterHeader clocked) s = _
  simp only [execFramingError, hrx]
  rfl

theorem framingError_beforeHeader {s : State} (released : s.link.resetAsserted = false) (idle : s.link.rx = none)
    (first : Option Byte) : exec (.framingError (.beforeHeader true first)) s =
      .next ((s.setMiso []).framing (first.all s.addressed)) := by
  change execFramingError (.beforeHeader true first) s = _
  simp only [execFramingError, released, idle, Option.isSome_none, Bool.not_true, Bool.or_false, Bool.false_eq_true,
    if_false]
  cases first.all s.addressed <;> rfl

/-- The bytes of a fetch clocked by then, as they were sent (R153, R162, R163). -/
def sentBytes (served : Bytes) (clocked : Nat) (miso : Bytes) : Prop :=
  miso.length = clocked ∧ ∀ i, i < clocked → miso[i]? = some (served.getD i 0)

theorem misoBytes_sent (served : Bytes) (clocked : Nat) : sentBytes served clocked (misoBytes served clocked) :=
  ⟨misoBytes_length .., fun _ hi => misoBytes_getElem? served hi⟩

/-- A record that is no fetch drives nothing on MISO (R153). -/
theorem cutMiso_of_other {rx : Rx} (live : ∀ snapshot, rx.disp ≠ .fetchLive snapshot)
    (queue : ∀ o, rx.disp ≠ .fetchQueue o) (clocked : Nat) : rx.cutMiso clocked = [] := by
  unfold Rx.cutMiso
  split
  · rename_i h
    exact absurd h (live _)
  · rename_i h
    exact absurd h (queue _)
  · rename_i h
    exact absurd h (queue _)
  · rfl

/-- Settles O5: the flag by `framing_eq`, MISO by `misoBytes_sent` and `cutMiso_of_other`, the reservation by
`received_intakeUsed`. -/
theorem framingErrorDiscardsRecord : Obligations.FramingErrorDiscardsRecord := by
  refine ⟨fun s rx clocked hrx => ?broken, fun s first released idle => ?unheaded, fun s first => ?uncounted,
    fun s clocked hrx => ?absent⟩
  case broken =>
    have fetched : ∀ served, rx.cutMiso clocked = misoBytes served clocked →
        sentBytes served clocked (rx.cutMiso clocked) := fun served h => h ▸ misoBytes_sent served clocked
    refine ⟨_, framingError_afterHeader hrx clocked, ?_⟩
    rw [framing_eq]
    refine ⟨rfl, rfl, fun hd => received_intakeUsed hrx hd, fun snapshot hd => fetched _ ?_, fun r hd => fetched _ ?_,
      fun hd => fetched _ ?_, fun live queue => cutMiso_of_other live queue clocked⟩ <;>
    rw [Rx.cutMiso, hd]
    rfl
  case unheaded =>
    have judged : first.all s.addressed = true ↔ ∀ b, first = some b → b.toNat = s.link.address.val ∨ b = 0x0F := by
      cases first <;> simp [addressed_iff]
    refine ⟨_, framingError_beforeHeader released idle first, ?_⟩
    rw [framing_eq]
    refine ⟨rfl, ?_⟩
    simp only [judged]
    rfl
  case uncounted =>
    exact congrArg Outcome.next (if_pos (by simp))
  case absent =>
    change execFramingError (.afterHeader clocked) s = _
    simp only [execFramingError, hrx]

end Sys2Proof.Machine
end

section
/-! SUPPORT. Header decode (R152, R154 to R157): the disposition of each kind in each power state, and what a FETCHLIVE
shows of a TEXT and of a wake from DEEP in progress (R47, R151). -/

namespace Sys2Proof.Machine

open Host (Outcome)

/-! ### Dispositions (R154, R156) -/

section Disposition

variable (s : State) (n : Nat)

theorem disposition_fetchqueue : s.disposition 0x7F n =
    some (if s.power = .starting then .overrun else .fetchQueue s.ev.replies.head?) := by
  have kind : RecordKind.ofCode 0x7F = some .fetchqueue := rfl
  simp only [State.disposition, kind]
  cases s.power <;> rfl

/-- CANCEL, HALT and RESET are express records (R155). -/
theorem disposition_express {kind : Byte} (hk : kind = 0x41 ∨ kind = 0x42 ∨ kind = 0x72) : s.disposition kind n =
    some (if s.power = .run then .express
      else if s.power = .sleep ∨ s.power = .deep then .silent else .overrun) := by
  have path : RecordKind.ofCode kind = some .cancel ∨ RecordKind.ofCode kind = some .halt ∨
      RecordKind.ofCode kind = some .reset := by rcases hk with rfl | rfl | rfl <;> decide
  rcases path with h | h | h <;> simp only [State.disposition, h] <;> cases s.power <;> rfl

theorem disposition_wake : s.disposition 0x71 n =
    some (if s.power = .starting then .overrun
      else if s.power = .sleep ∨ s.power = .deep then .wakeMatch else .ignored) := by
  have kind : RecordKind.ofCode 0x71 = some .wake := rfl
  simp only [State.disposition, kind]
  cases s.power <;> rfl

/-- Every kind of the in-order path, unknown codes included. -/
theorem disposition_inOrder {kind : Byte} (hk : inOrder kind = true) : s.disposition kind n =
    if s.power = .run then if 4 + n ≤ s.intakeFree then some .reserved else none
    else some (if s.power = .sleep ∨ s.power = .deep then .silent else .overrun) := by
  unfold inOrder at hk
  unfold State.disposition
  split at hk
  case h_7 =>
    split
    case h_7 => cases s.power <;> rfl
    all_goals contradiction
  all_goals cases hk

end Disposition

/-! ### Header decode (R152) -/

/-- A FETCHLIVE or a FETCHQUEUE addressed by broadcast (R155). -/
theorem broadcastFetch_iff {target kind : Byte} :
    broadcastFetch target kind = true ↔ target = 0x0F ∧ (kind = 0x7E ∨ kind = 0x7F) := by
  simp only [broadcastFetch, Bool.and_eq_true, Bool.or_eq_true, decide_eq_true_eq]
  rfl

theorem setMiso_findMisses (s : State) (b : Bytes) (n : Nat) :
    (s.setMiso b).findMisses n = (s.findMisses n).setMiso b := by
  unfold State.findMisses
  rw [State.setMiso_comp]
  split
  · simp only [State.setFlagIf]
    split <;> rfl
  · rfl

theorem setMiso_freeMisses (s : State) (b : Bytes) : (s.setMiso b).freeMisses = s.freeMisses.setMiso b := by
  unfold State.freeMisses
  by_cases h : s.missesLeft = []
  · rw [if_pos h, if_pos (show (s.setMiso b).missesLeft = [] from h)]
  · rw [if_neg h, if_neg (show ¬ (s.setMiso b).missesLeft = [] from h)]
    exact setMiso_findMisses s.useFree b _

theorem setMiso_freeRebuild (s : State) (b : Bytes) : (s.setMiso b).freeRebuild = s.freeRebuild.setMiso b := by
  unfold State.freeRebuild
  rw [State.setMiso_power, State.setMiso_freeCount]
  split
  · split <;> rfl
  · rfl

/-- What MISO carried is no part of what a TEXT or a wake in progress comes to. -/
theorem setMiso_advanceShown (s : State) (b : Bytes) : (s.setMiso b).advanceShown = s.advanceShown.setMiso b := by
  rw [State.advanceShown, setMiso_freeMisses, setMiso_freeRebuild]
  rfl

section Header

variable {s : State} {target kind : Byte} {n : Nat}

theorem headerDecode_eq {length : BitVec 16} (released : s.link.resetAsserted = false) (idle : s.link.rx = none) :
    exec (.headerDecode true target kind length) s = .next (s.decodeHeader target kind length.toNat) := by
  change execHeaderDecode true target kind length s = _
  simp [execHeaderDecode, released, idle]

/-- A header that is not the station's own (R152, R155; log 12). -/
theorem decodeHeader_ignores (h : ¬ (target.toNat = s.link.address.val ∨ target = 0x0F) ∨
    (target = 0x0F ∧ (kind = 0x7E ∨ kind = 0x7F))) : s.decodeHeader target kind n = s.setMiso [] := by
  rw [← addressed_iff, ← broadcastFetch_iff, Bool.not_eq_true, ← Bool.not_eq_true', ← Bool.or_eq_true] at h
  exact if_pos h

variable (sees : target.toNat = s.link.address.val ∨ target = 0x0F)
  (own : ¬ (target = 0x0F ∧ (kind = 0x7E ∨ kind = 0x7F)))

include sees own

/-- A header past the address (R152, R155). -/
theorem decodeHeader_judges : s.decodeHeader target kind n =
    if 4096 < n then (s.setMiso []).framing true
    else
      let u := if kind = 0x7E then s.advanceShown else s
      match u.disposition kind n with
      | none => (u.setMiso []).setFlag .overrun
      | some d => headerTaken u target kind n d := by
  have mine : ¬ (!(s.setMiso []).addressed target || broadcastFetch target kind) = true := by
    rw [← broadcastFetch_iff] at own
    have addressed : (s.setMiso []).addressed target = true := addressed_iff.mpr sees
    simp [own, addressed]
  have shown : (if kind = RecordKind.fetchlive.code then (s.setMiso []).advanceShown else s.setMiso []) =
      (if kind = 0x7E then s.advanceShown else s).setMiso [] := by
    rw [setMiso_advanceShown, apply_ite (State.setMiso · [])]
    rfl
  unfold State.decodeHeader
  dsimp only
  rw [if_neg mine, shown]
  rfl

/-- A header that asks for more bytes than a body may have (R152, R154). -/
theorem decodeHeader_tooLong (hn : 4096 < n) : s.decodeHeader target kind n =
    if s.power = .sleep ∨ s.power = .deep then s.setMiso [] else (s.setMiso []).setFlag .framing := by
  rw [decodeHeader_judges sees own, if_pos hn, State.framing, State.setFlagIf, Bool.true_and, State.setMiso_power]
  cases s.power <;> rfl

/-- A header whose record is received, but no FETCHLIVE. -/
theorem decodeHeader_takes (hn : n ≤ 4096) (other : kind ≠ 0x7E) {d : Disposition} (hd : s.disposition kind n = some d) :
    s.decodeHeader target kind n = headerTaken s target kind n d := by
  rw [decodeHeader_judges sees own, if_neg (Nat.not_lt.mpr hn), if_neg other]
  simp only [hd]

/-- An in-order record that meets too little room (R156). -/
theorem decodeHeader_noRoom (hn : n ≤ 4096) (other : kind ≠ 0x7E) (hd : s.disposition kind n = none) :
    s.decodeHeader target kind n = (s.setMiso []).setFlag .overrun := by
  rw [decodeHeader_judges sees own, if_neg (Nat.not_lt.mpr hn), if_neg other]
  simp only [hd]

/-- A FETCHLIVE is served the live status of the state as it is then shown (R163). -/
theorem decodeHeader_fetchlive (hn : n ≤ 4096) (live : kind = 0x7E) : s.decodeHeader target kind n =
    headerTaken s.advanceShown target kind n (.fetchLive s.advanceShown.liveStatus) := by
  subst live
  rw [decodeHeader_judges sees own, if_neg (Nat.not_lt.mpr hn)]
  rfl

omit sees own

/-- An in-order record that finds room has it reserved (R156). -/
theorem headerTaken_intakeUsed (idle : s.link.rx = none) :
    (headerTaken s target kind n .reserved).intakeUsed = s.intakeUsed + (4 + n) := by
  rw [intakeUsed_eq, intakeUsed_eq, idle]
  rfl

end Header

/-! ### What a FETCHLIVE shows (R47, R151; logs 6, 18) -/

section Shown

variable {s : State}

/-- Outside WAKING from DEEP only a TEXT in progress gets on. -/
theorem advanceShown_found (h : s.power ≠ .waking true) : ∃ found, s.missesLeft = found ++ s.advanceShown.missesLeft ∧
    (∀ pen made misses todo, s.comp.draw = some (.writing (.text pen made misses) todo) →
      s.advanceShown.comp = { s.comp with
        draw := some (.writing (.text pen (found.getLastD made) s.advanceShown.missesLeft) todo) }) ∧
    s.advanceShown = { s with
      ev := if found = [] then s.ev else (s.setFlag .glyphmiss).ev
      comp := s.advanceShown.comp, freeCount := s.advanceShown.freeCount } := by
  have awake : s.advanceShown = s.freeMisses := by
    rw [State.advanceShown, State.freeRebuild, freeMisses_frame]
    split
    · rename_i hw
      exact absurd hw h
    · rfl
  obtain ⟨found, hsplit, hev, hcomp⟩ := freeMisses_found s
  rw [awake]
  refine ⟨found, hsplit, hcomp, ?_⟩
  rw [← hev]
  have hframe := freeMisses_frame s
  generalize s.freeMisses = u at hframe ⊢
  rw [hframe]

/-- What a wake from DEEP leaves once it has rebuilt its stores (R11, R31, R73, R151). -/
def rebuilt (s u : State) : Prop :=
  u.ev = s.ev ∧ (∀ k, u.pixel k = ⟨none, 15, 15, none⟩) ∧ (∀ n, u.tables.font n = none) ∧
    u.tables.directory = [] ∧ u.tables.freeBlocks = 16384 ∧ u.tables.glyphWrite = none ∧
    u.tables.styles = s.tables.styles ∧ u.tables.pool = s.tables.pool ∧ u.comp = ⟨0, s.window, [], 0, none, none⟩

/-- In WAKING from DEEP the rebuild has been made or not. -/
theorem advanceShown_rebuilt (hp : s.power = .waking true) (hm : s.missesLeft = []) :
    s.advanceShown = { s with freeCount := s.advanceShown.freeCount } ∨ rebuilt s s.advanceShown := by
  have waking : s.advanceShown =
      if Config.walkProgress s.freeCount = 0 then s.useFree else s.useFree.rebuildAfterDeep := by
    rw [State.advanceShown, freeMisses_of_none hm, State.freeRebuild, hp]
  rw [waking]
  split
  · exact .inl rfl
  · exact .inr ⟨rfl, fun _ => rfl, emptied_font s.tables.pool, rfl, rfl, rfl, rfl, rfl, rfl⟩

/-- Of the Event and Reply Unit only the flags may change. -/
theorem advanceShown_flags (s : State) : s.advanceShown = { s with
    ev := { s.ev with flags := s.advanceShown.ev.flags }
    store := { s.store with pixels := s.advanceShown.store.pixels }
    tables := s.advanceShown.tables, comp := s.advanceShown.comp, freeCount := s.advanceShown.freeCount } := by
  obtain ⟨found, -, hev, -⟩ := freeMisses_found s
  have events : s.advanceShown.ev = { s.ev with flags := s.advanceShown.ev.flags } := by
    rw [State.advanceShown, freeRebuild_frame, hev]
    split <;> rfl
  rw [← events]
  exact advanceShown_frame s

end Shown

/-! ### HOLD (R157) -/

theorem holdLine_iff (s : State) : s.holdLine = true ↔ s.link.resetAsserted = true ∨ s.power = .starting ∨
    (∃ deep, s.power = .waking deep) ∨ (s.power = .run ∧ 12284 < s.intakeUsed) := by
  have room : s.intakeFree < Config.largestRecord ↔ 12284 < s.intakeUsed := by
    unfold State.intakeFree Config.intakeBytes Config.largestRecord
    omega
  rw [State.holdLine, Bool.or_eq_true]
  refine or_congr_right ?_
  cases s.power <;> simp [room]

/-- Settles O3: an accepted header takes its disposition (`decodeHeader_takes`), a FETCHLIVE the live status of what
`advanceShown_found`, `advanceShown_rebuilt` and `advanceShown_flags` say is shown. -/
theorem headerDecodeFollowsPowerState : Obligations.HeaderDecodeFollowsPowerState := by
  refine ⟨fun s target kind length => ⟨?uncounted, fun asserted => ?asserted⟩,
    fun s target kind length released idle => ?counted, fun s => ⟨?used, rfl, holdLine_iff s⟩⟩
  case uncounted => exact congrArg Outcome.next (if_pos (by simp))
  case asserted => exact congrArg Outcome.next (if_pos (by simp [asserted]))
  case used =>
    rw [intakeUsed_eq]
    cases s.link.rx <;> rfl
  case counted =>
    intro n quiet sees fetch
    rw [headerDecode_eq released idle]
    refine ⟨fun h => congrArg Outcome.next (decodeHeader_ignores h), fun seen own => ⟨fun long => ?_, fun fits => ?_⟩⟩
    · rw [decodeHeader_tooLong seen own long]
      rfl
    have takes : ∀ {d}, kind ≠ 0x7E → s.disposition kind n = some d →
        (.next (s.decodeHeader target kind n) : Outcome State Fault Refusal) = .next (headerTaken s target kind n d) :=
      fun other hd => congrArg Outcome.next (decodeHeader_takes seen own fits other hd)
    refine ⟨?live, ?queue, fun hk => takes (by rcases hk with rfl | rfl | rfl <;> decide) (disposition_express s n hk),
      ?wake, fun other => ?inOrder⟩
    case live =>
      rintro rfl
      exact ⟨congrArg Outcome.next (decodeHeader_fetchlive seen own fits rfl), advanceShown_of_settled,
        advanceShown_found, advanceShown_rebuilt, advanceShown_flags s⟩
    case queue =>
      rintro rfl
      exact takes (by decide) (disposition_fetchqueue s n)
    case wake =>
      rintro rfl
      exact takes (by decide) (disposition_wake s n)
    case inOrder =>
      have noLive : kind ≠ 0x7E := fun hk => other (.inl (.inl hk))
      have path := disposition_inOrder s n (inOrder_of_ne fun hk => other (by tauto))
      refine ⟨fun run room => ?_, fun run crowded => ?_, fun asleep => takes noLive (path.trans (if_neg asleep))⟩
      · exact ⟨_, takes noLive (path.trans ((if_pos run).trans (if_pos room))), rfl, headerTaken_intakeUsed idle⟩
      · exact congrArg Outcome.next (decodeHeader_noRoom seen own fits noLive
          (path.trans ((if_pos run).trans (if_neg (Nat.not_le.mpr crowded)))))

end Sys2Proof.Machine
end

section
/-! SUPPORT. The commands that wait in the model's queue (logs 1, 21, 26). `exec_keepsWaiting`: every command answers a
next state and leaves the waiting commands alone; the queue is the step's to shorten. -/

namespace Sys2Proof.Machine

open Host (Outcome)

/-- `t` has the same commands waiting as `s`. -/
def SameWaiting (s t : State) : Prop := t.pending = s.pending

theorem sameWaiting_unmoved (s : State) : Unmoved s (SameWaiting s) := ⟨rfl, fun _ _ => rfl⟩

theorem SameWaiting.trans {s t u : State} (h : SameWaiting s t) (h' : SameWaiting t u) : SameWaiting s u :=
  Eq.trans h' h

/-! ### Shared operations that leave the waiting commands -/

section Operations

variable {s : State}

theorem endUntaken_pending (s : State) (rx : Rx) : (s.endUntaken rx).pending = s.pending := by
  unfold State.endUntaken
  split <;> rfl

/-- What acts on a transaction that is over decides for the rise of CS_N. -/
theorem csRise_keepsWaiting {isKind : Byte → Bool} {body : Bytes} {f : Rx → State → State}
    (act : ∀ rx t, SameWaiting t (f rx t)) : SameWaiting s (s.csRise isKind body f) := by
  rcases csRise_cases s isKind body f with e | ⟨rx, -, -, ⟨-, e⟩ | ⟨-, e⟩⟩ <;> rw [e]
  · rfl
  · exact State.framing_pending ..
  · exact act rx (s.setRx none)

theorem express_keepsWaiting {k : RecordKind} {body : Bytes} {f : State → State} (act : ∀ t, SameWaiting t (f t)) :
    SameWaiting s (s.express k body f) :=
  csRise_keepsWaiting fun rx t => by
    split
    · exact act t
    · exact endUntaken_pending t rx

variable (s)

theorem freeAdvanceRead_pending : s.freeAdvanceRead.pending = s.pending := by rw [freeAdvanceRead_frame]

theorem advanceWalks_pending : s.advanceWalks.pending = s.pending := by rw [advanceWalks_frame]

theorem advancePass_pending (n : Nat) : (s.advancePass n).pending = s.pending := by rw [advancePass_frame]

theorem endPass_pending : s.endPass.pending = s.pending := by rw [endPass_frame]

theorem continuePass_pending : s.continuePass.pending = s.pending := by rw [continuePass_frame]

theorem reachOn_pending : s.reachOn.pending = s.pending := by rw [reachOn_frame]

theorem enterRising_pending : s.enterRising.pending = s.pending := by rw [enterRising_frame]

theorem enterFault_pending : s.enterFault.pending = s.pending := by rw [enterFault_frame]

theorem recomputeBand_pending : s.recomputeBand.pending = s.pending := by rw [recomputeBand_frame]

theorem failRead_pending (events : List WireEvent) : (s.failRead events).pending = s.pending := by rw [failRead_frame]

theorem startReadIfSensor_pending (lead : List WireEvent) : (s.startReadIfSensor lead).pending = s.pending := by
  rw [startReadIfSensor_frame]

theorem tempset_pending (source : Source) : (s.tempset source).pending = s.pending := by rw [tempset_eq]

theorem fallAsleep_pending (p : Power) : (s.fallAsleep p).pending = s.pending := by rw [fallAsleep_eq]

theorem freeMisses_pending : s.freeMisses.pending = s.pending := by rw [freeMisses_frame]

theorem advanceShown_pending : s.advanceShown.pending = s.pending := by rw [advanceShown_frame]

theorem readMany_pending (n : Nat) : (State.readMany n s).pending = s.pending := by rw [readMany_frame]

theorem startText_pending (t : TextRec) : (s.startText t).pending = s.pending := by
  unfold State.startText
  split
  · rfl
  · exact freeMisses_pending _

theorem commitBank_pending (b : BankId) : (s.commitBank b).pending = s.pending := by
  unfold State.commitBank
  rw [recomputeBand_pending]
  cases s.activeBank <;> simp

theorem resolveAndAdmit_pending (r : Request) (unknownSeen : Bool) :
    (s.resolveAndAdmit r unknownSeen).pending = s.pending := by
  unfold State.resolveAndAdmit
  split
  · rfl
  · rw [continuePass_pending, State.notify_pending]; rfl
  · exact endPass_pending s

theorem endLatch_pending (i : Fin 16) : (s.endLatch i).pending = s.pending := by
  cases h : s.slot i with
  | none => simp [State.endLatch, h]
  | some sl => rw [endLatch_frame h]

theorem cancelled_pending (tag : Byte) : (s.cancelled tag).pending = s.pending := by
  rw [cancelled_frame]
  show (s.cancelFrom tag).pending = s.pending
  rw [(cancelFrom_walkedOn s tag).frame]

theorem cancelTag_pending (tag : Byte) : (s.cancelTag tag).pending = s.pending := by
  rw [cancelTag_eq]
  split
  · rw [continuePass_pending, cancelled_pending]
  · exact cancelled_pending s tag

theorem haltAll_pending : s.haltAll.pending = s.pending := by rw [haltAll_eq]

theorem softReset_pending (keep : Bool) : (s.softReset keep).pending = s.pending := by
  obtain ⟨cut, n, -, h⟩ := softReset_blocks s keep
  rw [h]

end Operations

/-! ### The commands -/

/-- A command answers a next state with the same commands waiting. -/
def AnswersWaiting (s : State) (o : Outcome State Fault Refusal) : Prop := ∃ t, o = .next t ∧ SameWaiting s t

theorem AnswersWaiting.next {s t : State} (h : SameWaiting s t) : AnswersWaiting s (.next t) := ⟨t, rfl, h⟩

section Commands

variable (s : State)

/-! #### The Link Port (09) -/

theorem execHeaderDecode_keepsWaiting (counted : Bool) (target kind : Byte) (length : BitVec 16) :
    AnswersWaiting s (execHeaderDecode counted target kind length s) := by
  refine .next (ite_holds rfl ?_)
  unfold State.decodeHeader
  dsimp only
  refine ite_holds rfl (ite_holds (State.framing_pending ..) ?_)
  have shown : SameWaiting s
      (if kind = RecordKind.fetchlive.code then (s.setMiso []).advanceShown else s.setMiso []) :=
    ite_holds (advanceShown_pending _) rfl
  split <;> exact shown

theorem execRecordReceived_keepsWaiting (body : Bytes) : AnswersWaiting s (execRecordReceived body s) :=
  .next (csRise_keepsWaiting fun rx t => by
    split
    · rfl
    · exact endUntaken_pending t rx)

theorem execFramingError_keepsWaiting (cut : FramingCut) : AnswersWaiting s (execFramingError cut s) := by
  refine .next ?_
  split
  · exact ite_holds rfl (ite_holds (State.framing_pending ..) rfl)
  · split
    · rfl
    · exact State.framing_pending ..

theorem execUnknownKind_keepsWaiting : AnswersWaiting s (execUnknownKind s) := by
  refine .next (ite_holds ?_ rfl)
  split
  · rfl
  · exact ite_holds rfl rfl

theorem execFetchlive_keepsWaiting : AnswersWaiting s (execFetchlive s) := by
  refine .next ?_
  split
  · rfl
  · split <;> rfl

theorem execFetchqueue_keepsWaiting : AnswersWaiting s (execFetchqueue s) := by
  refine .next ?_
  split
  · rfl
  · split
    · rfl
    · exact ite_holds rfl rfl
    · exact ite_holds (endUntaken_pending (s.setRx none) _) rfl

/-! #### Drawing and the Table Store (02, 03, 04) -/

theorem execText_keepsWaiting : AnswersWaiting s (execText s) :=
  .next (withDraw_holds (sameWaiting_unmoved s) fun _ => by
    split
    · rfl
    · exact ite_holds rfl (startText_pending s.pop _))

theorem execHilite_keepsWaiting : AnswersWaiting s (execHilite s) :=
  .next (withDraw_holds (sameWaiting_unmoved s) fun _ => by
    split
    · rfl
    · exact ite_holds rfl rfl)

theorem execClippush_keepsWaiting : AnswersWaiting s (execClippush s) :=
  .next (withDraw_holds (sameWaiting_unmoved s) fun _ => by
    split
    · rfl
    · exact State.setFlagIf_pending ..)

theorem execClippop_keepsWaiting : AnswersWaiting s (execClippop s) :=
  .next (withDraw_holds (sameWaiting_unmoved s) fun _ => by
    split
    · rfl
    · exact State.setFlagIf_pending ..)

theorem execDrawEnd_keepsWaiting : AnswersWaiting s (execDrawEnd s) := by
  refine .next ?_
  split
  · dsimp only
    split
    · exact State.setFlagIf_pending ..
    all_goals rfl
  · rfl

theorem execGlyphWriteEnd_keepsWaiting : AnswersWaiting s (execGlyphWriteEnd s) := by
  refine .next ?_
  split
  · rfl
  · dsimp only
    split
    · exact startText_pending ..
    · rfl
    · rfl

/-! #### Waveforms (05) -/

theorem execWavebegin_keepsWaiting : AnswersWaiting s (execWavebegin s) :=
  .next (withHead_holds (sameWaiting_unmoved s) fun _ => by
    split
    · rfl
    · exact ite_holds rfl (State.setBank_pending ..))

theorem execWaveput_keepsWaiting : AnswersWaiting s (execWaveput s) :=
  .next (withHead_holds (sameWaiting_unmoved s) fun _ => by
    split
    · rfl
    · split
      · rfl
      · exact State.setBank_pending ..)

theorem execWavecommit_keepsWaiting : AnswersWaiting s (execWavecommit s) :=
  .next (withHead_holds (sameWaiting_unmoved s) fun _ => by
    split
    · rfl
    · split
      · rfl
      · exact ite_holds rfl (commitBank_pending s.pop _))

/-! #### Updates (07) -/

theorem execUpdate_keepsWaiting : AnswersWaiting s (execUpdate s) :=
  .next (withHead_holds (sameWaiting_unmoved s) fun _ => by
    split
    · rfl
    · exact ite_holds (State.notify_pending ..) (ite_holds rfl rfl))

theorem execAdmissionPass_keepsWaiting : AnswersWaiting s (execAdmissionPass s) := by
  refine .next (ite_holds ((continuePass_pending _).trans ?_) rfl)
  rw [beginPass_eq]

theorem execResolutionPixelReadsEnd_keepsWaiting : AnswersWaiting s (execResolutionPixelReadsEnd s) := by
  refine .next ?_
  split
  · exact ite_holds (continuePass_pending _) rfl
  · exact resolveAndAdmit_pending s _ _
  · rfl

theorem execLatchEnd_keepsWaiting : AnswersWaiting s (execLatchEnd s) := by
  refine .next ?_
  split
  · refine ite_holds rfl (SameWaiting.trans (freeAdvanceRead_pending s) ?_)
    dsimp only
    split
    · exact (continuePass_pending _).trans ((endLatch_pending _ _).trans (advancePass_pending _ _))
    · rfl
  · rfl

theorem execFrameEnd_keepsWaiting : AnswersWaiting s (execFrameEnd s) := by
  refine .next (ite_holds (SameWaiting.trans (advanceWalks_pending s) ?_) rfl)
  rw [frameEnd_frame]; rfl

/-! #### The Event and Reply Unit (09) -/

theorem execReadGlyph_keepsWaiting : AnswersWaiting s (execReadGlyph s) :=
  have h := sameWaiting_unmoved s
  .next (withRead_holds h fun _ => ite_holds rfl (ite_holds rfl (ifRoom_holds h (ite_holds rfl rfl))))

theorem execReadPixels_keepsWaiting : AnswersWaiting s (execReadPixels s) :=
  have h := sameWaiting_unmoved s
  .next (withRead_holds h fun _ => ite_holds rfl (by
    split
    · rfl
    · exact ifRoom_holds h rfl))

theorem execReadPixelsEnd_keepsWaiting : AnswersWaiting s (execReadPixelsEnd s) := by
  refine .next ?_
  split
  · rename_i r _
    dsimp only
    split <;> exact readMany_pending s r.todo.length
  · rfl

/-! #### Power states and resets (09) -/

theorem execWake_keepsWaiting (body : Bytes) : AnswersWaiting s (execWake body s) :=
  .next (csRise_keepsWaiting fun rx t => by
    split
    · refine ite_holds ?_ rfl
      split <;> rfl
    · exact endUntaken_pending t rx)

theorem execWakingEnd_keepsWaiting : AnswersWaiting s (execWakingEnd s) := by
  refine .next ?_
  split
  · rename_i fromDeep _
    refine (startReadIfSensor_pending _ []).trans ?_
    cases fromDeep <;> rfl
  · rfl

theorem resetRecord_keepsWaiting (option : Nat) (keep : Bool) (body : Bytes) :
    AnswersWaiting s (.next (s.resetRecord option keep body)) :=
  .next (ite_holds rfl (express_keepsWaiting fun t => ite_holds rfl (ite_holds rfl (softReset_pending t keep))))

end Commands

/-- Every command answers a next state and leaves the waiting commands alone (logs 21, 25, 26). -/
theorem exec_keepsWaiting (c : Instr) (s : State) : AnswersWaiting s (exec c s) := by
  have h := sameWaiting_unmoved s
  cases c with
  | pinReset => exact .next rfl
  | resetNRelease a0 a1 => exact .next (ite_holds rfl rfl)
  | startingEnd => exact .next (ite_holds (startReadIfSensor_pending _ []) rfl)
  | headerDecode counted target kind length => exact execHeaderDecode_keepsWaiting s counted target kind length
  | recordReceived body => exact execRecordReceived_keepsWaiting s body
  | framingError cut => exact execFramingError_keepsWaiting s cut
  | unknownKind => exact execUnknownKind_keepsWaiting s
  | fill => exact .next (withDraw_holds h fun _ => by split <;> rfl)
  | text => exact execText_keepsWaiting s
  | hilite => exact execHilite_keepsWaiting s
  | copy => exact .next (withDraw_holds h fun _ => by split <;> rfl)
  | clippush => exact execClippush_keepsWaiting s
  | clippop => exact execClippop_keepsWaiting s
  | clipreset => exact .next (withDraw_holds h fun _ => by split <;> rfl)
  | drawEnd => exact execDrawEnd_keepsWaiting s
  | fontdef => exact .next (withTable_holds h fun _ => by split <;> rfl)
  | fontdrop => exact .next (withTable_holds h fun _ => by split <;> rfl)
  | glyphput => exact .next (withTable_holds h fun _ => by split <;> rfl)
  | glyphWriteEnd => exact execGlyphWriteEnd_keepsWaiting s
  | glyphdrop => exact .next (withTable_holds h fun _ => by split <;> rfl)
  | kernload => exact .next (withTable_holds h fun _ => by split <;> rfl)
  | styleset => exact .next (withTable_holds h fun _ => by split <;> rfl)
  | wavebegin => exact execWavebegin_keepsWaiting s
  | waveput => exact execWaveput_keepsWaiting s
  | wavecommit => exact execWavecommit_keepsWaiting s
  | update => exact execUpdate_keepsWaiting s
  | admissionPass => exact execAdmissionPass_keepsWaiting s
  | latchEnd => exact execLatchEnd_keepsWaiting s
  | frameEnd => exact execFrameEnd_keepsWaiting s
  | cancel body => exact .next (express_keepsWaiting fun t => ite_holds rfl (cancelTag_pending t _))
  | halt body => exact .next (express_keepsWaiting fun t => ite_holds rfl (haltAll_pending t))
  | panelset => exact .next (withHead_holds h fun _ => by
      split
      · rfl
      · exact ite_holds rfl (ite_holds rfl rfl))
  | reinitEnd => exact .next (ite_holds rfl rfl)
  | railctlOff => exact .next (withRailctl_holds h (ite_holds rfl (by split <;> rfl)))
  | railctlClear => exact .next (withRailctl_holds h (ite_holds rfl rfl))
  | pgoodAsserted => exact .next (ite_holds (reachOn_pending _) rfl)
  | pgoodLost => exact .next (ite_holds (enterFault_pending _) rfl)
  | riseTimerExpiry => exact .next (ite_holds (enterFault_pending s) rfl)
  | holdTimerExpiry => exact .next (ite_holds rfl rfl)
  | fallTimerExpiry => exact .next (ite_holds (ite_holds (enterRising_pending _) rfl) rfl)
  | tempsetFixed =>
    exact .next (withTempset_holds h fun _ => (recomputeBand_pending _).trans (tempset_pending s.pop .fixed))
  | tempsetSensor => exact .next (withTempset_holds h fun _ => tempset_pending s.pop .sensor)
  | sampleIntervalExpiry => exact .next (ite_holds rfl rfl)
  | sensorReadEnd raw => exact .next (ite_holds (recomputeBand_pending _) rfl)
  | sensorNoAck => exact .next (ite_holds (failRead_pending s _) rfl)
  | sensorReadTimeout => exact .next (ite_holds (failRead_pending s.useFree _) rfl)
  | evmask => exact .next (withHead_holds h fun _ => by split <;> rfl)
  | evclear => exact .next (withHead_holds h fun _ => by
      split
      · rfl
      · exact freeMisses_pending s)
  | readGlyph => exact execReadGlyph_keepsWaiting s
  | readGlyphEnd => exact .next (by split <;> rfl)
  | readKern => exact .next (withRead_holds h fun _ => ite_holds rfl (ite_holds rfl (ifRoom_holds h rfl)))
  | readStyle => exact .next (withRead_holds h fun _ => ite_holds rfl (ifRoom_holds h rfl))
  | readWave => exact .next (withRead_holds h fun _ => ite_holds rfl (ifRoom_holds h rfl))
  | readResidue => exact .next (withRead_holds h fun _ => ifRoom_holds h rfl)
  | readPixels => exact execReadPixels_keepsWaiting s
  | readPixelsEnd => exact execReadPixelsEnd_keepsWaiting s
  | sleep => exact .next (withSleep_holds h (fallAsleep_pending s .sleep))
  | sleepDeep => exact .next (withSleep_holds h (fallAsleep_pending s .deep))
  | wake body => exact execWake_keepsWaiting s body
  | wakingEnd => exact execWakingEnd_keepsWaiting s
  | reset body => exact resetRecord_keepsWaiting s 0 false body
  | resetKeepTables body => exact resetRecord_keepsWaiting s 1 true body
  | fetchlive => exact execFetchlive_keepsWaiting s
  | fetchqueue => exact execFetchqueue_keepsWaiting s
  | resolutionPixelReadsEnd => exact execResolutionPixelReadsEnd_keepsWaiting s

/-! ### The step -/

theorem step_of_pending_nil {s : State} (h : s.pending = []) : step s = .next s := by
  unfold step; rw [h]

theorem step_of_pending_cons {s : State} {c : Instr} {rest : List Instr} (h : s.pending = c :: rest) :
    step s = exec c { s with pending := rest } := by
  unfold step; rw [h]

/-- Settles O1: the step is the front command's own run, and `exec_keepsWaiting` says what that leaves. -/
theorem stepRunsFrontCommand : Obligations.StepRunsFrontCommand := by
  refine ⟨fun c rest s h => ?_, fun s => step_of_pending_nil⟩
  obtain ⟨t, runs, waiting⟩ := exec_keepsWaiting c { s with pending := rest }
  exact ⟨t, (step_of_pending_cons h).trans runs, runs, waiting⟩

end Sys2Proof.Machine
end
